-- ==== Sys2Proof/Word.lean ====
section
/-! DEFINITION. The word types of the Ostrigo 6240: bytes of the gauge link, part time, sequence numbers and tube ids.
Each is a bit vector because the manual wraps it (R1, R66, R142) or carries it whole in a frame field (R177). -/

namespace Sys2Proof

/-- One byte of a gauge-link frame (R175). -/
abbrev Byte := BitVec 8

/-- A part time: a 32-bit counter of microseconds that wraps (R1). -/
abbrev Time := BitVec 32

/-- A trace or position sequence number, 0..65535, which wraps (R142). -/
abbrev Seq := BitVec 16

/-- A tube id, 0..65535, which wraps (R66). -/
abbrev TubeId := BitVec 16

/-- A sensing head, 0..7 (R4). -/
abbrev HeadNo := Fin 8

/-- A pyrometer channel, 0..3 (R4). -/
abbrev ChannelNo := Fin 4

end Sys2Proof
end

