-- ==== Sys2Proof/Config.lean ====
section
/-! DEFINITION. What the manual leaves open and the model leaves free: constants with no body, so that no proof can rest on
a value of them. -/

namespace Sys2Proof

/-- Which tube id a fault capture filled by MAP_RECLAIM names. R173 says "the tube id named in the occurrence's detail" and
the detail of MAP_RECLAIM (R166) names two, the receiving and the losing one; the manual does not say which.
DESIGN CHOICE, safe: a free value between the two (log 12). -/
opaque Config.reclaimCaptureTakesReceiving : Bool

/-- Whether the source code in the detail of MALFORMED names the head whose code it is, as "the head named in the detail" of
a fault capture (R173). R166 gives that detail as "the source code as read", and R138 speaks of "the head named by the source"
in its test 5 alone; the manual does not say whether a capture takes it.
DESIGN CHOICE, safe: a free value for each code (log 33). -/
opaque Config.sourceNamesHead : Byte → Bool

/-- The bytes sent for a number that its field cannot hold. R181 gives the bin of a READING frame 4 bytes, and R50 lets an
extrapolated travel, and with it the bin of R55, pass every bound; the manual states no bytes for it.
DESIGN CHOICE, safe: free bytes, given the field's size and the number (log 13). -/
opaque Config.oversizeField : Nat → Nat → Nat

end Sys2Proof
end

