-- ==== Sys2Proof/Syntax.lean ====
section
/-! DEFINITION. The commands of the block: one constructor of `Instr` for each row of spec/opcode_table.json, with the
row's operands. A frame that passed its port's tests is an operand as its fields (chapter 13 gives their bytes, read by
`headLinkCommand` and `millLinkCommand` of Decode.lean). -/

namespace Sys2Proof

/-- The sample interval of a trace: code 0, 1 or 2 (R10). -/
inductive Interval where
  | ns10
  | ns20
  | ns40
  deriving DecidableEq, Repr

/-- A trace as its TRACE frame carries it (R10, R178). The sample count N is the number of sample fields. -/
structure Trace where
  head : HeadNo
  interval : Interval
  sequence : Seq
  timestamp : Time
  energy : Byte
  /-- the N sample fields as received, 16 bits each; R10 reads the lower 12 -/
  samples : List (BitVec 16)
  deriving DecidableEq, Repr

/-- A POSITION frame's fields (R43), each as wide as R178 carries it: the ranges are R43's to test. -/
structure PositionFrame where
  sequence : Seq
  timestamp : Time
  angle : BitVec 16
  travel : BitVec 32
  present : Bool
  deriving DecidableEq, Repr

/-- A TEMPERATURE frame's fields (R27); `ok` is the status OK, its source gives the channel. -/
structure TemperatureFrame where
  channel : ChannelNo
  timestamp : Time
  ok : Bool
  temperature : BitVec 16
  deriving DecidableEq, Repr

/-- A REQUEST's fields as carried (R157, R179): its codes are judged by the Management Agent (R154). -/
structure Request where
  tag : Byte
  operation : Byte
  table : Byte
  selector : Byte
  index : BitVec 16
  data : List Byte
  deriving DecidableEq, Repr

/-- Which test of R138 a discarded head-link frame failed first, with the source code as read. -/
inductive HeadReject where
  /-- test 1, and the two cases of size of R176 -/
  | frameCheck
  /-- test 2 -/
  | kind (source : Byte)
  /-- test 3 -/
  | source (source : Byte)
  /-- test 4 -/
  | length (source : Byte)
  /-- test 5: a TRACE frame of this head whose fields are out of range -/
  | traceFields (head : HeadNo)
  deriving DecidableEq, Repr

/-- Which test of R154 a discarded mill-link frame failed first, with the source code as read. -/
inductive MillReject where
  /-- test 1, and the two cases of size of R176 -/
  | frameCheck
  /-- test 2 -/
  | kind (source : Byte)
  /-- test 3 -/
  | source (source : Byte)
  /-- test 4: the source is then 0x40 -/
  | length
  deriving DecidableEq, Repr

/-- The two tube contexts (R61). -/
inductive Ctx where
  | a
  | b
  deriving DecidableEq, Repr

/-- The commands: one constructor for each row of spec/opcode_table.json. -/
inductive Instr where
  | powerOnReset
  | headLinkUp
  /-- `cut`: a frame was partly received when the link went DOWN (R136) -/
  | headLinkDown (cut : Bool)
  | traceFrame (t : Trace)
  | positionFrame (f : PositionFrame)
  | temperatureFrame (f : TemperatureFrame)
  | headFrameRejected (r : HeadReject)
  | timeMark
  | timeMarkSent
  | headSilenceExpiry (h : HeadNo)
  | tempRecordExpiry (ch : ChannelNo)
  | evaluationStart
  | evaluationCompletion
  | positionSilenceExpiry
  | settleLimitExpiry (c : Ctx)
  | settleCompletion
  | calibrationTimeout
  | drainBegin
  | mapFrameQueued
  | mapEndQueued
  | millLinkUp
  /-- `cut`: an inbound frame was partly received when the link went DOWN (R147) -/
  | millLinkDown (cut : Bool)
  | requestFrame (r : Request)
  | millFrameRejected (r : MillReject)
  | transmissionStart
  | transmissionCompletion
  | responseHeldRelease
  | read
  | write
  | exchange
  | clear
  | apply
  | mode
  | calibrate
  | abortCal
  | restart
  | status
  | undefinedOperation
  deriving DecidableEq, Repr

end Sys2Proof
end

