-- ==== Sys2Proof/Machine/Basics.lean ====
section
/-! DEFINITION. Shared arithmetic of the manual's section 0.7: modular time comparison (R1), the two roundings (R2),
saturation and clamping (R3), the exact integer square root of R111; and reading and replacing an entry of a fixed table. -/

namespace Sys2Proof.Machine

/-- R1: `t1` is not later than `t2` when (t2 - t1) mod 2^32 is below 2^31. -/
def notLater (t1 t2 : Time) : Bool := (t2 - t1).toNat < 2 ^ 31

/-- R1: `t1` is later than `t2` when it is not "not later than" `t2`. -/
def laterThan (t1 t2 : Time) : Bool := !notLater t1 t2

/-- R1: the age of a stored time, modulo 2^32. -/
def age (now stored : Time) : Nat := (now - stored).toNat

/-- R2: n / d rounded half up, for n ≥ 0 and d > 0. -/
def roundHalfUp (n d : Nat) : Nat := (2 * n + d) / (2 * d)

/-- R2: n / d rounded to the nearest integer, an exact half going to the one of larger magnitude. -/
def roundHalfAway (n d : Int) : Int :=
  let q := roundHalfUp n.natAbs d.natAbs
  if (n < 0) = (d < 0) then (q : Int) else -(q : Int)

/-- R3: a count held at its upper limit. -/
def satAdd (cap n k : Nat) : Nat := min cap (n + k)

/-- R3: one more, held at the upper limit. -/
def satInc (cap n : Nat) : Nat := satAdd cap n 1

/-- R3: a value replaced by the nearer end of its range. -/
def clamp (lo hi n : Nat) : Nat := max lo (min hi n)

/-- One pass of `isqrt`: tries the binary digits of the root from the digit `k` down. -/
def isqrtFrom (n : Nat) : Nat → Nat → Nat
  | 0, r => r
  | k + 1, r => isqrtFrom n k (if (r + 2 ^ k) * (r + 2 ^ k) ≤ n then r + 2 ^ k else r)

/-- R111 step 2: the largest integer whose square does not exceed `n`. -/
def isqrt (n : Nat) : Nat := isqrtFrom n (n.log2 / 2 + 1) 0

/-- The upper limit of the wide counters (R61, R137, R139, R148). -/
def cap32 : Nat := 4294967295

/-- The upper limit of the narrow counters (R26, R42, R61, R86, R91, R114, R166). -/
def cap16 : Nat := 65535

/-- The entry `i` of a fixed table. -/
def tableGet {α : Type} {n : Nat} (v : Vector α n) (i : Fin n) : α := v[i.val]

/-- The table with its entry `i` replaced. -/
def tableSet {α : Type} {n : Nat} (v : Vector α n) (i : Fin n) (x : α) : Vector α n := v.set i.val x i.isLt

/-- The table with its entry `i` changed by `f`. -/
def tableMod {α : Type} {n : Nat} (v : Vector α n) (i : Fin n) (f : α → α) : Vector α n :=
  tableSet v i (f (tableGet v i))

/-- The eight heads in ascending order (R4). -/
def allHeads : List HeadNo := [0, 1, 2, 3, 4, 5, 6, 7]

/-- The head a number below 8 names (R4). -/
def headIndex (i : Nat) : Option HeadNo := if h : i < 8 then some ⟨i, h⟩ else none

/-- The context that is not `c` (R61). -/
def otherCtx : Ctx → Ctx
  | .a => .b
  | .b => .a

/-- The last two of a list, second newest first. -/
def lastTwo {α : Type} : List α → Option (α × α)
  | [] => none
  | [_] => none
  | [x, y] => some (x, y)
  | _ :: rest => lastTwo rest

end Sys2Proof.Machine
end

