-- ==== Sys2Proof/Machine/Codes.lean ====
section
/-! DEFINITION. The codes of a REQUEST (R157, R159, R177) and the entry data length that R180 requires of it. -/

namespace Sys2Proof.Machine

/-- The ten operations (R157), in code order. -/
inductive Operation where
  | read | write | exchange | clear | apply | mode | calibrate | abortCal | restart | status
  deriving DecidableEq, Repr

/-- The sixteen tables (R159), in code order. -/
inductive TableName where
  | head | gate | velocity | mapSetup | timing | output | calib | headStatus | tempChannel | pose
  | context | directory | mapPage | event | fault | portCounters
  deriving DecidableEq, Repr

/-- The six selectors (R157), in code order. -/
inductive Selector where
  | staged | active | current | previous | ctxA | ctxB
  deriving DecidableEq, Repr

/-- R177: the operation an operation code names. -/
def operationOf (code : Byte) : Option Operation :=
  match code.toNat with
  | 0 => some .read
  | 1 => some .write
  | 2 => some .exchange
  | 3 => some .clear
  | 4 => some .apply
  | 5 => some .mode
  | 6 => some .calibrate
  | 7 => some .abortCal
  | 8 => some .restart
  | 9 => some .status
  | _ => none

/-- R177: the table a table code names. -/
def tableOf (code : Byte) : Option TableName :=
  match code.toNat with
  | 0 => some .head
  | 1 => some .gate
  | 2 => some .velocity
  | 3 => some .mapSetup
  | 4 => some .timing
  | 5 => some .output
  | 6 => some .calib
  | 7 => some .headStatus
  | 8 => some .tempChannel
  | 9 => some .pose
  | 10 => some .context
  | 11 => some .directory
  | 12 => some .mapPage
  | 13 => some .event
  | 14 => some .fault
  | 15 => some .portCounters
  | _ => none

/-- R177: the selector a selector code names. -/
def selectorOf (code : Byte) : Option Selector :=
  match code.toNat with
  | 0 => some .staged
  | 1 => some .active
  | 2 => some .current
  | 3 => some .previous
  | 4 => some .ctxA
  | 5 => some .ctxB
  | _ => none

/-- R179: the bytes of a table's entry layout, for the tables that have one. -/
def entryBytes : TableName → Option Nat
  | .head => some 12
  | .gate => some 11
  | .velocity => some 4
  | .mapSetup => some 19
  | .timing => some 10
  | .output => some 6
  | .calib => some 4
  | .event => some 13
  | .headStatus | .tempChannel | .pose | .context | .directory | .mapPage | .fault | .portCounters => none

/-- R180: the entry data length a REQUEST with these codes must have; none where any length is accepted.
The table code is consulted only by the operations that use a table (R157; DEDUCED, log 21). -/
def requiredData (operation table : Byte) : Option Nat :=
  match operationOf operation with
  | none => none
  | some .read | some .clear => if (tableOf table).isSome then some 0 else none
  | some .write | some .exchange => (tableOf table).bind entryBytes
  | some .mode => some 1
  | some .calibrate => some 8
  | some .apply | some .abortCal | some .restart | some .status => some 0

/-- R180: the request's entry data has the length its operation and table require. -/
def requestLengthOk (r : Request) : Bool :=
  match requiredData r.operation r.table with
  | none => true
  | some n => r.data.length == n

/-- The largest payload the part accepts (R175). -/
def maxPayload : Nat := 4145

/-- R138 test 5: the sample count of a TRACE frame lies within 64..2048. -/
def sampleCountOk (t : Trace) : Bool := 64 ≤ t.samples.length && t.samples.length ≤ 2048

end Sys2Proof.Machine
end

