-- ==== Sys2Proof/Machine/Records.lean ====
section
/-! DEFINITION. The records of the blocks: table entries, traces in evaluation, readings, tubes, cells, frames and events,
each with the fields its rule gives it. Plain data only. -/

namespace Sys2Proof.Machine

/-- The state of an optical link (R136, R147). -/
inductive LinkState where
  | down | up
  deriving DecidableEq, Repr

/-- Which link a LINK_CHECK names (R166). -/
inductive LinkName where
  | head | mill
  deriving DecidableEq, Repr

/-- The mode of the part (R162), in code order (R177). -/
inductive Mode where
  | standby | measure | calibrate
  deriving DecidableEq, Repr

/-! ### Recipe tables (chapter 8): every field as carried, since a staged write stores it whatever its value (R127) -/

/-- A HEAD entry as its layout carries it (R125, R179). -/
structure HeadEntry where
  enabled : Byte
  chainStart : Byte
  pairMode : Byte
  minSep : BitVec 16
  weakPct : Byte
  minEnergy : Byte
  /-- 0..3, or 255 for NONE (R177) -/
  channel : Byte
  angleOffset : BitVec 16
  /-- signed -/
  axialOffset : BitVec 16
  deriving DecidableEq, Repr

/-- A GATE descriptor as its layout carries it (R125, R179). -/
structure GateEntry where
  kind : Byte
  enabled : Byte
  placement : Byte
  anchor : Byte
  /-- signed -/
  offset : BitVec 16
  width : BitVec 16
  threshold : BitVec 16
  /-- 0..63, or 255 for END (R177) -/
  next : Byte
  deriving DecidableEq, Repr

/-- An entry 0..15 of the VELOCITY table (R126). -/
structure VelocityEntry where
  temperature : BitVec 16
  velocity : BitVec 16
  deriving DecidableEq, Repr

/-- The MAP_SETUP entry as its layout carries it (R126, R179). -/
structure MapSetup where
  sectors : Byte
  binLen : BitVec 16
  closeMargin : BitVec 16
  gapLimit : Byte
  headZone : BitVec 16
  tailZone : BitVec 16
  windowLow : BitVec 16
  windowHigh : BitVec 16
  nominal : BitVec 16
  fallback : BitVec 16
  presenceCount : Byte
  deriving DecidableEq, Repr

/-- A recipe bank (R124): the four staged tables. -/
structure Bank where
  heads : Vector HeadEntry 8
  gates : Vector GateEntry 64
  velocityCount : BitVec 16
  velocity : Vector VelocityEntry 16
  map : MapSetup
  deriving DecidableEq, Repr

/-- The TIMING entry: five limits in ms (R133). -/
structure Timing where
  headSilence : Nat
  positionSilence : Nat
  temperatureStale : Nat
  settle : Nat
  calibration : Nat
  deriving DecidableEq, Repr

/-- A head's reading policy (R134, R152), in code order. -/
inductive ReadingPolicy where
  | off | all | validOnly | everyN
  deriving DecidableEq, Repr

/-- A head's mirror policy (R134, R25), in code order. -/
inductive MirrorPolicy where
  | off | rejected | flawed | everyN
  deriving DecidableEq, Repr

/-- An OUTPUT entry's writable fields (R134). -/
structure OutputEntry where
  reading : ReadingPolicy
  readingN : Nat
  mirror : MirrorPolicy
  mirrorN : Nat
  deriving DecidableEq, Repr

/-- A head's two decimation counters, which belong to the Mill Port (R134, R152, R153). -/
structure Decimation where
  reading : Nat
  mirror : Nat
  deriving DecidableEq, Repr

/-! ### Head Port (chapters 2 and 9) -/

/-- A head's state (R139, R140), in list order. -/
inductive HeadState where
  | disabled | unseen | active | silent
  deriving DecidableEq, Repr

/-- A head's intake record (R139). Its silence timer is the age of `lastArrival` while the head is ACTIVE (R141). -/
structure HeadRecord where
  state : HeadState
  expected : Option Seq
  lastTimestamp : Option Time
  lastArrival : Option Time
  received : Nat
  gaps : Nat
  duplicates : Nat
  queueDrops : Nat
  idleDiscards : Nat
  deriving DecidableEq, Repr

/-- What a HELD channel record holds; it is absent in NONE (R26). -/
structure HeldTemperature where
  temperature : Nat
  arrival : Time
  reported : Time
  deriving DecidableEq, Repr

/-- A pyrometer channel record (R26): NONE when `held` is absent, HELD otherwise. -/
structure ChannelRecord where
  held : Option HeldTemperature
  received : Nat
  faults : Nat
  deriving DecidableEq, Repr

/-- The Head Port's link counters (R137). -/
structure HeadCounters where
  received : Nat
  checkFailures : Nat
  malformed : Nat
  partials : Nat
  linkDowns : Nat
  marksSent : Nat
  deriving DecidableEq, Repr

/-! ### Echo Evaluator (chapter 1) -/

/-- The evaluation outcome (R23), in code order (R177). -/
inductive EvalOutcome where
  | valid | lowEnergy | noEcho1 | noEcho2 | badOrder | outOfWindow
  deriving DecidableEq, Repr

/-- The placement (R70, R71, R92, R117), in code order (R177). -/
inductive Placement where
  | mapped | lateRing | counted | outOfMap | mapFull | mismatch | beforeStart | noPose | stalePose
  | noTube | late | calibration
  deriving DecidableEq, Repr

/-- The flags of a reading (R24), in bit order (R181). -/
structure ReadingFlags where
  edge : Bool
  weak : Bool
  flaw : Bool
  fallbackPair : Bool
  tempClamp : Bool
  tempFallback : Bool
  saturated : Bool
  extrapolated : Bool
  deriving DecidableEq, Repr

/-- The evaluated reading (R24). -/
structure Reading where
  head : HeadNo
  sequence : Seq
  timestamp : Time
  generation : Nat
  outcome : EvalOutcome
  flags : ReadingFlags
  delta : Option Int
  echo1 : Option Nat
  echo2 : Option Nat
  echo3 : Option Nat
  temperature : Nat
  velocity : Nat
  thickness : Option Nat
  placement : Option Placement
  sector : Option Nat
  bin : Option Nat
  tubeId : Option TubeId
  deriving DecidableEq, Repr

/-- The fields of a head's HEAD entry that an evaluation latches (R7): not its enabled mark, and not its angle and axial
offsets, which R7 leaves to the tube context. -/
structure HeadSlice where
  chainStart : Byte
  pairMode : Byte
  minSep : BitVec 16
  weakPct : Byte
  minEnergy : Byte
  /-- 0..3, or 255 for NONE (R177) -/
  channel : Byte
  deriving DecidableEq, Repr

/-- The latched slice (R7), with the temperature fixed at the start (R30) and its channel (R31). For a calibration
evaluation `factor` and `temperature` are those of R9. -/
structure Slice where
  generation : Nat
  entry : HeadSlice
  /-- the descriptors met by the chain walk, at most eight, by value -/
  chain : List GateEntry
  velocityCount : Nat
  velocity : Vector VelocityEntry 16
  windowLow : Nat
  windowHigh : Nat
  /-- the fallback temperature -/
  fallback : Nat
  factor : Nat
  temperature : Nat
  tempFallback : Bool
  channel : Option ChannelNo
  deriving DecidableEq, Repr

/-- Whether an evaluation is tied to a calibration run (R9), and whether that run has ended since (R24). -/
inductive Tie where
  | ordinary
  /-- tied to the run in progress -/
  | run
  /-- tied to a run that has ended -/
  | runEnded
  deriving DecidableEq, Repr

/-- The evaluation in flight (R5, R7, R9). -/
structure Evaluation where
  trace : Trace
  slice : Slice
  tie : Tie
  deriving DecidableEq, Repr

/-! ### Pose Tracker (chapter 3) -/

/-- A position sample (R42). -/
structure Sample where
  sequence : Seq
  timestamp : Time
  angle : Nat
  travel : Nat
  present : Bool
  deriving DecidableEq, Repr

/-- The feed state (R46). -/
inductive FeedState where
  | waiting | live | silent
  deriving DecidableEq, Repr

/-- The presence state (R57). -/
inductive Presence where
  | absent | present
  deriving DecidableEq, Repr

/-- The first frame of a presence run (R57). -/
structure RunFirst where
  timestamp : Time
  travel : Nat
  deriving DecidableEq, Repr

/-- The Pose Tracker's state (R42). -/
structure PoseTracker where
  /-- oldest first -/
  ring : List Sample
  feed : FeedState
  lastAcceptance : Option Time
  /-- the pending list, oldest first -/
  waiting : List Reading
  presence : Presence
  runLength : Nat
  runFirst : Option RunFirst
  accepted : Nat
  orderDiscards : Nat
  rangeDiscards : Nat
  silenceExpiries : Nat
  deriving DecidableEq, Repr

/-! ### Tube Tracker and Wall Map (chapters 4 to 6) -/

/-- The stage of a context that is not FREE (R61, R63). -/
inductive Stage where
  | active | settling | closedWait | draining
  deriving DecidableEq, Repr

/-- Why a tube ended (R61), in list order. -/
inductive CloseReason where
  | presenceEnd | positionLost | modeChange | truncated
  deriving DecidableEq, Repr

/-- The fields fixed when a tube ends (R67). -/
structure TubeEnd where
  time : Time
  travel : Nat
  length : Nat
  reason : CloseReason
  deriving DecidableEq, Repr

/-- A context's map setup copy (R61). -/
structure MapCopy where
  sectors : Nat
  binLen : Nat
  closeMargin : Nat
  gapLimit : Nat
  headZone : Nat
  tailZone : Nat
  windowLow : Nat
  windowHigh : Nat
  deriving DecidableEq, Repr

/-- An enabled head with the offsets its context latched (R54, R61). -/
structure LatchedHead where
  head : HeadNo
  angleOffset : Nat
  axialOffset : Int
  deriving DecidableEq, Repr

/-- A present entry of a segment directory (R86). -/
structure DirEntry where
  page : Nat
  readings : Nat
  deriving DecidableEq, Repr

/-- An entry of a ring digest list (R80). -/
structure DigestEntry where
  bin : Nat
  mean : Nat
  min : Nat
  minSector : Nat
  max : Nat
  maxSector : Nat
  eccentricity : Option Nat
  deriving DecidableEq, Repr

/-- The worst condition (R171), in code order (R181). -/
inductive Condition where
  | clear | note | degraded | failed
  deriving DecidableEq, Repr

/-- The record of a context that is not FREE (R61). -/
structure Tube where
  stage : Stage
  id : TubeId
  startTime : Time
  startTravel : Nat
  /-- absent while ACTIVE -/
  ended : Option TubeEnd
  generation : Nat
  setup : MapCopy
  /-- ascending -/
  heads : List LatchedHead
  /-- the present entries of the segment directory, by ascending segment; an unlisted segment is absent -/
  directory : List (Nat × DirEntry)
  nextRing : Nat
  binsClosed : Nat
  /-- in closing order -/
  digest : List DigestEntry
  outcomes : Vector Nat 6
  placements : Vector Nat 12
  headsLost : Vector Bool 8
  pagesUsed : Nat
  pagesTaken : Nat
  pagesLost : Nat
  worstSeen : Condition
  /-- present in SETTLING only -/
  settleEntry : Option Time
  deriving DecidableEq, Repr

/-- The retired span of a context that last went FREE by drain (R62). -/
structure RetiredSpan where
  id : TubeId
  startTime : Time
  endTime : Time
  deriving DecidableEq, Repr

/-- The Tube Tracker's state (R61, R62). A context is FREE when it has no tube record: R61 gives a FREE context's record
one fixed content, every field absent, empty or zero (DEDUCED, safe: log 8). -/
structure TubeTracker where
  a : Option Tube
  b : Option Tube
  idCounter : TubeId
  newest : Option Ctx
  retiredA : Option RetiredSpan
  retiredB : Option RetiredSpan
  deriving DecidableEq, Repr

/-- A cell (R91): sum, min and max are absent at count 0. -/
structure Cell where
  count : Nat
  sum : Option Nat
  min : Option Nat
  max : Option Nat
  flaws : Nat
  extrapolated : Bool
  deriving DecidableEq, Repr

/-- The Wall Map's state (R83): the cells of the page pool and the free list. -/
structure WallMap where
  /-- the cells that are not cleared, by strictly rising address page * 256 + cell index -/
  pool : List (Nat × Cell)
  /-- head first -/
  free : List Nat
  deriving DecidableEq, Repr

/-- The Drain Engine while it is not IDLE (R95). -/
structure Drain where
  ctx : Ctx
  cursor : Nat
  sent : Nat
  /-- WAITING; SENDING when false -/
  waiting : Bool
  deriving DecidableEq, Repr

/-! ### Rings and summaries (chapters 4 and 6) -/

/-- A ring's zone (R112). -/
inductive Zone where
  | headEnd | body
  deriving DecidableEq, Repr

/-- A ring's status (R106). -/
inductive RingStatus where
  | complete | partialRing | empty
  deriving DecidableEq, Repr

/-- A sector mean with its mark (R107, R108). -/
inductive SectorMean where
  | measured (mean : Nat)
  | filled (mean : Nat)
  | absent
  deriving DecidableEq, Repr

/-- The ring record (R113). -/
structure RingRecord where
  tubeId : TubeId
  bin : Nat
  closeTime : Time
  zone : Zone
  status : RingStatus
  sectors : Nat
  means : List SectorMean
  mean : Option Nat
  min : Option (Nat × Nat)
  max : Option (Nat × Nat)
  eccentricity : Option Nat
  thinSector : Option Nat
  readings : Nat
  flaws : Nat
  deriving DecidableEq, Repr

/-- The body statistics of a tube summary (R80). Extremes come as (value, bin, sector) and (value, bin). -/
structure BodyStats where
  count : Nat
  mean : Option Nat
  min : Option (Nat × Nat × Nat)
  max : Option (Nat × Nat × Nat)
  maxEccentricity : Option (Nat × Nat)
  deriving DecidableEq, Repr

/-- The TUBE frame's fields (R79). The placement counts are kept for all twelve codes; the frame carries the nine of R79. -/
structure TubeSummary where
  tubeId : TubeId
  startTime : Time
  endTime : Time
  length : Nat
  reason : CloseReason
  generation : Nat
  binsClosed : Nat
  tailBin : Nat
  body : BodyStats
  outcomes : Vector Nat 6
  placements : Vector Nat 12
  headsLost : Vector Bool 8
  pagesUsed : Nat
  pagesTaken : Nat
  worstSeen : Condition
  deriving DecidableEq, Repr

/-- A MAP frame's fields (R97). -/
structure MapFrame where
  tubeId : TubeId
  segment : Nat
  firstBin : Nat
  sectors : Nat
  readings : Nat
  /-- the 256 cells in cell-index order -/
  cells : List Cell
  deriving DecidableEq, Repr

/-- A frame of the MAP class (R149). -/
inductive MapClassFrame where
  | page (f : MapFrame)
  /-- MAP_END: tube id, pages sent, pages reclaimed (R99) -/
  | finish (tubeId : TubeId) (sent reclaimed : Nat)
  deriving DecidableEq, Repr

/-! ### Calibration (chapter 7) -/

/-- The outcome of a calibration run (R121), in code order (R181). -/
inductive CalOutcome where
  | applied | unstable | outOfRange | timeout | aborted
  deriving DecidableEq, Repr

/-- The calibration run record while RUNNING (R114); it is absent in NONE. -/
structure CalRun where
  head : HeadNo
  reference : Nat
  temperature : Nat
  traces : Nat
  tolerance : Nat
  startTime : Time
  counted : Nat
  sum : Nat
  min : Option Nat
  max : Option Nat
  notCounted : Nat
  deriving DecidableEq, Repr

/-- The CAL_RESULT frame's fields (R121). -/
structure CalResult where
  head : HeadNo
  outcome : CalOutcome
  oldFactor : Nat
  newFactor : Option Nat
  measured : Option Nat
  counted : Nat
  spread : Option Nat
  duration : Nat
  deriving DecidableEq, Repr

/-- A frame of the SUMMARY class (R149). -/
inductive SummaryFrame where
  | ring (r : RingRecord)
  | tube (t : TubeSummary)
  | calResult (c : CalResult)
  deriving DecidableEq, Repr

/-! ### Events (chapter 12) -/

/-- The severities (R166), in list order. -/
inductive Severity where
  | note | degraded | failed
  deriving DecidableEq, Repr

/-- The 22 event kinds, in index order (R166). -/
inductive EventKind where
  | linkCheck | malformed | seqGap | duplicate | headChange | headLost | allHeadsLost | queueOverflow
  | positionOrder | positionLost | tempFallback | flaw | mapFull | mapReclaim | drainTruncated
  | summaryLost | noticeLost | recipeRejected | settleTimeout | lateReading | calDone | requestDropped
  deriving DecidableEq, Repr

/-- The status codes of a RESPONSE (R158), in code order (R177). -/
inductive Status where
  | ok | okClamped | pending | accepted | badTable | badIndex | readOnly | emptyContext | emptySegment
  | busy | noRecipe | refusedMode | noHead | chainInvalid | velocityInvalid | mapInvalid
  deriving DecidableEq, Repr

/-- The detail of an occurrence (R166), one form for each shape of the detail column. -/
inductive Detail where
  | link (l : LinkName)
  | source (code : Byte)
  | headMissed (h : HeadNo) (missed : Nat)
  | headSequence (h : HeadNo) (sequence : Seq)
  | headStates (h : HeadNo) (reported now : HeadState)
  | headTube (h : HeadNo) (tube : TubeId)
  | tube (tube : TubeId)
  | time (t : Time)
  | headChannel (h : HeadNo) (ch : Option ChannelNo)
  | head (h : HeadNo)
  | tubeSegment (tube : TubeId) (segment : Nat)
  | reclaim (receiving : TubeId) (segment : Nat) (losing : TubeId) (lost : Nat)
  | tubeContext (tube : TubeId) (c : Ctx)
  /-- SUMMARY_LOST of a RING or TUBE frame, by its kind code -/
  | frameTube (kind : Byte) (tube : TubeId)
  /-- SUMMARY_LOST of a CAL_RESULT frame -/
  | frameHead (kind : Byte) (h : HeadNo)
  | kind (k : EventKind)
  | failure (code : Status) (argument : Nat)
  | tubeHead (tube : TubeId) (h : HeadNo)
  | headOutcome (h : HeadNo) (o : CalOutcome)
  | tag (t : Byte)
  deriving DecidableEq, Repr

/-- An event record (R166). -/
structure EventRecord where
  severity : Severity
  report : Bool
  flag : Bool
  count : Nat
  firstTime : Option Time
  lastTime : Option Time
  deriving DecidableEq, Repr

/-- Why a NOTICE was built (R168). -/
inductive NoticeCause where
  | occurrence | enable
  deriving DecidableEq, Repr

/-- The NOTICE frame's fields (R168). -/
structure Notice where
  cause : NoticeCause
  kind : EventKind
  severity : Severity
  time : Option Time
  count : Nat
  worst : Condition
  detail : Option Detail
  deriving DecidableEq, Repr

/-- The fault capture record while HELD (R173). The stages are absent for a FREE context. -/
structure Capture where
  kind : EventKind
  time : Time
  tubeId : Option TubeId
  head : Option HeadNo
  stageA : Option Stage
  stageB : Option Stage
  mode : Mode
  queueDepth : Nat
  overflow : Nat
  deriving DecidableEq, Repr

/-! ### Responses and frames (chapters 10, 11 and 13) -/

/-- A link's and a class queue's figures as PORT_COUNTERS shows them (R148, R179). -/
structure MillCounters where
  received : Nat
  checkFailures : Nat
  malformed : Nat
  partials : Nat
  linkDowns : Nat
  requestDrops : Nat
  sent : Vector Nat 6
  dropped : Vector Nat 6
  lost : Vector Nat 6
  deriving DecidableEq, Repr

/-- The CALIBRATE layout as stored (R115, R179). -/
structure CalFields where
  head : HeadNo
  reference : Nat
  temperature : Nat
  traces : Nat
  tolerance : Nat
  deriving DecidableEq, Repr

/-- The PORT_COUNTERS entry (R179). -/
structure PortView where
  headLink : LinkState
  millLink : LinkState
  head : HeadCounters
  mill : MillCounters
  /-- the depth of each class queue, in priority order -/
  depths : List Nat
  requestDepth : Nat
  deriving DecidableEq, Repr

/-- The POSE entry (R60). -/
structure PoseView where
  feed : FeedState
  lastAcceptance : Option Time
  ring : List Sample
  waiting : Nat
  presence : Presence
  runLength : Nat
  runFirst : Option RunFirst
  accepted : Nat
  orderDiscards : Nat
  rangeDiscards : Nat
  silenceExpiries : Nat
  deriving DecidableEq, Repr

/-- The run state of the part status record (R123, R165): head, K, counted number, readings not counted, elapsed µs. -/
structure RunView where
  head : HeadNo
  traces : Nat
  counted : Nat
  notCounted : Nat
  elapsed : Nat
  deriving DecidableEq, Repr

/-- The part status record (R165). -/
structure StatusRecord where
  partTime : Time
  mode : Mode
  loaded : Bool
  generation : Nat
  stagedModified : Bool
  applyPending : Bool
  contextA : Option (Stage × TubeId)
  contextB : Option (Stage × TubeId)
  queueDepth : Nat
  waitingDepth : Nat
  requestDepth : Nat
  freePages : Nat
  run : Option RunView
  worst : Condition
  deriving DecidableEq, Repr

/-- The data a RESPONSE carries (R157, R179). -/
inductive RespData where
  | none
  | headEntry (e : HeadEntry)
  | gateEntry (e : GateEntry)
  | velocityEntry (e : VelocityEntry)
  | velocityCount (n : BitVec 16)
  | mapSetup (m : MapSetup)
  | timing (t : Timing)
  | output (e : OutputEntry) (d : Decimation)
  | calib (k : Nat)
  /-- the head's intake record and, while it is ACTIVE, the time left to its silence expiry in µs (R146) -/
  | headStatus (r : HeadRecord) (left : Option Nat)
  | channel (r : ChannelRecord)
  | pose (p : PoseView)
  /-- the context's letter and its record (R81, R160) -/
  | context (c : Ctx) (t : Tube)
  /-- the context's letter, tube id, segment's first bin, S, and the entry when present (R93, R160) -/
  | directory (c : Ctx) (tube : TubeId) (firstBin sectors : Nat) (e : Option DirEntry)
  /-- the context's letter, the page number and the segment's contents (R94, R160) -/
  | mapPage (c : Ctx) (page : Nat) (f : MapFrame)
  /-- the context's letter and tube id alone, of a MAP_PAGE entry answered EMPTY_SEGMENT (R94, R160) -/
  | segmentAbsent (c : Ctx) (tube : TubeId)
  | event (r : EventRecord)
  | fault (c : Option Capture)
  | portCounters (v : PortView)
  /-- a validation failure's argument (R128, R129, R179) -/
  | argument (n : Nat)
  | generation (n : Nat)
  | mode (m : Mode)
  | calibration (f : CalFields)
  /-- ABORT_CAL: RUNNING or not -/
  | runState (running : Bool)
  | status (r : StatusRecord)
  deriving DecidableEq, Repr

/-- A RESPONSE (R157). -/
structure Response where
  tag : Byte
  status : Status
  data : RespData
  deriving DecidableEq, Repr

/-- A MIRROR frame: the trace as it arrived and the evaluated reading (R25). -/
structure MirrorFrame where
  trace : Trace
  reading : Reading
  deriving DecidableEq, Repr

/-- Any frame of the mill link's outbound direction (R149). -/
inductive Frame where
  | response (r : Response)
  | notice (n : Notice)
  | summary (f : SummaryFrame)
  | map (f : MapClassFrame)
  | reading (r : Reading)
  | mirror (m : MirrorFrame)
  deriving DecidableEq, Repr

/-- A request in processing whose RESPONSE is held (R155, R157). -/
structure Processing where
  request : Request
  response : Response
  deriving DecidableEq, Repr

end Sys2Proof.Machine
end

