-- ==== Sys2Proof/Machine/State.lean ====
section
/-! DEFINITION. The state of the part, block by block as section 0.5 lists them, its value after power-on reset, and the
reasons a step could stop for. -/

namespace Sys2Proof.Machine

/-- The Head Port: its link, the part time, the intake records and the channel records (R26, R136, R137, R139, R144, R145). -/
structure HeadPort where
  link : LinkState
  partTime : Time
  counters : HeadCounters
  /-- part time of the previous TIME_MARK -/
  lastMark : Option Time
  /-- the TIME_MARK in transmission, by the part time it carries -/
  markInFlight : Option Time
  heads : Vector HeadRecord 8
  channels : Vector ChannelRecord 4
  deriving DecidableEq, Repr

/-- The Mill Port (R147 to R156). -/
structure MillPort where
  link : LinkState
  counters : MillCounters
  responseQ : List Response
  noticeQ : List Notice
  summaryQ : List SummaryFrame
  mapQ : List MapClassFrame
  readingQ : List Reading
  mirrorQ : List MirrorFrame
  /-- the frame in transmission; IDLE when absent -/
  transmitter : Option Frame
  requestQ : List Request
  decimation : Vector Decimation 8
  deriving DecidableEq, Repr

/-- The Management Agent (R114, R124, R133 to R135, R155, R157). -/
structure Agent where
  staged : Bank
  /-- absent while the active bank is EMPTY -/
  active : Option Bank
  generation : Nat
  stagedModified : Bool
  applyPending : Bool
  timing : Timing
  output : Vector OutputEntry 8
  calib : Vector Nat 8
  mode : Mode
  /-- the calibration run; absent in NONE -/
  run : Option CalRun
  processing : Option Processing
  deriving DecidableEq, Repr

/-- The Event Unit (R166, R172, R173). -/
structure EventUnit where
  records : Vector EventRecord 22
  snapshots : Vector HeadState 8
  /-- the fault capture; RELEASED when absent -/
  capture : Option Capture
  deriving DecidableEq, Repr

/-- The state of the part. `pending` is the model's own queue of commands, first in, first out. -/
structure State where
  headPort : HeadPort
  traceQueue : List Trace
  /-- the evaluation in flight; IDLE when absent -/
  evaluator : Option Evaluation
  pose : PoseTracker
  tubes : TubeTracker
  wall : WallMap
  /-- the Drain Engine; IDLE when absent -/
  drain : Option Drain
  mill : MillPort
  agent : Agent
  events : EventUnit
  pending : List Instr
  deriving DecidableEq, Repr

/-- The faults of a step. None: the manual names no condition that halts the part (every error is a counter, an event or a
status code), so no command raises one (DEDUCED, safe: log 19). -/
inductive Fault where
  deriving DecidableEq, Repr

/-- The refusals of a step. -/
inductive Refusal where
  /-- Raised by an arm of `exec` for a command that has no meaning yet; no arm raises it. Safe. -/
  | notModelled (mnemonic : String)
  deriving DecidableEq, Repr

/-! ### Power-on values -/

/-- R139: an intake record after power-on reset. -/
def HeadRecord.reset : HeadRecord :=
  { state := .disabled, expected := none, lastTimestamp := none, lastArrival := none,
    received := 0, gaps := 0, duplicates := 0, queueDrops := 0, idleDiscards := 0 }

/-- R26: a channel record after power-on reset. -/
def ChannelRecord.reset : ChannelRecord := { held := none, received := 0, faults := 0 }

/-- R137: the Head Port's counters after power-on reset and RESTART. -/
def HeadCounters.zero : HeadCounters :=
  { received := 0, checkFailures := 0, malformed := 0, partials := 0, linkDowns := 0, marksSent := 0 }

/-- R136, R139, R144: the Head Port after power-on reset. -/
def HeadPort.reset : HeadPort :=
  { link := .down, partTime := 0, counters := HeadCounters.zero, lastMark := none, markInFlight := none,
    heads := Vector.replicate 8 HeadRecord.reset, channels := Vector.replicate 4 ChannelRecord.reset }

/-- R42: the Pose Tracker after power-on reset and RESTART. -/
def PoseTracker.reset : PoseTracker :=
  { ring := [], feed := .waiting, lastAcceptance := none, waiting := [], presence := .absent, runLength := 0,
    runFirst := none, accepted := 0, orderDiscards := 0, rangeDiscards := 0, silenceExpiries := 0 }

/-- R61, R62: the Tube Tracker after power-on reset. -/
def TubeTracker.reset : TubeTracker :=
  { a := none, b := none, idCounter := 0, newest := none, retiredA := none, retiredB := none }

/-- R83: the Wall Map after power-on reset; its cells are given as cleared (DESIGN CHOICE, log 14). -/
def WallMap.reset : WallMap := { pool := [], free := List.range 384 }

/-- R148: the Mill Port's counters after power-on reset and RESTART. -/
def MillCounters.zero : MillCounters :=
  { received := 0, checkFailures := 0, malformed := 0, partials := 0, linkDowns := 0, requestDrops := 0,
    sent := Vector.replicate 6 0, dropped := Vector.replicate 6 0, lost := Vector.replicate 6 0 }

/-- R153: both decimation counters of a head after power-on reset and RESTART. -/
def Decimation.zero : Decimation := { reading := 0, mirror := 0 }

/-- R156: the Mill Port after power-on reset. -/
def MillPort.reset : MillPort :=
  { link := .down, counters := MillCounters.zero, responseQ := [], noticeQ := [], summaryQ := [], mapQ := [],
    readingQ := [], mirrorQ := [], transmitter := none, requestQ := [], decimation := Vector.replicate 8 Decimation.zero }

/-- R125: a HEAD entry's staged default. -/
def HeadEntry.default : HeadEntry :=
  { enabled := 0, chainStart := 0, pairMode := 0, minSep := 1, weakPct := 0, minEnergy := 0, channel := 255,
    angleOffset := 0, axialOffset := 0 }

/-- R125: a GATE descriptor's staged default. -/
def GateEntry.default : GateEntry :=
  { kind := 0, enabled := 0, placement := 0, anchor := 0, offset := 0, width := 4, threshold := 1, next := 255 }

/-- R126: the MAP_SETUP staged default. -/
def MapSetup.default : MapSetup :=
  { sectors := 16, binLen := 500, closeMargin := 200, gapLimit := 2, headZone := 5000, tailZone := 5000,
    windowLow := 1000, windowHigh := 65000, nominal := 20000, fallback := 1150, presenceCount := 2 }

/-- R124 to R126: the staged bank after power-on reset. -/
def Bank.default : Bank :=
  { heads := Vector.replicate 8 HeadEntry.default, gates := Vector.replicate 64 GateEntry.default, velocityCount := 0,
    velocity := Vector.replicate 16 { temperature := 0, velocity := 0 }, map := MapSetup.default }

/-- R133: the TIMING entry after power-on reset. -/
def Timing.default : Timing :=
  { headSilence := 20, positionSilence := 10, temperatureStale := 500, settle := 50, calibration := 5000 }

/-- R134: an OUTPUT entry after power-on reset. -/
def OutputEntry.default : OutputEntry := { reading := .off, readingN := 2, mirror := .off, mirrorN := 2 }

/-- R114, R124, R133 to R135, R157: the Management Agent after power-on reset. -/
def Agent.reset : Agent :=
  { staged := Bank.default, active := none, generation := 0, stagedModified := false, applyPending := false,
    timing := Timing.default, output := Vector.replicate 8 OutputEntry.default, calib := Vector.replicate 8 65536,
    mode := .standby, run := none, processing := none }

/-- R166: an event record with this severity, reported, clear. -/
def EventRecord.reset (severity : Severity) : EventRecord :=
  { severity := severity, report := true, flag := false, count := 0, firstTime := none, lastTime := none }

/-- R166, R172, R174: the Event Unit after power-on reset, with the default severities in index order. -/
def EventUnit.reset : EventUnit :=
  { records := #v[
      EventRecord.reset .note, EventRecord.reset .note, EventRecord.reset .note, EventRecord.reset .note,
      EventRecord.reset .note, EventRecord.reset .degraded, EventRecord.reset .failed, EventRecord.reset .degraded,
      EventRecord.reset .note, EventRecord.reset .degraded, EventRecord.reset .note, EventRecord.reset .note,
      EventRecord.reset .degraded, EventRecord.reset .degraded, EventRecord.reset .failed, EventRecord.reset .failed,
      EventRecord.reset .note, EventRecord.reset .degraded, EventRecord.reset .note, EventRecord.reset .note,
      EventRecord.reset .note, EventRecord.reset .note],
    snapshots := Vector.replicate 8 .disabled, capture := none }

/-- The part right after power-on reset, every block at its power-on value, no command waiting. -/
def State.reset : State :=
  { headPort := HeadPort.reset, traceQueue := [], evaluator := none, pose := PoseTracker.reset,
    tubes := TubeTracker.reset, wall := WallMap.reset, drain := none, mill := MillPort.reset, agent := Agent.reset,
    events := EventUnit.reset, pending := [] }

end Sys2Proof.Machine
end

