-- ==== Sys2Proof/Machine/Ops.lean ====
section
/-! DEFINITION. The named operations over the state: one update for each block, the records inside a block, the two tube
contexts, the page pool as an addressed store of cells, segment directories, and the tick of part time. -/

namespace Sys2Proof.Machine

/-! ### One update for each block (section 0.5) -/

/-- The state with the Head Port replaced. -/
def State.setHeadPort (s : State) (x : HeadPort) : State := { s with headPort := x }

/-- The state with the Trace Queue replaced. -/
def State.setTraceQueue (s : State) (x : List Trace) : State := { s with traceQueue := x }

/-- The state with the evaluation in flight replaced. -/
def State.setEvaluator (s : State) (x : Option Evaluation) : State := { s with evaluator := x }

/-- The state with the Pose Tracker replaced. -/
def State.setPose (s : State) (x : PoseTracker) : State := { s with pose := x }

/-- The state with the Tube Tracker replaced. -/
def State.setTubes (s : State) (x : TubeTracker) : State := { s with tubes := x }

/-- The state with the Wall Map replaced. -/
def State.setWall (s : State) (x : WallMap) : State := { s with wall := x }

/-- The state with the Drain Engine replaced. -/
def State.setDrain (s : State) (x : Option Drain) : State := { s with drain := x }

/-- The state with the Mill Port replaced. -/
def State.setMill (s : State) (x : MillPort) : State := { s with mill := x }

/-- The state with the Management Agent replaced. -/
def State.setAgent (s : State) (x : Agent) : State := { s with agent := x }

/-- The state with the Event Unit replaced. -/
def State.setEvents (s : State) (x : EventUnit) : State := { s with events := x }

/-! ### Records inside a block -/

/-- Part time now (R144). -/
def State.now (s : State) : Time := s.headPort.partTime

/-- The intake record of head `h` changed by `f` (R139). -/
def modHead (h : HeadNo) (f : HeadRecord → HeadRecord) (s : State) : State :=
  s.setHeadPort { s.headPort with heads := tableMod s.headPort.heads h f }

/-- The channel record of channel `ch` changed by `f` (R26). -/
def modChannel (ch : ChannelNo) (f : ChannelRecord → ChannelRecord) (s : State) : State :=
  s.setHeadPort { s.headPort with channels := tableMod s.headPort.channels ch f }

/-- The Head Port's link counters changed by `f` (R137). -/
def modHeadCounters (f : HeadCounters → HeadCounters) (s : State) : State :=
  s.setHeadPort { s.headPort with counters := f s.headPort.counters }

/-- The Mill Port's counters changed by `f` (R148). -/
def modMillCounters (f : MillCounters → MillCounters) (s : State) : State :=
  s.setMill { s.mill with counters := f s.mill.counters }

/-- R137: one more complete frame received on the head link. -/
def countHeadFrame (s : State) : State :=
  modHeadCounters (fun c => { c with received := satInc cap32 c.received }) s

/-- R148: one more complete frame received on the mill link. -/
def countMillFrame (s : State) : State :=
  modMillCounters (fun c => { c with received := satInc cap32 c.received }) s

/-- R139: one more idle discard of head `h`. -/
def countIdleDiscard (h : HeadNo) (s : State) : State :=
  modHead h (fun r => { r with idleDiscards := satInc cap32 r.idleDiscards }) s

/-! ### Tube contexts (R61) -/

/-- The tube record of context `c`; absent when it is FREE. -/
def TubeTracker.get (t : TubeTracker) : Ctx → Option Tube
  | .a => t.a
  | .b => t.b

/-- The Tube Tracker with context `c` replaced. -/
def TubeTracker.put (t : TubeTracker) (c : Ctx) (x : Option Tube) : TubeTracker :=
  match c with
  | .a => { t with a := x }
  | .b => { t with b := x }

/-- The retired span of context `c` (R62). -/
def TubeTracker.retired (t : TubeTracker) : Ctx → Option RetiredSpan
  | .a => t.retiredA
  | .b => t.retiredB

/-- The Tube Tracker with the retired span of `c` replaced. -/
def TubeTracker.putRetired (t : TubeTracker) (c : Ctx) (x : Option RetiredSpan) : TubeTracker :=
  match c with
  | .a => { t with retiredA := x }
  | .b => { t with retiredB := x }

/-- The tube record of context `c`. -/
def tubeAt (s : State) (c : Ctx) : Option Tube := s.tubes.get c

/-- Context `c` replaced. -/
def putTube (c : Ctx) (x : Option Tube) (s : State) : State := s.setTubes (s.tubes.put c x)

/-- The tube record of context `c` changed by `f`; a FREE context is left as it stands (R63). -/
def modTube (c : Ctx) (f : Tube → Tube) (s : State) : State :=
  match tubeAt s c with
  | none => s
  | some t => putTube c (some (f t)) s

/-- Context `c` stands in this stage. -/
def stageIs (s : State) (c : Ctx) (g : Stage) : Bool :=
  match tubeAt s c with
  | none => false
  | some t => t.stage == g

/-- The ACTIVE context, if there is one (R63: at most one is). -/
def activeCtx (s : State) : Option Ctx :=
  if stageIs s .a .active then some .a else if stageIs s .b .active then some .b else none

/-- R130, R162: a context is ACTIVE or SETTLING. -/
def tubeLive (s : State) : Bool :=
  stageIs s .a .active || stageIs s .a .settling || stageIs s .b .active || stageIs s .b .settling

/-- The two contexts, the older tube's first: the newest-start mark names the newer (R65, R75, R78). -/
def olderFirst (s : State) : List Ctx :=
  match s.tubes.newest with
  | some c => [otherCtx c, c]
  | none => [.a, .b]

/-! ### The page pool as a store of cells (R83, R85, R91) -/

/-- R91: a cleared cell, and what every unlisted address of the pool reads as. -/
def clearedCell : Cell := { count := 0, sum := none, min := none, max := none, flaws := 0, extrapolated := false }

/-- The cell at an address page * 256 + cell index. -/
def readCell : List (Nat × Cell) → Nat → Cell
  | [], _ => clearedCell
  | (k, x) :: rest, a => if k = a then x else readCell rest a

/-- The pool without a listing of address `a`. -/
def dropCell : List (Nat × Cell) → Nat → List (Nat × Cell)
  | [], _ => []
  | (k, x) :: rest, a => if k = a then dropCell rest a else (k, x) :: dropCell rest a

/-- `x` listed at `a`, in its place by rising address. -/
def listCell : List (Nat × Cell) → Nat → Cell → List (Nat × Cell)
  | [], a, x => [(a, x)]
  | (k, y) :: rest, a, x => if a < k then (a, x) :: (k, y) :: rest else (k, y) :: listCell rest a x

/-- The pool with the cell at `a` replaced, in canonical form: a cleared cell is not listed. -/
def writeCell (pool : List (Nat × Cell)) (a : Nat) (x : Cell) : List (Nat × Cell) :=
  if x = clearedCell then dropCell pool a else listCell (dropCell pool a) a x

/-- R91: the 256 cells of a page cleared. -/
def clearPage (pool : List (Nat × Cell)) (page : Nat) : List (Nat × Cell) :=
  pool.filter (fun e => e.1 / 256 != page)

/-- The pool's addresses rise strictly from above `low` on and no listed cell is cleared. -/
def poolFrom : Option Nat → List (Nat × Cell) → Bool
  | _, [] => true
  | low, (k, x) :: rest =>
    (match low with
      | none => true
      | some l => l < k) && x != clearedCell && poolFrom (some k) rest

/-- The canonical form of the pool: strictly rising addresses, no cleared cell listed. -/
def poolWf (pool : List (Nat × Cell)) : Bool := poolFrom none pool

/-- R85: the address of a cell index within a page. -/
def cellAddress (page index : Nat) : Nat := page * 256 + index

/-! ### Segment directories (R86) -/

/-- The entry of a segment, when present. -/
def dirLookup (d : List (Nat × DirEntry)) (n : Nat) : Option DirEntry :=
  (d.find? (fun e => e.1 == n)).map Prod.snd

/-- The directory with an entry added at an absent segment, in its place by ascending segment. -/
def dirInsert : List (Nat × DirEntry) → Nat → DirEntry → List (Nat × DirEntry)
  | [], n, e => [(n, e)]
  | (k, x) :: rest, n, e => if n < k then (n, e) :: (k, x) :: rest else (k, x) :: dirInsert rest n e

/-- The directory with the reading count of a present segment increased by one, up to 65,535 (R92). -/
def dirCount : List (Nat × DirEntry) → Nat → List (Nat × DirEntry)
  | [], _ => []
  | (k, x) :: rest, n =>
    if k = n then (k, { x with readings := satInc cap16 x.readings }) :: rest else (k, x) :: dirCount rest n

/-- R96: the lowest present entry at or above the cursor. -/
def dirLowest (d : List (Nat × DirEntry)) (cursor : Nat) : Option (Nat × DirEntry) :=
  d.find? (fun e => decide (cursor ≤ e.1))

/-- R97: the directory after that entry becomes absent. -/
def dirRemoveLowest (d : List (Nat × DirEntry)) (cursor : Nat) : List (Nat × DirEntry) :=
  d.eraseP (fun e => decide (cursor ≤ e.1))

/-- The page numbers of a directory's present entries, in ascending segment order. -/
def dirPages (d : List (Nat × DirEntry)) : List Nat := d.map (fun e => e.2.page)

/-! ### Recipe reading -/

/-- R125: a code that says yes (1); any other code does not (DEDUCED, log 10). -/
def isYes (code : Byte) : Bool := code.toNat == 1

/-- R124: the head is enabled in the active bank; an EMPTY bank enables none. -/
def headEnabled (s : State) (h : HeadNo) : Bool :=
  match s.agent.active with
  | none => false
  | some b => isYes (tableGet b.heads h).enabled

/-! ### Part time (R144) -/

/-- One microsecond of part time passes. -/
def tick (s : State) : State := s.setHeadPort { s.headPort with partTime := s.headPort.partTime + 1 }

end Sys2Proof.Machine
end

