-- ==== Sys2Proof/Machine/Flags.lean ====
section
/-! DEFINITION. The Event Unit (chapter 12): sticky flags and counts, the worst condition, the fault capture, the
reported-state snapshots, and the NOTICE and SUMMARY offers whose drops are events themselves. -/

namespace Sys2Proof.Machine

/-- R166: the index of an event kind. -/
def EventKind.index : EventKind → Fin 22
  | .linkCheck => 0 | .malformed => 1 | .seqGap => 2 | .duplicate => 3 | .headChange => 4 | .headLost => 5
  | .allHeadsLost => 6 | .queueOverflow => 7 | .positionOrder => 8 | .positionLost => 9 | .tempFallback => 10
  | .flaw => 11 | .mapFull => 12 | .mapReclaim => 13 | .drainTruncated => 14 | .summaryLost => 15
  | .noticeLost => 16 | .recipeRejected => 17 | .settleTimeout => 18 | .lateReading => 19 | .calDone => 20
  | .requestDropped => 21

/-- R166: the kind of an index of the EVENT table. -/
def eventKindOf (i : Nat) : Option EventKind :=
  match i with
  | 0 => some .linkCheck | 1 => some .malformed | 2 => some .seqGap | 3 => some .duplicate | 4 => some .headChange
  | 5 => some .headLost | 6 => some .allHeadsLost | 7 => some .queueOverflow | 8 => some .positionOrder
  | 9 => some .positionLost | 10 => some .tempFallback | 11 => some .flaw | 12 => some .mapFull
  | 13 => some .mapReclaim | 14 => some .drainTruncated | 15 => some .summaryLost | 16 => some .noticeLost
  | 17 => some .recipeRejected | 18 => some .settleTimeout | 19 => some .lateReading | 20 => some .calDone
  | 21 => some .requestDropped
  | _ => none

/-- R171: the rank of a condition, FAILED above DEGRADED above NOTE above CLEAR. -/
def Condition.rank : Condition → Nat
  | .clear => 0 | .note => 1 | .degraded => 2 | .failed => 3

/-- The condition a severity gives (R171). -/
def Severity.condition : Severity → Condition
  | .note => .note | .degraded => .degraded | .failed => .failed

/-- The graver of two conditions. -/
def graver (x y : Condition) : Condition := if x.rank < y.rank then y else x

/-- R171: the highest severity among the records whose flag is set, or CLEAR. -/
def EventUnit.worst (u : EventUnit) : Condition :=
  u.records.toList.foldl (fun w r => if r.flag then graver w r.severity.condition else w) .clear

/-- The worst condition of the part (R171). -/
def worstCondition (s : State) : Condition := s.events.worst

/-- R79, R171: a tube's worst condition seen is raised while it is ACTIVE or SETTLING. -/
def Tube.noteWorst (w : Condition) (t : Tube) : Tube :=
  match t.stage with
  | .active | .settling => { t with worstSeen := graver t.worstSeen w }
  | .closedWait | .draining => t

/-- R171: both contexts' worst condition seen, after a step that may have raised the worst condition. -/
def noteWorst (s : State) : State :=
  s.setTubes { s.tubes with
    a := s.tubes.a.map (Tube.noteWorst (worstCondition s)),
    b := s.tubes.b.map (Tube.noteWorst (worstCondition s)) }

/-- The tube id a detail names (R166, R173). -/
def Detail.tubeId : Detail → Option TubeId
  | .headTube _ t => some t
  | .tube t => some t
  | .tubeSegment t _ => some t
  | .reclaim receiving _ losing _ => some (if Config.reclaimCaptureTakesReceiving then receiving else losing)
  | .tubeContext t _ => some t
  | .frameTube _ t => some t
  | .tubeHead t _ => some t
  | .link _ | .source _ | .headMissed _ _ | .headSequence _ _ | .headStates _ _ _ | .time _ | .headChannel _ _
  | .head _ | .frameHead _ _ | .kind _ | .failure _ _ | .headOutcome _ _ | .tag _ => none

/-- The head a detail names (R166, R173). CHAIN_INVALID has the head as its argument (R128; in section 8.7 the detail is
"CHAIN_INVALID, head 6"). Whether the detail of MALFORMED, a source code as read, names the head 0..7 whose code it is stays
free (DESIGN CHOICE, log 33). -/
def Detail.headNo : Detail → Option HeadNo
  | .headMissed h _ | .headSequence h _ | .headStates h _ _ | .headTube h _ | .headChannel h _ | .head h
  | .frameHead _ h | .tubeHead _ h | .headOutcome h _ => some h
  | .failure code argument => if code = .chainInvalid then headIndex argument else none
  | .source code => if Config.sourceNamesHead code then headIndex code.toNat else none
  | .link _ | .tube _ | .time _ | .tubeSegment _ _ | .reclaim _ _ _ _ | .tubeContext _ _ | .frameTube _ _
  | .kind _ | .tag _ => none

/-- R173: the tube id a capture records: the detail's, or the ACTIVE context's, or absent. -/
def captureTubeId (d : Detail) (s : State) : Option TubeId :=
  match d.tubeId with
  | some t => some t
  | none => (activeCtx s).bind (fun c => (tubeAt s c).map Tube.id)

/-- R173: what a RELEASED capture is filled with. -/
def captureOf (k : EventKind) (d : Detail) (s : State) : Capture :=
  { kind := k, time := s.now, tubeId := captureTubeId d s, head := d.headNo,
    stageA := s.tubes.a.map Tube.stage, stageB := s.tubes.b.map Tube.stage, mode := s.agent.mode,
    queueDepth := s.traceQueue.length, overflow := 0 }

/-- R173: a FAILED occurrence compared with the fault capture. -/
def captureFailed (k : EventKind) (d : Detail) (s : State) : State :=
  match s.events.capture with
  | none => s.setEvents { s.events with capture := some (captureOf k d s) }
  | some c => s.setEvents { s.events with capture := some { c with overflow := satInc 255 c.overflow } }

/-- R167: a record after one occurrence at part time `now`. -/
def EventRecord.occur (now : Time) (r : EventRecord) : EventRecord :=
  { r with
    flag := true, count := satInc cap16 r.count, lastTime := some now,
    firstTime := if r.count = 0 then some now else r.firstTime }

/-- R167, R171, R173: an occurrence counted: its record, the contexts' worst condition seen, the fault capture. The capture
is compared before any NOTICE is offered (DEDUCED, log 11). -/
def countOccurrence (k : EventKind) (d : Detail) (s : State) : State :=
  let s1 := noteWorst (s.setEvents { s.events with records := tableMod s.events.records k.index (EventRecord.occur s.now) })
  if (tableGet s.events.records k.index).severity = .failed then captureFailed k d s1 else s1

/-- R168: the NOTICE of a record as it stands. -/
def noticeOf (cause : NoticeCause) (k : EventKind) (d : Option Detail) (s : State) : Notice :=
  let r := tableGet s.events.records k.index
  { cause := cause, kind := k, severity := r.severity, time := r.firstTime, count := r.count,
    worst := worstCondition s, detail := d }

/-- The class indices in priority order (R149): RESPONSE, NOTICE, SUMMARY, MAP, READING, MIRROR. -/
def responseClass : Fin 6 := 0
def noticeClass : Fin 6 := 1
def summaryClass : Fin 6 := 2
def mapClass : Fin 6 := 3
def readingClass : Fin 6 := 4
def mirrorClass : Fin 6 := 5

/-- R149: the capacity of each class queue. -/
def responseCap : Nat := 2
def noticeCap : Nat := 16
def summaryCap : Nat := 32
def mapCap : Nat := 4
def readingCap : Nat := 64
def mirrorCap : Nat := 8

/-- R149: one more frame of a class dropped. -/
def countDropped (cl : Fin 6) (s : State) : State :=
  modMillCounters (fun c => { c with dropped := tableMod c.dropped cl (satInc cap32) }) s

/-- R149: a NOTICE offered; at a full queue it is dropped and NOTICE_LOST occurs, which offers none (R167). -/
def offerNotice (n : Notice) (s : State) : State :=
  if s.mill.noticeQ.length < noticeCap then s.setMill { s.mill with noticeQ := s.mill.noticeQ ++ [n] }
  else countOccurrence .noticeLost (.kind n.kind) (countDropped noticeClass s)

/-- R167: an occurrence of a kind with its detail: counted, and on first setting the flag a NOTICE offered when the record
reports; NOTICE_LOST offers none. -/
def raise (k : EventKind) (d : Detail) (s : State) : State :=
  let r := tableGet s.events.records k.index
  let s1 := countOccurrence k d s
  if !r.flag && r.report && k != .noticeLost then offerNotice (noticeOf .occurrence k (some d) s1) s1 else s1

/-- R181: the kind codes of the SUMMARY frames, as SUMMARY_LOST names them. -/
def SummaryFrame.kindCode : SummaryFrame → Byte
  | .ring _ => 0x22
  | .tube _ => 0x23
  | .calResult _ => 0x26

/-- R149: the detail of SUMMARY_LOST for a dropped frame. -/
def SummaryFrame.lostDetail (f : SummaryFrame) : Detail :=
  match f with
  | .ring r => .frameTube f.kindCode r.tubeId
  | .tube t => .frameTube f.kindCode t.tubeId
  | .calResult c => .frameHead f.kindCode c.head

/-- R149: a RING, TUBE or CAL_RESULT frame offered; at a full queue it is dropped and SUMMARY_LOST occurs. -/
def offerSummary (f : SummaryFrame) (s : State) : State :=
  if s.mill.summaryQ.length < summaryCap then s.setMill { s.mill with summaryQ := s.mill.summaryQ ++ [f] }
  else raise .summaryLost f.lostDetail (countDropped summaryClass s)

/-! ### Reported head states (R172) -/

/-- A head's state now. -/
def headStateOf (s : State) (h : HeadNo) : HeadState := (tableGet s.headPort.heads h).state

/-- The state last reported of a head. -/
def snapshotOf (s : State) (h : HeadNo) : HeadState := tableGet s.events.snapshots h

/-- R172: a head's new state compared with its snapshot; HEAD_CHANGE occurs when they differ. -/
def compareSnapshot (h : HeadNo) (s : State) : State :=
  if headStateOf s h = snapshotOf s h then s
  else raise .headChange (.headStates h (snapshotOf s h) (headStateOf s h)) s

/-- R172: a READ of HEAD_STATUS copies the head's state into its snapshot. -/
def copySnapshot (h : HeadNo) (s : State) : State :=
  s.setEvents { s.events with snapshots := tableSet s.events.snapshots h (headStateOf s h) }

/-- R170: after a CLEAR of HEAD_CHANGE, the lowest-numbered head that still differs raises it again. -/
def reraiseHeadChange (s : State) : State :=
  match allHeads.find? (fun h => headStateOf s h != snapshotOf s h) with
  | none => s
  | some h => compareSnapshot h s

/-! ### Writing and clearing records (R169, R170, R174) -/

/-- R170: a record after a CLEAR. -/
def EventRecord.cleared (r : EventRecord) : EventRecord :=
  { r with flag := false, count := 0, firstTime := none, lastTime := none }

/-- R170: the CLEAR of an EVENT entry, with the comparison that follows a CLEAR of HEAD_CHANGE. -/
def clearEvent (k : EventKind) (s : State) : State :=
  let s1 := s.setEvents { s.events with records := tableMod s.events.records k.index EventRecord.cleared }
  if k = .headChange then reraiseHeadChange s1 else s1

/-- R169: an EVENT entry's severity and report enable stored; the worst condition is found anew, and a record whose report
turns on while its flag is set offers an ENABLE notice, NOTICE_LOST excepted. -/
def storeEvent (k : EventKind) (severity : Severity) (report : Bool) (s : State) : State :=
  let r := tableGet s.events.records k.index
  let s1 := noteWorst (s.setEvents { s.events with
    records := tableSet s.events.records k.index { r with severity := severity, report := report } })
  if !r.report && report && r.flag && k != .noticeLost then offerNotice (noticeOf .enable k none s1) s1 else s1

end Sys2Proof.Machine
end

