-- ==== Sys2Proof/Machine/Wall.lean ====
section
/-! DEFINITION. The Wall Map (chapter 5): segments, page allocation, reclaim, MAP_FULL and the cell update. -/

namespace Sys2Proof.Machine

/-- R85: the bins a page covers. -/
def binsPerPage (sectors : Nat) : Nat := 256 / sectors

/-- R87: the segment of a bin. -/
def segmentOf (sectors bin : Nat) : Nat := bin * sectors / 256

/-- R85: the first bin of a segment. -/
def firstBinOf (sectors segment : Nat) : Nat := segment * binsPerPage sectors

/-- R85: the cell index of a bin's sector within its segment's page. -/
def cellIndexOf (sectors bin sector : Nat) : Nat := (bin - firstBinOf sectors (segmentOf sectors bin)) * sectors + sector

/-- R91, R92: a cell after a VALID reading of thickness `d`. -/
def Cell.add (c : Cell) (d : Nat) (flaw extrapolated : Bool) : Cell :=
  { count := if c.count < cap16 then c.count + 1 else c.count,
    sum := if c.count < cap16 then some (c.sum.getD 0 + d) else c.sum,
    min := some (match c.min with | none => d | some m => Nat.min m d),
    max := some (match c.max with | none => d | some m => Nat.max m d),
    flaws := if flaw then satInc 255 c.flaws else c.flaws,
    extrapolated := c.extrapolated || extrapolated }

/-- R92: the update of the reading's cell on `page` and of its segment's reading count. -/
def updateCell (c : Ctx) (page bin sector : Nat) (r : Reading) (s : State) : State :=
  match tubeAt s c with
  | none => s
  | some t =>
    let a := cellAddress page (cellIndexOf t.setup.sectors bin sector)
    let cell := (readCell s.wall.pool a).add (r.thickness.getD 0) r.flags.flaw r.flags.extrapolated
    (s.setWall { s.wall with pool := writeCell s.wall.pool a cell }).setTubes
      (s.tubes.put c (some { t with directory := dirCount t.directory (segmentOf t.setup.sectors bin) }))

/-- R88: the page at the head of the free list given to an absent entry, its cells cleared. -/
def allocatePage (c : Ctx) (segment page : Nat) (rest : List Nat) (s : State) : State :=
  modTube c (fun t => { t with
      directory := dirInsert t.directory segment { page := page, readings := 0 },
      pagesUsed := satInc cap16 t.pagesUsed })
    (s.setWall { pool := clearPage s.wall.pool page, free := rest })

/-- R89: the present entry with the highest segment number of a context that may give pages, when reclaim is possible. -/
def reclaimFrom (s : State) (c : Ctx) : Option (Nat × DirEntry) :=
  match tubeAt s (otherCtx c) with
  | none => none
  | some o =>
    match o.stage with
    | .closedWait | .draining => o.directory.getLast?
    | .active | .settling => none

/-- R89: steps 1 to 5 of a reclaim into context `c`. -/
def reclaimPage (c : Ctx) (segment : Nat) (lost : Nat × DirEntry) (s : State) : State :=
  let s1 := modTube (otherCtx c) (fun o => { o with
      directory := o.directory.dropLast, pagesLost := satInc cap16 o.pagesLost }) s
  let s2 := modTube c (fun t => { t with
      directory := dirInsert t.directory segment { page := lost.2.page, readings := 0 },
      pagesUsed := satInc cap16 t.pagesUsed, pagesTaken := satInc cap16 t.pagesTaken })
    (s1.setWall { s1.wall with pool := clearPage s1.wall.pool lost.2.page })
  match tubeAt s c, tubeAt s (otherCtx c) with
  | some t, some o => raise .mapReclaim (.reclaim t.id segment o.id lost.1) s2
  | _, _ => s2

/-- R92: MAPPED at or above the next ring bin, LATE_RING below it. -/
def ringPlacement (t : Tube) (bin : Nat) : Placement := if t.nextRing ≤ bin then .mapped else .lateRing

/-- R87 to R92: a VALID reading placed on context `c` at a sector of a bin; its placement with the state. -/
def placeValid (c : Ctx) (t : Tube) (bin sector : Nat) (r : Reading) (s : State) : Placement × State :=
  let n := segmentOf t.setup.sectors bin
  if 256 ≤ n then (.outOfMap, s)
  else
    match dirLookup t.directory n with
    | some e => (ringPlacement t bin, updateCell c e.page bin sector r s)
    | none =>
      match s.wall.free with
      | page :: rest => (ringPlacement t bin, updateCell c page bin sector r (allocatePage c n page rest s))
      | [] =>
        match reclaimFrom s c with
        | some lost => (ringPlacement t bin, updateCell c lost.2.page bin sector r (reclaimPage c n lost s))
        | none => (.mapFull, raise .mapFull (.tubeSegment t.id n) s)

/-- R97: the 256 cells of a page in cell-index order. -/
def pageCells (s : State) (page : Nat) : List Cell :=
  (List.range 256).map (fun i => readCell s.wall.pool (cellAddress page i))

/-- R94, R97: a segment's contents as its MAP frame carries them. -/
def mapFrameOf (s : State) (t : Tube) (segment : Nat) (e : DirEntry) : MapFrame :=
  { tubeId := t.id, segment := segment, firstBin := firstBinOf t.setup.sectors segment, sectors := t.setup.sectors,
    readings := e.readings, cells := pageCells s e.page }

end Sys2Proof.Machine
end

