-- ==== Sys2Proof/Machine/Drain.lean ====
section
/-! DEFINITION. The Drain Engine (R78, R95 to R100): it takes the older CLOSED_WAIT context, queues its MAP frames in
ascending segment order while the MAP class queue has room, then its MAP_END, and waits when the queue is full. -/

namespace Sys2Proof.Machine

/-- R96: the MAP class queue has room for a frame. -/
def mapRoom (s : State) : Bool := s.mill.mapQ.length < mapCap

/-- A frame placed at the tail of the MAP class queue. -/
def pushMap (f : MapClassFrame) (s : State) : State := s.setMill { s.mill with mapQ := s.mill.mapQ ++ [f] }

/-- R97: the MAP frame of the lowest present entry queued, its entry absent, its page at the tail of the free list. -/
def queueMapFrame (d : Drain) (t : Tube) (n : Nat) (e : DirEntry) (s : State) : State :=
  let s1 := pushMap (.page (mapFrameOf s t n e)) s
  let s2 := s1.setWall { s1.wall with free := s1.wall.free ++ [e.page] }
  let s3 := putTube d.ctx (some { t with directory := dirRemoveLowest t.directory d.cursor }) s2
  s3.setDrain (some { d with cursor := n + 1, sent := d.sent + 1, waiting := false })

/-- R62, R78: the span a context retires when it goes FREE by drain. -/
def retiredSpanOf (t : Tube) : Option RetiredSpan :=
  t.ended.map (fun e => { id := t.id, startTime := t.startTime, endTime := e.time })

/-- R78, R99: the MAP_END queued; in the same step the context becomes FREE, its retired span is written and the engine
becomes IDLE. -/
def queueMapEnd (d : Drain) (t : Tube) (s : State) : State :=
  let s1 := pushMap (.finish t.id d.sent t.pagesLost) s
  let s2 := s1.setTubes ((s1.tubes.put d.ctx none).putRetired d.ctx (retiredSpanOf t))
  s2.setDrain none

/-- R78: the CLOSED_WAIT context that holds the older tube. -/
def oldestWaiting (s : State) : Option Ctx := (olderFirst s).find? (fun c => stageIs s c .closedWait)

/-- R78, R95: with the engine free, the older CLOSED_WAIT context becomes DRAINING with cursor 0 and nothing sent. -/
def takeContext (s : State) : State :=
  match s.drain, oldestWaiting s with
  | none, some c =>
    (modTube c (fun t => { t with stage := .draining }) s).setDrain
      (some { ctx := c, cursor := 0, sent := 0, waiting := false })
  | _, _ => s

/-- R96: the engine's next frame queued, if the MAP class queue has room; otherwise it becomes WAITING. -/
def drainOne (s : State) : State :=
  match s.drain with
  | none => s
  | some d =>
    if mapRoom s then
      match tubeAt s d.ctx with
      | none => s
      | some t =>
        match dirLowest t.directory d.cursor with
        | some (n, e) => queueMapFrame d t n e s
        | none => queueMapEnd d t s
    else s.setDrain (some { d with waiting := true })

/-- R95, R96, R99: the drain carried on within a step, `n` frames at most, taking the other context at once when one ends. -/
def drainOn : Nat → State → State
  | 0, s => s
  | n + 1, s => if s.drain.isSome then drainOn n (takeContext (drainOne s)) else s

/-- R95, R96: the drain carried on as far as room in the MAP class queue allows: at most its capacity of frames, and once
more to find it full. -/
def runDrain (s : State) : State := drainOn (mapCap + 1) s

/-- R78: examined at the end of every step in which a context enters CLOSED_WAIT or leaves DRAINING. -/
def examineDrain (s : State) : State := runDrain (takeContext s)

end Sys2Proof.Machine
end

