-- ==== Sys2Proof/Machine/Output.lean ====
section
/-! DEFINITION. Offers to the Mill Port (chapter 10): the READING and MIRROR decisions with their decimation counters, the
RESPONSE of a request and its hold. -/

namespace Sys2Proof.Machine

/-- The OUTPUT entry of a head (R134). -/
def outputOf (s : State) (h : HeadNo) : OutputEntry := tableGet s.agent.output h

/-- The decimation counters of a head (R152, R153). -/
def decimationOf (s : State) (h : HeadNo) : Decimation := tableGet s.mill.decimation h

/-- A head's decimation counters changed by `f`. -/
def modDecimation (h : HeadNo) (f : Decimation → Decimation) (s : State) : State :=
  s.setMill { s.mill with decimation := tableMod s.mill.decimation h f }

/-- R149: a READING frame offered; dropped at a full queue or while the link is DOWN. -/
def offerReading (r : Reading) (s : State) : State :=
  if s.mill.link = .up ∧ s.mill.readingQ.length < readingCap then
    s.setMill { s.mill with readingQ := s.mill.readingQ ++ [r] }
  else countDropped readingClass s

/-- R149: a MIRROR frame offered; dropped at a full queue or while the link is DOWN. -/
def offerMirror (m : MirrorFrame) (s : State) : State :=
  if s.mill.link = .up ∧ s.mill.mirrorQ.length < mirrorCap then
    s.setMill { s.mill with mirrorQ := s.mill.mirrorQ ++ [m] }
  else countDropped mirrorClass s

/-- R152: the READING decision of a reading, by its head's policy as it stands. -/
def decideReading (r : Reading) (s : State) : State :=
  match (outputOf s r.head).reading with
  | .off => s
  | .all => offerReading r s
  | .validOnly => if r.outcome = .valid then offerReading r s else s
  | .everyN =>
    let n := (decimationOf s r.head).reading + 1
    if (outputOf s r.head).readingN ≤ n then offerReading r (modDecimation r.head (fun d => { d with reading := 0 }) s)
    else modDecimation r.head (fun d => { d with reading := n }) s

/-- R25, R153: the MIRROR decision of a completed evaluation, by its head's policy as it stands. -/
def decideMirror (m : MirrorFrame) (s : State) : State :=
  let h := m.trace.head
  match (outputOf s h).mirror with
  | .off => s
  | .rejected => if m.reading.outcome = .valid then s else offerMirror m s
  | .flawed => if m.reading.outcome ≠ .valid ∨ m.reading.flags.flaw = true then offerMirror m s else s
  | .everyN =>
    let n := (decimationOf s h).mirror + 1
    if (outputOf s h).mirrorN ≤ n then offerMirror m (modDecimation h (fun d => { d with mirror := 0 }) s)
    else modDecimation h (fun d => { d with mirror := n }) s

/-- R155: a RESPONSE offered: it joins the RESPONSE class queue, or is held with its request still in processing. -/
def respond (request : Request) (response : Response) (s : State) : State :=
  if s.mill.responseQ.length < responseCap then s.setMill { s.mill with responseQ := s.mill.responseQ ++ [response] }
  else s.setAgent { s.agent with processing := some { request := request, response := response } }

/-- R155: a held RESPONSE joins the RESPONSE class queue when there is room, and its request ends. -/
def releaseHeld (s : State) : State :=
  match s.agent.processing with
  | none => s
  | some p =>
    if s.mill.responseQ.length < responseCap then
      (s.setMill { s.mill with responseQ := s.mill.responseQ ++ [p.response] }).setAgent
        { s.agent with processing := none }
    else s

end Sys2Proof.Machine
end

