-- ==== Sys2Proof/Machine/CalRun.lean ====
section
/-! DEFINITION. The calibration run (chapter 7): counting a reading, completion, and every ending of a run. -/

namespace Sys2Proof.Machine

/-- R135: the range of a calibration factor. -/
def factorLow : Nat := 58982
def factorHigh : Nat := 72090

/-- R117: a thickness within 80 % to 120 % of the reference. -/
def inBand (reference d : Nat) : Bool := reference * 4 ≤ d * 5 && d * 5 ≤ reference * 6

/-- R117: the run after a counted reading of thickness `d`. -/
def CalRun.count (r : CalRun) (d : Nat) : CalRun :=
  { r with
    counted := r.counted + 1, sum := r.sum + d,
    min := some (match r.min with | none => d | some m => Nat.min m d),
    max := some (match r.max with | none => d | some m => Nat.max m d) }

/-- R117: the run after a reading that it does not count. -/
def CalRun.skip (r : CalRun) : CalRun := { r with notCounted := satInc cap16 r.notCounted }

/-- R117: the run after a reading. -/
def CalRun.take (r : CalRun) (reading : Reading) : CalRun :=
  match reading.thickness with
  | none => r.skip
  | some d => if inBand r.reference d then r.count d else r.skip

/-- R118, R121: the mean of the counted thicknesses, absent when none was counted. -/
def CalRun.measured (r : CalRun) : Option Nat := if r.counted = 0 then none else some (roundHalfUp r.sum r.counted)

/-- R118, R121: the spread of the counted thicknesses, absent when none was counted. -/
def CalRun.spread (r : CalRun) : Option Nat :=
  match r.min, r.max with
  | some mn, some mx => some (mx - mn)
  | _, _ => none

/-- R118: the factor of a measured thickness. -/
def newFactor (reference measured : Nat) : Nat := roundHalfUp (65536 * reference) measured

/-- R118: the outcome of a completed run and its new factor, where one is computed. -/
def CalRun.verdict (r : CalRun) : CalOutcome × Option Nat :=
  if r.tolerance < r.spread.getD 0 then (.unstable, none)
  else
    let k := newFactor r.reference (r.measured.getD 0)
    if factorLow ≤ k ∧ k ≤ factorHigh then (.applied, some k) else (.outOfRange, some k)

/-- R121: the CAL_RESULT frame of a run's ending. -/
def calResultOf (r : CalRun) (o : CalOutcome) (k : Option Nat) (s : State) : CalResult :=
  { head := r.head, outcome := o, oldFactor := tableGet s.agent.calib r.head, newFactor := k,
    measured := r.measured, counted := r.counted, spread := r.spread, duration := age s.now r.startTime }

/-- R121 step 1: the factor written, for APPLIED only. -/
def writeFactor (r : CalRun) (o : CalOutcome) (k : Option Nat) (s : State) : State :=
  match o, k with
  | .applied, some x => s.setAgent { s.agent with calib := tableSet s.agent.calib r.head x }
  | _, _ => s

/-- R9, R24: an evaluation tied to the run in progress is tied to an ended run from now on. -/
def Evaluation.orphan (e : Evaluation) : Evaluation :=
  { e with tie := match e.tie with | .run => .runEnded | .ordinary => .ordinary | .runEnded => .runEnded }

/-- R114, R121 step 4: the run record returns to NONE. -/
def dropRun (s : State) : State :=
  (s.setAgent { s.agent with run := none }).setEvaluator (s.evaluator.map Evaluation.orphan)

/-- R121: a run ends with this outcome: the factor, the CAL_RESULT frame, CAL_DONE, and the record back to NONE. -/
def endRun (r : CalRun) (o : CalOutcome) (k : Option Nat) (s : State) : State :=
  let result := calResultOf r o k s
  dropRun (raise .calDone (.headOutcome r.head o) (offerSummary (.calResult result) (writeFactor r o k s)))

/-- R120: a run in progress ends ABORTED. -/
def abortRun (s : State) : State :=
  match s.agent.run with
  | none => s
  | some r => endRun r .aborted none s

/-- R117, R118: a reading taken by the run in progress, completing it when its counted number reaches K; then the reading
offered with the placement CALIBRATION. -/
def runTakes (reading : Reading) (s : State) : State :=
  let offered := { reading with placement := some .calibration }
  match s.agent.run with
  | none => s
  | some r =>
    let r1 := r.take reading
    let s1 := s.setAgent { s.agent with run := some r1 }
    if r1.counted ≠ r.counted ∧ r1.counted = r1.traces then
      decideReading offered (endRun r1 r1.verdict.1 r1.verdict.2 s1)
    else decideReading offered s1

/-- R119: the calibration limit of a run in progress has been reached. -/
def calibrationDue (s : State) : Bool :=
  match s.agent.run with
  | none => false
  | some r => s.agent.timing.calibration * 1000 ≤ age s.now r.startTime

/-- R119: at the calibration limit the run ends TIMEOUT. -/
def expireRun (s : State) : State :=
  match s.agent.run with
  | none => s
  | some r => if calibrationDue s then endRun r .timeout none s else s

end Sys2Proof.Machine
end

