-- ==== Sys2Proof/Machine/Echo.lean ====
section
/-! DEFINITION. The echo stages of an evaluation (chapter 1): the chain walk, gate spans, crossing and peak search,
interpolation, echo kinds and the time of flight. Pure functions of the trace and the latched slice. -/

namespace Sys2Proof.Machine

/-! ### The latched chain (R7, R14) -/

/-- R7, R14: the descriptors met from `start` on by following next pointers, at most `n` of them. A next that is END (255),
or that names no descriptor, ends the walk. -/
def chainFrom (gates : Vector GateEntry 64) : Nat → Nat → List GateEntry
  | 0, _ => []
  | n + 1, start =>
    if h : start < 64 then
      let g := tableGet gates ⟨start, h⟩
      g :: chainFrom gates n g.next.toNat
    else []

/-- R7: the latched copy of a head's gate chain, at most eight descriptors. -/
def latchChain (b : Bank) (e : HeadEntry) : List GateEntry := chainFrom b.gates 8 e.chainStart.toNat

/-! ### Envelope (R13) -/

/-- R10: a sample read from the lower 12 bits of its field, in two's complement. -/
def sampleValue (field : BitVec 16) : Int := (field.setWidth 12).toInt

/-- R13: the envelope. -/
def envelope (samples : List (BitVec 16)) : List Nat := samples.map (fun x => (sampleValue x).natAbs)

/-! ### One gate (R15 to R17) -/

/-- A found echo (R14, R16, R17): its crossing sample, peak sample, amplitude and position, and whether its peak lay at an
edge. -/
structure Echo where
  crossing : Nat
  peak : Nat
  amplitude : Nat
  position : Int
  edge : Bool
  deriving DecidableEq, Repr

/-- The result of a gate (R14). -/
inductive GateResult where
  | found (e : Echo)
  | notFound
  | notEvaluated
  deriving DecidableEq, Repr

/-- The found echo of a result, if it is one. -/
def GateResult.echo? : GateResult → Option Echo
  | .found e => some e
  | .notFound | .notEvaluated => none

/-- R15: the clipped span of a gate from its start and width over a trace of N samples; none when empty. -/
def gateSpan (start : Int) (width n : Nat) : Option (Nat × Nat) :=
  let stop := start + (width : Int) - 1
  if start > (n : Int) - 1 ∨ stop < 0 then none
  else some (start.toNat, min stop.toNat (n - 1))

/-- R16: the lowest index of `lo..hi` whose envelope value reaches the threshold. -/
def crossing (env : List Nat) (threshold lo hi : Nat) : Option Nat :=
  (List.range' lo (hi + 1 - lo)).find? (fun i => decide (threshold ≤ env.getD i 0))

/-- R16: the lowest index of the largest envelope value among `i` and the `k` indices after it. -/
def peakFrom (env : List Nat) : Nat → Nat → Nat → Nat
  | 0, _, best => best
  | k + 1, i, best => peakFrom env k (i + 1) (if env.getD best 0 < env.getD (i + 1) 0 then i + 1 else best)

/-- R16: the peak sample of a crossing `c`, searched through the lower of c + 15 and the span end. -/
def peakSample (env : List Nat) (c hi : Nat) : Nat := peakFrom env (min (c + 15) hi - c) c c

/-- R17: the interpolation fraction at peak `p`, for 0 < p < N - 1. -/
def interpolation (env : List Nat) (p : Nat) : Int :=
  let left : Int := env.getD (p - 1) 0
  let peak : Int := env.getD p 0
  let right : Int := env.getD (p + 1) 0
  let d := 2 * (left - 2 * peak + right)
  if d = 0 then 0 else max (-128) (min 128 (roundHalfAway (256 * (left - right)) d))

/-- R16, R17: the echo of a crossing `c` at its peak `p`. -/
def echoAt (env : List Nat) (c p : Nat) : Echo :=
  let edge := p == 0 || p == env.length - 1
  { crossing := c, peak := p, amplitude := env.getD p 0, position := 256 * (p : Int) + (if edge then 0 else interpolation env p),
    edge := edge }

/-- R15, R16: a gate evaluated from its start. -/
def searchGate (env : List Nat) (g : GateEntry) (start : Int) : GateResult :=
  match gateSpan start g.width.toNat env.length with
  | none => .notFound
  | some (lo, hi) =>
    match crossing env g.threshold.toNat lo hi with
    | none => .notFound
    | some c => .found (echoAt env c (peakSample env c hi))

/-! ### The chain walk (R14, R18, R19) -/

/-- What a gate looks for (R125); the kind code of a descriptor. -/
inductive GateKind where
  | echo1 | echo2 | echo3 | flaw
  deriving DecidableEq, Repr

/-- R177: the kind a kind code names. -/
def gateKindOf (code : Byte) : Option GateKind :=
  match code.toNat with
  | 0 => some .echo1
  | 1 => some .echo2
  | 2 => some .echo3
  | 3 => some .flaw
  | _ => none

/-- The results recorded so far in a walk, by kind (R14), and the flags it has given (R17, R19). -/
structure Walk where
  echo1 : GateResult
  echo2 : GateResult
  echo3 : GateResult
  flaw : Bool
  edge : Bool
  deriving DecidableEq, Repr

/-- R14: nothing recorded; a kind that the walk never meets counts as not evaluated (R18). -/
def Walk.start : Walk :=
  { echo1 := .notEvaluated, echo2 := .notEvaluated, echo3 := .notEvaluated, flaw := false, edge := false }

/-- R15: the found echo a FOLLOW gate's anchor code names, if there is one at this point of the walk. -/
def Walk.anchor (w : Walk) (code : Byte) : Option Echo :=
  match gateKindOf code with
  | some .echo1 => w.echo1.echo?
  | some .echo2 => w.echo2.echo?
  | some .echo3 => w.echo3.echo?
  | some .flaw | none => none

/-- R15: a gate's result at this point of the walk: ABSOLUTE starts at its offset, FOLLOW at the anchor's peak plus it.
A placement code that is not ABSOLUTE (0) is taken as FOLLOW; validation admits no other (R128, log 15). -/
def gateResult (env : List Nat) (w : Walk) (g : GateEntry) : GateResult :=
  if g.placement.toNat = 0 then searchGate env g g.offset.toInt
  else
    match w.anchor g.anchor with
    | none => .notEvaluated
    | some a => searchGate env g ((a.peak : Int) + g.offset.toInt)

/-- R14, R17, R19: the result of an enabled gate recorded against its kind, a later one replacing an earlier; a kind code
that names no kind records nothing (validation admits none, log 15). -/
def Walk.record (w : Walk) (g : GateEntry) (r : GateResult) : Walk :=
  let w1 := { w with edge := w.edge || (match r.echo? with | some e => e.edge | none => false) }
  match gateKindOf g.kind with
  | some .echo1 => { w1 with echo1 := r }
  | some .echo2 => { w1 with echo2 := r }
  | some .echo3 => { w1 with echo3 := r }
  | some .flaw => { w1 with flaw := w1.flaw || r.echo?.isSome }
  | none => w

/-- R14: the walk over the latched descriptors, disabled ones passed over. -/
def walkChain (env : List Nat) (w : Walk) : List GateEntry → Walk
  | [] => w
  | g :: rest => walkChain env (if isYes g.enabled then w.record g (gateResult env w g) else w) rest

/-! ### Time of flight (R20 to R22) -/

/-- R20: the second echo is weak against the first. -/
def weakEcho (a1 a2 weakPct : Nat) : Bool := a2 * 100 < a1 * weakPct

/-- R21: the time of flight and whether PAIR13 (code 1) fell back to the first pair. A pair mode code that names neither
pair mode is taken as PAIR12; validation admits none (R128; DESIGN CHOICE, log 15). -/
def timeOfFlight (pairMode : Byte) (e1 e2 : Echo) (e3 : Option Echo) : Int × Bool :=
  if pairMode.toNat = 1 then
    match e3 with
    | some e => (roundHalfAway (e.position - e1.position) 2, false)
    | none => (e2.position - e1.position, true)
  else (e2.position - e1.position, false)

/-- R22: Δ is below the least time of flight. -/
def tooShort (delta : Int) (minSep : Nat) : Bool := delta < 256 * (minSep : Int)

end Sys2Proof.Machine
end

