-- ==== Sys2Proof/Machine/Recipe.lean ====
section
/-! DEFINITION. Recipes (chapter 8): validation of the staged bank in its fixed order, and the apply. -/

namespace Sys2Proof.Machine

/-- A validation failure: its code and its argument (R128, R129, R179). -/
structure Failure where
  code : Status
  argument : Nat
  deriving DecidableEq, Repr

/-- R125: a HEAD entry's fields lie within their valid ranges. -/
def headInRange (e : HeadEntry) : Bool :=
  e.enabled.toNat ≤ 1 && e.chainStart.toNat ≤ 63 && e.pairMode.toNat ≤ 1 &&
  (1 ≤ e.minSep.toNat && e.minSep.toNat ≤ 2047) && e.weakPct.toNat ≤ 100 &&
  (e.channel.toNat ≤ 3 || e.channel.toNat == 255) && e.angleOffset.toNat ≤ 4095 &&
  (-20000 ≤ e.axialOffset.toInt && e.axialOffset.toInt ≤ 20000)

/-- R128 check 2: the chain walk from `start`: the descriptors visited, when it reaches END within `n` more visits without
visiting one of `seen` or itself again and every next is 0..63 or END. -/
def walkToEnd (gates : Vector GateEntry 64) (seen : List Nat) : Nat → Nat → Option (List GateEntry)
  | 0, _ => none
  | n + 1, start =>
    if h : start < 64 then
      if seen.contains start then none
      else
        let g := tableGet gates ⟨start, h⟩
        if g.next.toNat = 255 then some [g]
        else (walkToEnd gates (start :: seen) n g.next.toNat).map (fun l => g :: l)
    else none

/-- R125, R128 check 3: an enabled descriptor's examined fields lie within their ranges. -/
def gateInRange (g : GateEntry) : Bool :=
  g.kind.toNat ≤ 3 && g.placement.toNat ≤ 1 &&
  (if g.placement.toNat = 0 then 0 ≤ g.offset.toInt && g.offset.toInt ≤ 4095
   else g.anchor.toNat ≤ 2 && (-2048 ≤ g.offset.toInt && g.offset.toInt ≤ 4095)) &&
  (4 ≤ g.width.toNat && g.width.toNat ≤ 2048) && (1 ≤ g.threshold.toNat && g.threshold.toNat ≤ 2047)

/-- R128 check 4: the ECHO kind codes of a chain are ECHO1, ECHO2 and at most one ECHO3, in that order. -/
def echoOrderOk (enabled : List GateEntry) : Bool :=
  let kinds := (enabled.map (fun g => g.kind.toNat)).filter (fun k => k ≤ 2)
  kinds == [0, 1] || kinds == [0, 1, 2]

/-- R128 check 5: each FOLLOW descriptor has its anchor's kind enabled earlier in the chain. -/
def anchorsOk (earlier : List Nat) : List GateEntry → Bool
  | [] => true
  | g :: rest =>
    (g.placement.toNat != 1 || earlier.contains g.anchor.toNat) && anchorsOk (g.kind.toNat :: earlier) rest

/-- R128 check 6: PAIR13 needs an enabled ECHO3. -/
def pairModeOk (e : HeadEntry) (enabled : List GateEntry) : Bool :=
  e.pairMode.toNat != 1 || enabled.any (fun g => g.kind.toNat == 2)

/-- R128 checks 1 to 6 of an enabled head's entry. -/
def chainOk (b : Bank) (e : HeadEntry) : Bool :=
  headInRange e &&
  match walkToEnd b.gates [] 8 e.chainStart.toNat with
  | none => false
  | some visited =>
    let enabled := visited.filter (fun g => isYes g.enabled)
    enabled.all gateInRange && echoOrderOk enabled && anchorsOk [] enabled && pairModeOk e enabled

/-- R128: the heads that say enabled yes, ascending. -/
def enabledHeads (b : Bank) : List HeadNo := allHeads.filter (fun h => isYes (tableGet b.heads h).enabled)

/-- R128: the HEAD and GATE checks. -/
def headFailure (b : Bank) : Option Failure :=
  if enabledHeads b = [] then some { code := .noHead, argument := 255 }
  else ((enabledHeads b).find? (fun h => !chainOk b (tableGet b.heads h))).map
    (fun h => { code := .chainInvalid, argument := h.val })

/-- R129: the first VELOCITY entry, from index `i` on, that breaks a check; `prev` is the entry before it. -/
def velocityFault (i : Nat) (prev : Option VelocityEntry) : List VelocityEntry → Option Nat
  | [] => none
  | e :: rest =>
    if e.temperature.toNat ≤ 1600 && (3000 ≤ e.velocity.toNat && e.velocity.toNat ≤ 7000) &&
        (match prev with | none => true | some p => p.temperature.toNat < e.temperature.toNat) then
      velocityFault (i + 1) (some e) rest
    else some i

/-- R129: the VELOCITY checks. -/
def velocityFailure (b : Bank) : Option Failure :=
  let n := b.velocityCount.toNat
  if n < 2 ∨ 16 < n then some { code := .velocityInvalid, argument := 16 }
  else (velocityFault 0 none (b.velocity.toList.take n)).map (fun i => { code := .velocityInvalid, argument := i })

/-- R126, R129: the MAP_SETUP checks in their order, numbered 1..11 (R179). -/
def mapChecks (m : MapSetup) : List (Nat × Bool) :=
  [ (1, [8, 16, 32, 64].contains m.sectors.toNat),
    (2, 100 ≤ m.binLen.toNat && m.binLen.toNat ≤ 10000),
    (3, m.closeMargin.toNat ≤ 10000),
    (4, m.gapLimit.toNat ≤ m.sectors.toNat / 4),
    (5, m.headZone.toNat ≤ 50000),
    (6, m.tailZone.toNat ≤ 50000),
    (7, 500 ≤ m.windowLow.toNat && m.windowLow.toNat ≤ 65534),
    (8, m.windowLow.toNat < m.windowHigh.toNat && m.windowHigh.toNat ≤ 65535),
    (9, m.windowLow.toNat ≤ m.nominal.toNat && m.nominal.toNat ≤ m.windowHigh.toNat),
    (10, m.fallback.toNat ≤ 1600),
    (11, 1 ≤ m.presenceCount.toNat && m.presenceCount.toNat ≤ 8) ]

/-- R129: the MAP_SETUP checks. -/
def mapFailure (b : Bank) : Option Failure :=
  ((mapChecks b.map).find? (fun c => !c.2)).map (fun c => { code := .mapInvalid, argument := c.1 })

/-- R128, R129: validation of a bank: the first failure in the fixed order, or none. -/
def validate (b : Bank) : Option Failure := (headFailure b).or ((velocityFailure b).or (mapFailure b))

/-! ### Apply (R131) -/

/-- R124: the last generation. -/
def lastGeneration : Nat := 4294967295

/-- R130, R131, R132: why the staged bank as it stands cannot be applied: its validation failure, or BUSY with the argument
255 at the last generation. -/
def applyFailure (s : State) : Option Failure :=
  (validate s.agent.staged).or
    (if s.agent.generation = lastGeneration then some { code := .busy, argument := 255 } else none)

/-- R131 step 4, R139: a head's record under the new bank. -/
def rebank (wasEnabled nowEnabled : Bool) (r : HeadRecord) : HeadRecord :=
  if !nowEnabled then { r with state := .disabled }
  else if wasEnabled then r
  else { r with state := .unseen, expected := none, lastTimestamp := none, lastArrival := none }

/-- R131 step 4: one head taken into the new bank. -/
def rebankHead (old : State) (h : HeadNo) (s : State) : State :=
  modHead h (rebank (headEnabled old h) (headEnabled s h)) s

/-- R172: after an apply, HEAD_CHANGE for a head whose state changed and differs from its snapshot. -/
def reportRebank (old : State) (h : HeadNo) (s : State) : State :=
  if headStateOf old h = headStateOf s h then s else compareSnapshot h s

/-- R131 steps 1 to 3: the staged bank copied, the generation raised, both flags clear. -/
def copyBank (s : State) : State :=
  s.setAgent { s.agent with
    active := some s.agent.staged, generation := s.agent.generation + 1, stagedModified := false, applyPending := false }

/-- R120, R131 step 5: the run in progress ends ABORTED when its head is disabled in the active bank. -/
def abortDisabledRun (s : State) : State :=
  match s.agent.run with
  | none => s
  | some r => if headEnabled s r.head then s else abortRun s

/-- R131, R172: a successful apply. Its HEAD_CHANGE comparisons stand after step 4 and before the CAL_RESULT and CAL_DONE of
step 5 (DESIGN CHOICE, log 30). -/
def carryOutApply (s : State) : State :=
  let s1 := allHeads.foldl (fun x h => rebankHead s h x) (copyBank s)
  abortDisabledRun (allHeads.foldl (fun x h => reportRebank s h x) s1)

/-- R132, R64 step 1: a pending apply carried out, or RECIPE_REJECTED raised; the flag clears in both cases. -/
def pendingApply (s : State) : State :=
  if s.agent.applyPending then
    match applyFailure s with
    | none => carryOutApply s
    | some f =>
      raise .recipeRejected (.failure f.code f.argument) (s.setAgent { s.agent with applyPending := false })
  else s

end Sys2Proof.Machine
end

