-- ==== Sys2Proof/Machine/Rings.lean ====
section
/-! DEFINITION. Ring statistics (chapter 6): sector means, gap filling, mean and extremes, the eccentricity, the ring record,
closure of one ring, by the lead and at settle completion; and the tube summary's figures (R79, R80). -/

namespace Sys2Proof.Machine

/-! ### The harmonic tables (R110) -/

/-- R110: the quarter-wave values W[0..16]. -/
def quarterWave : List Int :=
  [32767, 32609, 32137, 31356, 30273, 28898, 27245, 25329, 23170, 20787, 18204, 15446, 12539, 9512, 6393, 3212, 0]

/-- R110: C[i]. -/
def cosTable (i : Nat) : Int :=
  if i ≤ 16 then quarterWave.getD i 0
  else if i ≤ 32 then -quarterWave.getD (32 - i) 0
  else if i ≤ 48 then -quarterWave.getD (i - 32) 0
  else quarterWave.getD (64 - i) 0

/-- R110: Sn[i] is C[(i - 16) mod 64]. -/
def sinTable (i : Nat) : Int := cosTable ((i + 48) % 64)

/-! ### Sector means (R106 to R108) -/

/-- R106: the cells of a bin in sector order; every cell is cleared when its segment is absent. -/
def binCells (s : State) (t : Tube) (bin : Nat) : List Cell :=
  let n := t.setup.sectors
  match dirLookup t.directory (segmentOf n bin) with
  | none => List.replicate n clearedCell
  | some e => (List.range n).map (fun j => readCell s.wall.pool (cellAddress e.page (cellIndexOf n bin j)))

/-- R106: the measured mean of a cell, absent at count 0. -/
def measuredMean (c : Cell) : Option Nat := if c.count = 0 then none else some (roundHalfUp (c.sum.getD 0) c.count)

/-- R107: the nearest measured mean going up from sector `j`, with its distance, looking at most `k` sectors on. -/
def nearestUp (m : List (Option Nat)) (j : Nat) : Nat → Nat → Option (Nat × Nat)
  | 0, _ => none
  | k + 1, d =>
    match m.getD ((j + d) % m.length) none with
    | some x => some (x, d)
    | none => nearestUp m j k (d + 1)

/-- R107: the nearest measured mean going down from sector `j`, with its distance, looking at most `k` sectors on. -/
def nearestDown (m : List (Option Nat)) (j : Nat) : Nat → Nat → Option (Nat × Nat)
  | 0, _ => none
  | k + 1, d =>
    match m.getD ((j + m.length - d) % m.length) none with
    | some x => some (x, d)
    | none => nearestDown m j k (d + 1)

/-- R107: the filled mean of an empty sector. -/
def filledMean (m : List (Option Nat)) (j : Nat) : SectorMean :=
  match nearestUp m j (m.length - 1) 1, nearestDown m j (m.length - 1) 1 with
  | some (x1, a), some (x2, b) => .filled (roundHalfUp (x1 * b + x2 * a) (a + b))
  | _, _ => .absent

/-- R106, R107, R108: the sector means with their marks; `fill` when the empty sectors are filled. -/
def sectorMeans (m : List (Option Nat)) (fill : Bool) : List SectorMean :=
  (List.range m.length).map (fun j =>
    match m.getD j none with
    | some x => .measured x
    | none => if fill then filledMean m j else .absent)

/-- The value of a sector mean that is not absent. -/
def SectorMean.value? : SectorMean → Option Nat
  | .measured x | .filled x => some x
  | .absent => none

/-- R106: the ring's status from its M empty sectors of S and the gap limit. -/
def ringStatus (empty sectors gapLimit : Nat) : RingStatus :=
  if empty = sectors then .empty else if empty ≤ gapLimit then .complete else .partialRing

/-! ### Mean, extremes and eccentricity (R109, R111) -/

/-- The counted sectors with their indices, from sector `j` on. -/
def countedFrom (j : Nat) : List SectorMean → List (Nat × Nat)
  | [] => []
  | x :: rest =>
    match x.value? with
    | some v => (v, j) :: countedFrom (j + 1) rest
    | none => countedFrom (j + 1) rest

/-- The first pair whose value no later pair passes, under `better new old`. -/
def extreme (better : Nat → Nat → Bool) : List (Nat × Nat) → Option (Nat × Nat)
  | [] => none
  | p :: rest => some (rest.foldl (fun best q => if better q.1 best.1 then q else best) p)

/-- R109: the least mean with its lowest sector. -/
def ringMin (l : List (Nat × Nat)) : Option (Nat × Nat) := extreme (fun x y => decide (x < y)) l

/-- R109: the greatest mean with its lowest sector. -/
def ringMax (l : List (Nat × Nat)) : Option (Nat × Nat) := extreme (fun x y => decide (y < x)) l

/-- The sum of the values of the counted sectors. -/
def valueSum (l : List (Nat × Nat)) : Nat := (l.map Prod.fst).sum

/-- R109: the ring mean; absent when no sector counts. -/
def ringMean (l : List (Nat × Nat)) : Option Nat := if l = [] then none else some (roundHalfUp (valueSum l) l.length)

/-- R111 step 1: the sum of the sector means against a harmonic table. -/
def harmonic (table : Nat → Int) (sectors : Nat) (l : List (Nat × Nat)) : Int :=
  (l.map (fun p => (p.1 : Int) * table (p.2 * 64 / sectors))).sum

/-- R111: the eccentricity of a COMPLETE ring of mean μ. -/
def eccentricity (sectors : Nat) (l : List (Nat × Nat)) (mean : Nat) : Nat :=
  let a1 := harmonic cosTable sectors l
  let b1 := harmonic sinTable sectors l
  let q := isqrt (a1 * a1 + b1 * b1).toNat
  min 65535 (roundHalfUp (20000 * q) (32767 * sectors * mean))

/-! ### The ring record (R112, R113) -/

/-- R112: the zone of a bin. -/
def zoneOf (t : Tube) (bin : Nat) : Zone := if bin * t.setup.binLen < t.setup.headZone then .headEnd else .body

/-- R106 to R113: the ring record of a bin as its cells stand. -/
def ringRecord (s : State) (t : Tube) (bin : Nat) (closeTime : Time) : RingRecord :=
  let cells := binCells s t bin
  let measured := cells.map measuredMean
  let empty := (measured.filter Option.isNone).length
  let status := ringStatus empty t.setup.sectors t.setup.gapLimit
  let means := sectorMeans measured (status = .complete)
  let counted := countedFrom 0 means
  { tubeId := t.id, bin := bin, closeTime := closeTime, zone := zoneOf t bin, status := status,
    sectors := t.setup.sectors, means := means, mean := ringMean counted, min := ringMin counted, max := ringMax counted,
    eccentricity := if status = .complete then (ringMean counted).map (eccentricity t.setup.sectors counted) else none,
    thinSector := if status = .complete then (ringMin counted).map Prod.snd else none,
    readings := (cells.map Cell.count).sum, flaws := (cells.map Cell.flaws).sum }

/-- R80: the digest entry of a BODY ring that is not EMPTY. -/
def digestOf (r : RingRecord) : Option DigestEntry :=
  match r.zone, r.mean, r.min, r.max with
  | .body, some mean, some mn, some mx =>
    some { bin := r.bin, mean := mean, min := mn.1, minSector := mn.2, max := mx.1, maxSector := mx.2,
           eccentricity := r.eccentricity }
  | _, _, _, _ => none

/-! ### Closing rings (R101 to R105) -/

/-- R101: the number of bins a directory can hold, which the next ring bin does not pass. -/
def ringLimit (t : Tube) : Nat := 65536 / t.setup.sectors

/-- R103: bin `bin` of context `c` closed: its RING frame offered, then bins closed, the digest and the next ring bin. -/
def closeRing (c : Ctx) (bin : Nat) (closeTime : Time) (s : State) : State :=
  match tubeAt s c with
  | none => s
  | some t =>
    let r := ringRecord s t bin closeTime
    modTube c (fun t => { t with
        binsClosed := satInc cap16 t.binsClosed, digest := t.digest ++ (digestOf r).toList, nextRing := bin + 1 })
      (offerSummary (.ring r) s)

/-- R102: the lead: over the latched heads, the least of travel - start travel - z_h. -/
def lead (t : Tube) (travel : Nat) : Option Int :=
  match t.heads with
  | [] => none
  | h :: rest =>
    some (rest.foldl (fun m x => min m ((travel : Int) - t.startTravel - x.axialOffset))
      ((travel : Int) - t.startTravel - h.axialOffset))

/-- R102: the lead has passed the end of bin `b` by the close margin. -/
def leadPassed (t : Tube) (b : Nat) (x : Int) : Bool :=
  decide ((((b + 1) * t.setup.binLen + t.setup.closeMargin : Nat) : Int) ≤ x)

/-- R102: rings closed in ascending order while the lead has passed them, `n` at most. -/
def closeByLead (c : Ctx) (x : Int) (closeTime : Time) : Nat → State → State
  | 0, s => s
  | n + 1, s =>
    match tubeAt s c with
    | none => s
    | some t =>
      if t.nextRing < ringLimit t ∧ leadPassed t t.nextRing x = true then
        closeByLead c x closeTime n (closeRing c t.nextRing closeTime s)
      else s

/-- R102: step 5 of an acceptance: the ACTIVE context's rings examined against the lead of the new sample. -/
def closeRingsByLead (f : Sample) (s : State) : State :=
  match activeCtx s with
  | none => s
  | some c =>
    match tubeAt s c with
    | none => s
    | some t =>
      match lead t f.travel with
      | none => s
      | some x => closeByLead c x f.timestamp (ringLimit t - t.nextRing) s

/-- R104: the highest bin that some listed cell of a page of a present entry counts a reading in. -/
def highestBin (s : State) (t : Tube) : Option Nat :=
  (s.wall.pool.filterMap (fun e =>
    match t.directory.find? (fun d => d.2.page == e.1 / 256) with
    | some d => if e.2.count = 0 then none else some (firstBinOf t.setup.sectors d.1 + e.1 % 256 / t.setup.sectors)
    | none => none)).max?

/-- R104: rings closed in ascending order up to a bin, `n` of them. -/
def closeUpTo (c : Ctx) (closeTime : Time) : Nat → State → State
  | 0, s => s
  | n + 1, s =>
    match tubeAt s c with
    | none => s
    | some t => if t.nextRing < ringLimit t then closeUpTo c closeTime n (closeRing c t.nextRing closeTime s) else s

/-- R104: step 2 of settle completion: the rings still open closed up to the highest bin that holds data. -/
def closeRemaining (c : Ctx) (s : State) : State :=
  match tubeAt s c with
  | none => s
  | some t =>
    match highestBin s t, t.ended with
    | some b, some e => closeUpTo c e.time (b + 1 - t.nextRing) s
    | _, _ => s

/-! ### The tube summary (R79, R80) -/

/-- R80: the tail boundary bin. -/
def tailBin (t : Tube) (length : Nat) : Nat :=
  if length < t.setup.tailZone then 0 else (length - t.setup.tailZone) / t.setup.binLen

/-- R80: the first digest entry that no later one passes, under `better new old`. -/
def extremeRing (better : DigestEntry → DigestEntry → Bool) : List DigestEntry → Option DigestEntry
  | [] => none
  | e :: rest => some (rest.foldl (fun best x => if better x best then x else best) e)

/-- The eccentricities of the body rings that have one, with their bins. -/
def eccentricities (body : List DigestEntry) : List (Nat × Nat) :=
  body.filterMap (fun e => e.eccentricity.map (fun x => (x, e.bin)))

/-- R80: the body statistics over the digest entries below the tail boundary bin. -/
def bodyStats (t : Tube) (tail : Nat) : BodyStats :=
  let body := t.digest.filter (fun e => decide (e.bin < tail))
  { count := body.length,
    mean := if body = [] then none else some (roundHalfUp (body.map DigestEntry.mean).sum body.length),
    min := (extremeRing (fun x y => decide (x.min < y.min)) body).map (fun e => (e.min, e.bin, e.minSector)),
    max := (extremeRing (fun x y => decide (y.max < x.max)) body).map (fun e => (e.max, e.bin, e.maxSector)),
    maxEccentricity := extreme (fun x y => decide (y < x)) (eccentricities body) }

/-- R79: the TUBE frame of an ended tube. -/
def summaryOf (t : Tube) (e : TubeEnd) : TubeSummary :=
  let tail := tailBin t e.length
  { tubeId := t.id, startTime := t.startTime, endTime := e.time, length := e.length, reason := e.reason,
    generation := t.generation, binsClosed := t.binsClosed, tailBin := tail, body := bodyStats t tail,
    outcomes := t.outcomes, placements := t.placements, headsLost := t.headsLost, pagesUsed := t.pagesUsed,
    pagesTaken := t.pagesTaken, worstSeen := t.worstSeen }

/-- R79: the TUBE frame of context `c` offered to the SUMMARY class. -/
def offerTube (c : Ctx) (s : State) : State :=
  match tubeAt s c with
  | none => s
  | some t =>
    match t.ended with
    | none => s
    | some e => offerSummary (.tube (summaryOf t e)) s

end Sys2Proof.Machine
end

