-- ==== Sys2Proof/Machine/Tubes.lean ====
section
/-! DEFINITION. The Tube Tracker (chapter 4): assigning a reading to a tube, the settle condition and settle completion,
tube start with truncation, tube end; and the shell coordinates of R55. -/

namespace Sys2Proof.Machine

/-! ### Assigning a reading (R55, R56, R69 to R73) -/

/-- A resolved reading's angle 0..4095 and travel (R49, R50). -/
structure Pose where
  angle : Nat
  travel : Int
  deriving DecidableEq, Repr

/-- The tube a reading's timestamp falls in (R69): a live context, or a tube whose summary is already queued. -/
inductive Span where
  | live (c : Ctx)
  | late (id : TubeId)
  deriving DecidableEq, Repr

/-- R69: a span from `t1` to `t2` contains `t`. -/
def spanContains (t1 t2 t : Time) : Bool := notLater t1 t && notLater t t2

/-- R69: the span of context `c` or of its retired tube, when it contains `t`. -/
def spanAt (s : State) (t : Time) (c : Ctx) : Option Span :=
  match tubeAt s c with
  | some x =>
    match x.stage with
    | .active => if notLater x.startTime t then some (.live c) else none
    | .settling =>
      match x.ended with
      | some e => if spanContains x.startTime e.time t then some (.live c) else none
      | none => none
    | .closedWait | .draining =>
      match x.ended with
      | some e => if spanContains x.startTime e.time t then some (.late x.id) else none
      | none => none
  | none =>
    match s.tubes.retired c with
    | some r => if spanContains r.startTime r.endTime t then some (.late r.id) else none
    | none => none

/-- R69: the span that contains `t`; at most one does, so the order of looking does not matter (DEDUCED, log 24). -/
def spanOf (s : State) (t : Time) : Option Span := (spanAt s t .a).or (spanAt s t .b)

/-- The offsets a tube latched for a head (R54). A reading of the tube's generation is of a latched head; for any other head
both are 0 (log 15). -/
def latchedOffsets (t : Tube) (h : HeadNo) : Nat × Int :=
  match t.heads.find? (fun x => x.head == h) with
  | some x => (x.angleOffset, x.axialOffset)
  | none => (0, 0)

/-- R55: the sector of an angle on a tube. -/
def sectorOf (t : Tube) (h : HeadNo) (angle : Nat) : Nat :=
  (angle + (latchedOffsets t h).1) % 4096 * t.setup.sectors / 4096

/-- R55: the shell coordinate x of a travel on a tube. -/
def shellX (t : Tube) (h : HeadNo) (travel : Int) : Int := travel - t.startTravel - (latchedOffsets t h).2

/-- R55: the bin of a coordinate x at or above 0. -/
def binOf (t : Tube) (x : Int) : Nat := x.toNat / t.setup.binLen

/-- R177: the code of an evaluation outcome. -/
def EvalOutcome.code : EvalOutcome → Fin 6
  | .valid => 0 | .lowEnergy => 1 | .noEcho1 => 2 | .noEcho2 => 3 | .badOrder => 4 | .outOfWindow => 5

/-- R177: the code of a placement. -/
def Placement.code : Placement → Fin 12
  | .mapped => 0 | .lateRing => 1 | .counted => 2 | .outOfMap => 3 | .mapFull => 4 | .mismatch => 5
  | .beforeStart => 6 | .noPose => 7 | .stalePose => 8 | .noTube => 9 | .late => 10 | .calibration => 11

/-- R72: a tube after one reading counted. -/
def Tube.countReading (o : EvalOutcome) (p : Placement) (t : Tube) : Tube :=
  { t with
    outcomes := tableMod t.outcomes o.code (satInc cap32),
    placements := tableMod t.placements p.code (satInc cap32) }

/-- R72: a reading counted in context `c` with its placement, then its READING decision. -/
def countAndOffer (c : Ctx) (r : Reading) (p : Placement) (s : State) : State :=
  decideReading { r with placement := some p } (modTube c (Tube.countReading r.outcome p) s)

/-- R70: a reading with a pose on a live context. -/
def assignLive (c : Ctx) (t : Tube) (r : Reading) (p : Pose) (s : State) : State :=
  let r1 := { r with tubeId := some t.id }
  if t.generation ≠ r.generation then countAndOffer c r1 .mismatch s
  else if shellX t r.head p.travel < 0 then countAndOffer c r1 .beforeStart s
  else
    let bin := binOf t (shellX t r.head p.travel)
    let sector := sectorOf t r.head p.angle
    let r2 := { r1 with sector := some sector, bin := some bin }
    if r.outcome ≠ .valid then countAndOffer c r2 .counted s
    else
      let placed := placeValid c t bin sector r2 s
      countAndOffer c r2 placed.1 placed.2

/-- R70, R73: a reading with a pose assigned, counted where it belongs to a live tube, and offered. -/
def assignPosed (r : Reading) (p : Pose) (s : State) : State :=
  match spanOf s r.timestamp with
  | none => decideReading { r with placement := some .noTube } s
  | some (.late id) =>
    decideReading { r with placement := some .late, tubeId := some id } (raise .lateReading (.tubeHead id r.head) s)
  | some (.live c) =>
    match tubeAt s c with
    | none => s
    | some t => assignLive c t r p s

/-- R71: a reading without a pose, NO_POSE or STALE_POSE: counted in a live tube whatever its generation, and offered. -/
def assignUnposed (r : Reading) (p : Placement) (s : State) : State :=
  match spanOf s r.timestamp with
  | some (.live c) =>
    match tubeAt s c with
    | none => s
    | some t => countAndOffer c { r with tubeId := some t.id } p s
  | some (.late _) | none => decideReading { r with placement := some p } s

/-! ### Settling (R74 to R77) -/

/-- R74 part 4: a head is waited for: latched, ACTIVE in the Head Port, with no timestamp later than the end time. -/
def headWaitedFor (s : State) (endTime : Time) (h : LatchedHead) : Bool :=
  let r := tableGet s.headPort.heads h.head
  r.state == .active &&
    (match r.lastTimestamp with
      | none => true
      | some t => notLater t endTime)

/-- R74: the settle condition of a tube with end time `endTime`. -/
def settleCondition (s : State) (t : Tube) (endTime : Time) : Bool :=
  s.traceQueue.all (fun x => laterThan x.timestamp endTime) &&
  (match s.evaluator with
    | none => true
    | some e => laterThan e.trace.timestamp endTime) &&
  s.pose.waiting.all (fun r => laterThan r.timestamp endTime) &&
  !(t.heads.any (headWaitedFor s endTime))

/-- R77: settle completion of context `c`. -/
def completeSettling (c : Ctx) (s : State) : State :=
  examineDrain (modTube c (fun t => { t with stage := .closedWait, settleEntry := none })
    (offerTube c (closeRemaining c s)))

/-- R75: the settle condition of context `c` examined, and its settling completed when it holds. -/
def examineSettle (c : Ctx) (s : State) : State :=
  match tubeAt s c with
  | none => s
  | some t =>
    match t.stage, t.ended with
    | .settling, some e => if settleCondition s t e.time then completeSettling c s else s
    | _, _ => s

/-- R75: both contexts examined at the end of a step, the older tube's first. -/
def examineBoth (s : State) : State := (olderFirst s).foldl (fun x c => examineSettle c x) s

/-! ### Tube end (R67, R68) -/

/-- R67: a tube after its end at this time and travel, from part time `now`. -/
def Tube.finish (now time : Time) (travel : Nat) (reason : CloseReason) (t : Tube) : Tube :=
  { t with
    stage := .settling, settleEntry := some now,
    ended := some { time := time, travel := travel, length := travel - t.startTravel, reason := reason } }

/-- R67, R68: the ACTIVE context's tube ends and becomes SETTLING; its settle condition is examined at the end of the step
(R75; DEDUCED, log 4). -/
def endTube (time : Time) (travel : Nat) (reason : CloseReason) (s : State) : State :=
  match activeCtx s with
  | none => s
  | some c => modTube c (Tube.finish s.now time travel reason) s

/-! ### Truncation and tube start (R64, R65) -/

/-- R65 step 1: a SETTLING tube's close reason becomes TRUNCATED. -/
def Tube.markTruncated (t : Tube) : Tube :=
  { t with ended := t.ended.map (fun e => { e with reason := .truncated }), settleEntry := none }

/-- R65 step 1: the TUBE frame of a SETTLING tube that is truncated. -/
def truncateSummary (c : Ctx) (s : State) : State :=
  if stageIs s c .settling then offerTube c (modTube c Tube.markTruncated s) else s

/-- R65 step 3, R100: the Drain Engine stops when it holds this context. -/
def stopDrain (c : Ctx) (s : State) : State :=
  match s.drain with
  | none => s
  | some d => if d.ctx = c then s.setDrain none else s

/-- R65: context `c` truncated. -/
def truncate (c : Ctx) (s : State) : State :=
  match tubeAt s c with
  | none => s
  | some t =>
    let s1 := stopDrain c (truncateSummary c s)
    let s2 := putTube c none (s1.setWall { s1.wall with free := s1.wall.free ++ dirPages t.directory })
    raise .drainTruncated (.tubeContext t.id c) s2

/-- R64 step 2: the context a tube start takes; when neither is FREE, the one the newest-start mark does not name. -/
def chooseCtx (s : State) : Ctx :=
  match s.tubes.a, s.tubes.b with
  | none, _ => .a
  | some _, none => .b
  | some _, some _ =>
    match s.tubes.newest with
    | some c => otherCtx c
    | none => .a

/-- R61: the map setup copy of the active MAP_SETUP table. -/
def mapCopyOf (m : MapSetup) : MapCopy :=
  { sectors := m.sectors.toNat, binLen := m.binLen.toNat, closeMargin := m.closeMargin.toNat,
    gapLimit := m.gapLimit.toNat, headZone := m.headZone.toNat, tailZone := m.tailZone.toNat,
    windowLow := m.windowLow.toNat, windowHigh := m.windowHigh.toNat }

/-- R61, R64: the heads enabled in a bank with their offsets. -/
def latchHeads (b : Bank) : List LatchedHead :=
  (enabledHeads b).map (fun h =>
    { head := h, angleOffset := (tableGet b.heads h).angleOffset.toNat,
      axialOffset := (tableGet b.heads h).axialOffset.toInt })

/-- R64 step 4: a fresh ACTIVE tube. -/
def freshTube (id : TubeId) (time : Time) (travel generation : Nat) (b : Bank) (worst : Condition) : Tube :=
  { stage := .active, id := id, startTime := time, startTravel := travel, ended := none, generation := generation,
    setup := mapCopyOf b.map, heads := latchHeads b, directory := [], nextRing := 0, binsClosed := 0, digest := [],
    outcomes := Vector.replicate 6 0, placements := Vector.replicate 12 0, headsLost := Vector.replicate 8 false,
    pagesUsed := 0, pagesTaken := 0, pagesLost := 0, worstSeen := worst, settleEntry := none }

/-- R64 steps 3 to 5: context `c`, FREE, takes the tube. -/
def takeTube (c : Ctx) (b : Bank) (time : Time) (travel : Nat) (s : State) : State :=
  let id := s.tubes.idCounter + 1
  let fresh := freshTube id time travel s.agent.generation b (worstCondition s)
  s.setTubes { (s.tubes.put c (some fresh)).putRetired c none with idCounter := id, newest := some c }

/-- R64: a tube start. A tube start is handed on only in MEASURE, where the active bank is LOADED; without a bank no tube
is taken (log 15). -/
def startTube (time : Time) (travel : Nat) (s : State) : State :=
  let s1 := pendingApply s
  match s1.agent.active with
  | none => s1
  | some b =>
    let c := chooseCtx s1
    takeTube c b time travel (truncate c s1)

/-! ### Heads lost (R141) -/

/-- R141 step 2: a head added to the ACTIVE context's heads-lost set and HEAD_LOST raised. -/
def loseHead (h : HeadNo) (s : State) : State :=
  match activeCtx s with
  | none => s
  | some c =>
    match tubeAt s c with
    | none => s
    | some t =>
      raise .headLost (.headTube h t.id) (modTube c (fun t => { t with headsLost := tableSet t.headsLost h true }) s)

/-- R141 step 3: ALL_HEADS_LOST when a context is ACTIVE and every head enabled in the active bank is SILENT. -/
def allHeadsLost (s : State) : State :=
  match activeCtx s with
  | none => s
  | some c =>
    match tubeAt s c with
    | none => s
    | some t =>
      if allHeads.all (fun h => !headEnabled s h || headStateOf s h == .silent) then
        raise .allHeadsLost (.tube t.id) s
      else s

end Sys2Proof.Machine
end

