-- ==== Sys2Proof/Machine/Pose.lean ====
section
/-! DEFINITION. The Pose Tracker (chapter 3): resolving readings, the pending list, the presence run, the acceptance of a
POSITION frame and the position silence timer. -/

namespace Sys2Proof.Machine

/-- The Pose Tracker changed by `f`. -/
def modPose (f : PoseTracker → PoseTracker) (s : State) : State := s.setPose (f s.pose)

/-- The newest sample of the ring (R42). -/
def newestSample (s : State) : Option Sample := s.pose.ring.getLast?

/-! ### Resolving a reading (R48 to R50) -/

/-- R49: a difference of angles taken as a signed value in -2048..2047. -/
def angleStep (a1 a2 : Nat) : Int :=
  let d := ((a2 : Int) - a1) % 4096
  if d < 2048 then d else d - 4096

/-- R49, R50: the pose at time `t` from two samples; `t` may lie beyond the second. -/
def poseAt (x y : Sample) (t : Time) : Pose :=
  let dt : Int := (t - x.timestamp).toNat
  let span : Int := (y.timestamp - x.timestamp).toNat
  { angle := (((x.angle : Int) + roundHalfAway (angleStep x.angle y.angle * dt) span) % 4096).toNat,
    travel := (x.travel : Int) + roundHalfAway (((y.travel : Int) - x.travel) * dt) span }

/-- R49: the two adjacent samples around `t`, for `t` not earlier than the first sample. -/
def bracket (t : Time) : List Sample → Option (Sample × Sample)
  | [] => none
  | [_] => none
  | [x, y] => some (x, y)
  | x :: y :: rest => if notLater t y.timestamp then some (x, y) else bracket t (y :: rest)

/-- R50: the position silence limit in µs as it stands. -/
def silenceLimit (s : State) : Nat := s.agent.timing.positionSilence * 1000

/-- R50: a reading resolved by extrapolation from the newest two samples and handed to the Tube Tracker. -/
def extrapolate (r : Reading) (s : State) : State :=
  match lastTwo s.pose.ring with
  | none => assignUnposed r .noPose s
  | some (x, y) =>
    if age r.timestamp y.timestamp ≤ silenceLimit s then
      assignPosed { r with flags := { r.flags with extrapolated := true } } (poseAt x y r.timestamp) s
    else assignUnposed r .noPose s

/-- R49, R52: a reading covered by the newest sample, interpolated between the newest two and handed on. -/
def interpolateNewest (r : Reading) (s : State) : State :=
  match lastTwo s.pose.ring with
  | none => assignUnposed r .noPose s
  | some (x, y) => assignPosed r (poseAt x y r.timestamp) s

/-- R51: a reading joins the pending list, extrapolating out the oldest when it holds 32. -/
def joinPending (r : Reading) (s : State) : State :=
  match s.pose.waiting with
  | oldest :: rest =>
    if 32 ≤ s.pose.waiting.length then
      modPose (fun p => { p with waiting := p.waiting ++ [r] })
        (extrapolate oldest (modPose (fun p => { p with waiting := rest }) s))
    else modPose (fun p => { p with waiting := p.waiting ++ [r] }) s
  | [] => modPose (fun p => { p with waiting := [r] }) s

/-- R48: a reading arriving from the Echo Evaluator. A time exactly 2^31 µs from the oldest sample, which R1 makes later than
it and it later than that time, counts as earlier than it (DESIGN CHOICE, log 29). -/
def resolveReading (r : Reading) (s : State) : State :=
  match s.pose.ring, newestSample s with
  | oldest :: _ :: _, some newest =>
    if laterThan oldest.timestamp r.timestamp then assignUnposed r .stalePose s
    else if notLater r.timestamp newest.timestamp then
      match bracket r.timestamp s.pose.ring with
      | some (x, y) => assignPosed r (poseAt x y r.timestamp) s
      | none => assignUnposed r .noPose s
    else if s.pose.feed = .live then joinPending r s
    else extrapolate r s
  | _, _ => assignUnposed r .noPose s

/-- R47, R52, R53: the pending readings that `due` picks leave the list, and each is resolved by `how`, oldest first. -/
def resolvePending (due : Reading → Bool) (how : Reading → State → State) (s : State) : State :=
  (s.pose.waiting.filter due).foldl (fun x r => how r x)
    (modPose (fun p => { p with waiting := p.waiting.filter (fun r => !due r) }) s)

/-! ### The presence run (R57 to R59) -/

/-- R57: the presence_count as it stands; 2 while the active bank is EMPTY. -/
def presenceCount (s : State) : Nat :=
  match s.agent.active with
  | none => 2
  | some b => b.map.presenceCount.toNat

/-- Whether a sample's present value agrees with a presence state (R57). -/
def Presence.agrees (p : Presence) (present : Bool) : Bool :=
  match p with
  | .absent => !present
  | .present => present

/-- The other presence state. -/
def Presence.flip : Presence → Presence
  | .absent => .present
  | .present => .absent

/-- R57: the presence run after a sample, before it is compared with presence_count. -/
def PoseTracker.advanceRun (p : PoseTracker) (f : Sample) : PoseTracker :=
  if p.presence.agrees f.present then { p with runLength := 0, runFirst := none }
  else if p.runLength = 0 then
    { p with runLength := 1, runFirst := some { timestamp := f.timestamp, travel := f.travel } }
  else { p with runLength := min 8 (p.runLength + 1) }

/-- R57, R58, R59: the presence state changed, and the tube start or tube end that this gives. -/
def changePresence (s : State) : State :=
  let first := s.pose.runFirst
  let s1 := modPose (fun p => { p with presence := p.presence.flip, runLength := 0, runFirst := none }) s
  match first, s.pose.presence with
  | none, _ => s1
  | some f, .absent => if s.agent.mode = .measure then startTube f.timestamp f.travel s1 else s1
  | some f, .present => endTube f.timestamp f.travel .presenceEnd s1

/-- R45 step 3, R57: the presence run advanced by a sample. A run that was just broken changes nothing, whatever the
count. -/
def advancePresence (f : Sample) (s : State) : State :=
  let s1 := modPose (fun p => p.advanceRun f) s
  if 1 ≤ s1.pose.runLength ∧ presenceCount s1 ≤ s1.pose.runLength then changePresence s1 else s1

/-! ### The acceptance of a POSITION frame (R43 to R45) -/

/-- R44: the sample of a frame. -/
def sampleOf (f : PositionFrame) : Sample :=
  { sequence := f.sequence, timestamp := f.timestamp, angle := f.angle.toNat, travel := f.travel.toNat,
    present := f.present }

/-- R44: the ring after a sample joins: the newest 16. -/
def joinRing (ring : List Sample) (f : Sample) : List Sample := (ring ++ [f]).drop (ring.length + 1 - 16)

/-- R44, R45 steps 1 and 2, R46: the sample joins the ring, the silence timer restarts and the feed becomes LIVE. -/
def acceptSample (f : Sample) (s : State) : State :=
  modPose (fun p => { p with
    ring := joinRing p.ring f, accepted := satInc cap16 p.accepted, lastAcceptance := some s.now, feed := .live }) s

/-- R45 step 4, R52: the pending readings that the new newest sample covers are interpolated. -/
def resolveCovered (f : Sample) (s : State) : State :=
  resolvePending (fun r => notLater r.timestamp f.timestamp) interpolateNewest s

/-- R45: an accepted frame, in the order of the rule. -/
def acceptFrame (f : Sample) (s : State) : State :=
  closeRingsByLead f (resolveCovered f (advancePresence f (acceptSample f s)))

/-- R43: the ranges of a POSITION frame. -/
def positionInRange (f : PositionFrame) : Bool := f.angle.toNat ≤ 4095 && f.travel.toNat ≤ 4000000

/-- R44: the frame is later than the newest sample, if there is one. -/
def positionInOrder (s : State) (f : PositionFrame) : Bool :=
  match newestSample s with
  | none => true
  | some y => laterThan f.timestamp y.timestamp

/-- R43 to R45: a POSITION frame at the Pose Tracker. At the end of an acceptance the settle condition is examined (R75) and
the Drain Engine may take a context (R78, R100). -/
def takePosition (f : PositionFrame) (s : State) : State :=
  if !positionInRange f then
    raise .malformed (.source 0x10) (modPose (fun p => { p with rangeDiscards := satInc cap16 p.rangeDiscards }) s)
  else if !positionInOrder s f then
    raise .positionOrder (.time f.timestamp)
      (modPose (fun p => { p with orderDiscards := satInc cap16 p.orderDiscards }) s)
  else examineDrain (examineBoth (acceptFrame (sampleOf f) s))

/-! ### The position silence timer (R46, R47) -/

/-- R46: the silence timer runs and has reached its limit. -/
def positionSilenceDue (s : State) : Bool :=
  match s.pose.feed, s.pose.lastAcceptance with
  | .live, some t => silenceLimit s ≤ age s.now t
  | _, _ => false

/-- R47 step 3: the ACTIVE tube ended at the newest sample, and POSITION_LOST raised. -/
def losePosition (s : State) : State :=
  match activeCtx s, newestSample s with
  | some c, some y =>
    match tubeAt s c with
    | none => s
    | some t => raise .positionLost (.tube t.id) (endTube y.timestamp y.travel .positionLost s)
  | _, _ => s

/-- R47: expiry of the position silence timer, in the order of the rule. -/
def expirePosition (s : State) : State :=
  if positionSilenceDue s then
    let s1 := modPose (fun p => { p with silenceExpiries := satInc cap16 p.silenceExpiries, feed := .silent }) s
    let s2 := losePosition (resolvePending (fun _ => true) extrapolate s1)
    modPose (fun p => { p with runLength := 0, runFirst := none }) s2
  else s

/-! ### The settle limit (R53, R76) -/

/-- R76: context `c` is SETTLING and its settle limit has been reached. -/
def settleDue (s : State) (c : Ctx) : Bool :=
  match tubeAt s c with
  | none => false
  | some t =>
    match t.stage, t.settleEntry with
    | .settling, some e => s.agent.timing.settle * 1000 ≤ age s.now e
    | _, _ => false

/-- R53, R76: expiry of a settle limit: SETTLE_TIMEOUT, the tube's pending readings extrapolated, settle completion. -/
def expireSettle (c : Ctx) (s : State) : State :=
  match tubeAt s c with
  | none => s
  | some t =>
    match t.ended with
    | none => s
    | some e =>
      if settleDue s c then
        completeSettling c
          (resolvePending (fun r => notLater r.timestamp e.time) extrapolate (raise .settleTimeout (.tube t.id) s))
      else s

end Sys2Proof.Machine
end

