-- ==== Sys2Proof/Machine/Thickness.lean ====
section
/-! DEFINITION. Temperature, velocity, thickness and window (chapter 2), and the whole evaluation of a trace on its latched
slice (R23, R39). -/

namespace Sys2Proof.Machine

/-! ### Temperature (R30) -/

/-- R125, R177: the channel a pyrometer channel code names; NONE (255) and every other code name none. -/
def channelOf (code : Byte) : Option ChannelNo := if h : code.toNat < 4 then some ⟨code.toNat, h⟩ else none

/-- R30: the temperature used and whether it is the fallback. -/
def fixTemperature (now : Time) (staleMs fallback : Nat) (record : Option ChannelRecord) : Nat × Bool :=
  match record.bind ChannelRecord.held with
  | none => (fallback, true)
  | some t => if age now t.arrival ≤ staleMs * 1000 then (t.temperature, false) else (fallback, true)

/-! ### Velocity (R32 to R34) -/

/-- R32, R33: the velocity at temperature `t` over the entries in ascending temperature, from the entry `prev` on; the last
entry's velocity at or above its temperature. -/
def velocityFrom (t : Nat) (prev : VelocityEntry) : List VelocityEntry → Nat
  | [] => prev.velocity.toNat
  | e :: rest =>
    if t < e.temperature.toNat then
      ((prev.velocity.toNat : Int) +
        roundHalfAway (((e.velocity.toNat : Int) - prev.velocity.toNat) * ((t : Int) - prev.temperature.toNat))
          ((e.temperature.toNat : Int) - prev.temperature.toNat)).toNat
    else velocityFrom t e rest

/-- The last temperature of a velocity table. -/
def lastTemperature (prev : VelocityEntry) : List VelocityEntry → Nat
  | [] => prev.temperature.toNat
  | e :: rest => lastTemperature e rest

/-- R32, R33: the velocity at temperature `t` and the TEMP_CLAMP flag, over the entries in use. A table with no entry gives
0; validation admits none (log 15). -/
def velocityAt (entries : List VelocityEntry) (t : Nat) : Nat × Bool :=
  match entries with
  | [] => (0, false)
  | e :: rest =>
    if t ≤ e.temperature.toNat then (e.velocity.toNat, decide (t < e.temperature.toNat))
    else (velocityFrom t e rest, decide (lastTemperature e rest < t))

/-- The entries of the latched velocity table that are in use (R32). -/
def Slice.entries (sl : Slice) : List VelocityEntry := sl.velocity.toList.take sl.velocityCount

/-- R34: the effective velocity. -/
def effectiveVelocity (v k : Nat) : Nat := roundHalfUp (v * k) 65536

/-! ### Thickness and window (R35 to R38) -/

/-- R10: the sample interval in ns. -/
def Interval.ns : Interval → Nat
  | .ns10 => 10
  | .ns20 => 20
  | .ns40 => 40

/-- R35: the thickness before saturation, in µm. -/
def rawThickness (velocity : Nat) (delta : Int) (interval : Interval) : Nat :=
  roundHalfUp (velocity * delta.toNat * Interval.ns interval) 512000

/-- R36: the thickness and the SATURATED flag. -/
def thicknessOf (velocity : Nat) (delta : Int) (interval : Interval) : Nat × Bool :=
  let d := rawThickness velocity delta interval
  if 65535 < d then (65535, true) else (d, false)

/-- R37, R38: the outcome of a thickness; a calibration evaluation makes no window check. -/
def windowOutcome (calibration : Bool) (sl : Slice) (d : Nat) : EvalOutcome :=
  if calibration then .valid
  else if d < sl.windowLow ∨ sl.windowHigh < d then .outOfWindow
  else .valid

/-! ### The evaluation (R12, R18, R23, R24, R39) -/

/-- R24: the reading of a trace before its echo stages: its identity, temperature and effective velocity, the placement
fields absent. -/
def baseReading (ev : Evaluation) : Reading :=
  let v := velocityAt ev.slice.entries ev.slice.temperature
  { head := ev.trace.head, sequence := ev.trace.sequence, timestamp := ev.trace.timestamp,
    generation := ev.slice.generation, outcome := .lowEnergy,
    flags := { edge := false, weak := false, flaw := false, fallbackPair := false, tempClamp := v.2,
               tempFallback := ev.slice.tempFallback, saturated := false, extrapolated := false },
    delta := none, echo1 := none, echo2 := none, echo3 := none, temperature := ev.slice.temperature,
    velocity := effectiveVelocity v.1 ev.slice.factor, thickness := none,
    placement := none, sector := none, bin := none, tubeId := none }

/-- R18: the reading with the amplitudes and flags that the walk gave. -/
def withWalk (w : Walk) (r : Reading) : Reading :=
  { r with
    flags := { r.flags with edge := w.edge, flaw := w.flaw },
    echo1 := w.echo1.echo?.map Echo.amplitude, echo2 := w.echo2.echo?.map Echo.amplitude,
    echo3 := w.echo3.echo?.map Echo.amplitude }

/-- R20 to R22, R35 to R38: the reading of a trace whose first and second echo were found. -/
def judgeEchoes (ev : Evaluation) (w : Walk) (e1 e2 : Echo) (r : Reading) : Reading :=
  let tof := timeOfFlight ev.slice.entry.pairMode e1 e2 w.echo3.echo?
  let flags := { r.flags with
    weak := weakEcho e1.amplitude e2.amplitude ev.slice.entry.weakPct.toNat, fallbackPair := tof.2 }
  if tooShort tof.1 ev.slice.entry.minSep.toNat then
    { r with outcome := .badOrder, delta := some tof.1, flags := flags }
  else
    let d := thicknessOf r.velocity tof.1 ev.trace.interval
    { r with
      outcome := windowOutcome (ev.tie != .ordinary) ev.slice d.1, delta := some tof.1, thickness := some d.1,
      flags := { flags with saturated := d.2 } }

/-- R12 to R24, R30 to R40: the evaluated reading of an evaluation, as the evaluator hands it on. -/
def evaluate (ev : Evaluation) : Reading :=
  let r := baseReading ev
  if ev.trace.energy.toNat < ev.slice.entry.minEnergy.toNat then r
  else
    let w := walkChain (envelope ev.trace.samples) Walk.start ev.slice.chain
    let r1 := withWalk w r
    match w.echo1.echo?, w.echo2.echo? with
    | none, _ => { r1 with outcome := .noEcho1 }
    | some _, none => { r1 with outcome := .noEcho2 }
    | some e1, some e2 => judgeEchoes ev w e1 e2 r1

end Sys2Proof.Machine
end

