-- ==== Sys2Proof/Machine/Evaluator.lean ====
section
/-! DEFINITION. The Echo Evaluator's commands: EVALUATION_START (R5 to R9, R30) and EVALUATION_COMPLETION (R24, R25). -/

namespace Sys2Proof.Machine

/-! ### Evaluation start -/

/-- R9: the evaluation of a trace of this head is a calibration evaluation tied to the run in progress. -/
def tiedRun (s : State) (h : HeadNo) : Option CalRun :=
  match s.agent.run with
  | none => none
  | some r => if r.head = h then some r else none

/-- R7: what an evaluation latches of its head's HEAD entry. -/
def HeadEntry.latched (e : HeadEntry) : HeadSlice :=
  { chainStart := e.chainStart, pairMode := e.pairMode, minSep := e.minSep, weakPct := e.weakPct, minEnergy := e.minEnergy,
    channel := e.channel }

/-- R7, R9, R30: the slice latched for a trace of head `h` from the active bank `b`. A calibration evaluation takes the run's
reference temperature and the factor 65,536. -/
def latchSlice (s : State) (b : Bank) (h : HeadNo) : Slice :=
  let e := tableGet b.heads h
  let ch := channelOf e.channel
  let used :=
    match tiedRun s h with
    | some r => (r.temperature, false)
    | none => fixTemperature s.now s.agent.timing.temperatureStale b.map.fallback.toNat
        (ch.map (fun c => tableGet s.headPort.channels c))
  { generation := s.agent.generation, entry := e.latched, chain := latchChain b e,
    velocityCount := b.velocityCount.toNat, velocity := b.velocity,
    windowLow := b.map.windowLow.toNat, windowHigh := b.map.windowHigh.toNat, fallback := b.map.fallback.toNat,
    factor := if (tiedRun s h).isSome then 65536 else tableGet s.agent.calib h,
    temperature := used.1, tempFallback := used.2, channel := ch }

/-- R7, R9: the evaluation that starts for a trace. -/
def startedEvaluation (s : State) (b : Bank) (t : Trace) : Evaluation :=
  { trace := t, slice := latchSlice s b t.head, tie := if (tiedRun s t.head).isSome then .run else .ordinary }

/-- R5, R7, R8: the oldest trace `t` taken, `rest` staying in the queue: evaluated when its head is enabled in the active
bank, withdrawn as an idle discard otherwise. -/
def startEvaluation (t : Trace) (rest : List Trace) (s : State) : State :=
  let s1 := s.setTraceQueue rest
  match s.agent.active with
  | none => countIdleDiscard t.head s1
  | some b =>
    if headEnabled s t.head then s1.setEvaluator (some (startedEvaluation s b t)) else countIdleDiscard t.head s1

/-- EVALUATION_START (R5, R7): the idle evaluator takes the oldest trace. With the evaluator EVALUATING or the queue empty
no start takes place (log 1); where one can, other commands or ticks may come before it (DESIGN CHOICE, log 3). The settle
condition is examined at the end (R75). -/
def execEvaluationStart (s : State) : Host.Outcome State Fault Refusal :=
  match s.evaluator, s.traceQueue with
  | none, t :: rest => .next (examineBoth (startEvaluation t rest s))
  | _, _ => .next s

/-! ### Evaluation completion -/

/-- R24: the reading handed on: to the Pose Tracker, to the run it is tied to, or discarded when that run has ended. -/
def handOn (tie : Tie) (r : Reading) (s : State) : State :=
  match tie with
  | .ordinary => resolveReading r s
  | .run => runTakes r s
  | .runEnded => s

/-- R19, R25: the event FLAW of a reading that carries the flag. -/
def raiseFlaw (r : Reading) (s : State) : State := if r.flags.flaw then raise .flaw (.head r.head) s else s

/-- R25, R31: the event TEMP_FALLBACK of a reading that carries the flag, with the latched channel. -/
def raiseTempFallback (r : Reading) (ch : Option ChannelNo) (s : State) : State :=
  if r.flags.tempFallback then raise .tempFallback (.headChannel r.head ch) s else s

/-- R25: what a completion does, in the order of the rule. A reading that is discarded still raises its events and its MIRROR
decision is made (DEDUCED, log 22). -/
def completeEvaluation (ev : Evaluation) (s : State) : State :=
  let r := evaluate ev
  decideMirror { trace := ev.trace, reading := r }
    (raiseTempFallback r ev.slice.channel (raiseFlaw r (handOn ev.tie r (s.setEvaluator none))))

/-- EVALUATION_COMPLETION (R24, R25): the evaluation in flight completes. With the evaluator IDLE nothing completes (log 1).
The settle condition is examined at the end (R75). -/
def execEvaluationCompletion (s : State) : Host.Outcome State Fault Refusal :=
  match s.evaluator with
  | none => .next s
  | some ev => .next (examineBoth (completeEvaluation ev s))

end Sys2Proof.Machine
end

