-- ==== Sys2Proof/Machine/Intake.lean ====
section
/-! DEFINITION. The Head Port's commands (chapters 2 and 9): the head link, the inbound frames, TIME_MARK, and the expiries
of a head's silence timer and of a channel record. -/

namespace Sys2Proof.Machine

/-! ### The head link and the time mark (R136, R145) -/

/-- R145: a TIME_MARK starts, carrying part time now. -/
def startMark (s : State) : State :=
  s.setHeadPort { s.headPort with lastMark := some s.now, markInFlight := some s.now }

/-- HEAD_LINK_UP (R136, R145): the link becomes UP and a TIME_MARK is sent at once. A link already UP stays as it is
(log 1). -/
def execHeadLinkUp (s : State) : Host.Outcome State Fault Refusal :=
  if s.headPort.link = .up then .next s else .next (startMark (s.setHeadPort { s.headPort with link := .up }))

/-- R136: the counters after the link goes DOWN, `cut` when a frame was partly received. -/
def HeadCounters.linkDown (cut : Bool) (c : HeadCounters) : HeadCounters :=
  { c with
    linkDowns := satInc cap32 c.linkDowns, partials := if cut then satInc cap32 c.partials else c.partials }

/-- HEAD_LINK_DOWN (R136): a TIME_MARK in transmission is cut off, a partly received frame is discarded and counted. A link
already DOWN stays as it is (log 1). -/
def execHeadLinkDown (cut : Bool) (s : State) : Host.Outcome State Fault Refusal :=
  if s.headPort.link = .down then .next s
  else
    .next (s.setHeadPort { s.headPort with
      link := .down, markInFlight := none, counters := s.headPort.counters.linkDown cut })

/-- R145: a TIME_MARK is due: the link is UP, none is in transmission (log 23) and 1000 µs have passed since the last. -/
def markDue (s : State) : Bool :=
  s.headPort.link == .up && s.headPort.markInFlight == none &&
  (match s.headPort.lastMark with
    | none => true
    | some t => 1000 ≤ age s.now t)

/-- TIME_MARK (R145): a due TIME_MARK starts transmission. When none is due none starts (log 1). -/
def execTimeMark (s : State) : Host.Outcome State Fault Refusal := if markDue s then .next (startMark s) else .next s

/-- TIME_MARK_SENT (R137, R145): the TIME_MARK in transmission completes and is counted. -/
def execTimeMarkSent (s : State) : Host.Outcome State Fault Refusal :=
  match s.headPort.markInFlight with
  | none => .next s
  | some _ =>
    .next (s.setHeadPort { s.headPort with
      markInFlight := none,
      counters := { s.headPort.counters with marksSent := satInc cap32 s.headPort.counters.marksSent } })

/-! ### Rejected frames (R138) -/

/-- R138: one more frame discarded for its frame check. -/
def HeadCounters.checkFailure (c : HeadCounters) : HeadCounters := { c with checkFailures := satInc cap32 c.checkFailures }

/-- R138: one more frame discarded as malformed. -/
def HeadCounters.malformedFrame (c : HeadCounters) : HeadCounters := { c with malformed := satInc cap32 c.malformed }

/-- R139: one more TRACE frame of head `h` that passed tests 1 to 4. -/
def countTrace (h : HeadNo) (s : State) : State :=
  modHead h (fun r => { r with received := satInc cap32 r.received }) s

/-- The source code of a head (R4). -/
def headSource (h : HeadNo) : Byte := BitVec.ofNat 8 h.val

/-- R138: a discarded head-link frame counted and its event raised, by the test it failed first. -/
def rejectHeadFrame (r : HeadReject) (s : State) : State :=
  match r with
  | .frameCheck => raise .linkCheck (.link .head) (modHeadCounters HeadCounters.checkFailure s)
  | .kind src => raise .malformed (.source src) (modHeadCounters HeadCounters.malformedFrame s)
  | .source src => raise .malformed (.source src) (modHeadCounters HeadCounters.malformedFrame s)
  | .length src => raise .malformed (.source src) (modHeadCounters HeadCounters.malformedFrame s)
  | .traceFields h =>
    raise .malformed (.source (headSource h)) (countTrace h (modHeadCounters HeadCounters.malformedFrame s))

/-- HEAD_FRAME_REJECTED (R138, R176): a complete frame that failed a test is discarded and counted. Frames are received only
while the link is UP (R136; log 17). -/
def execHeadFrameRejected (r : HeadReject) (s : State) : Host.Outcome State Fault Refusal :=
  if s.headPort.link = .up then .next (rejectHeadFrame r (countHeadFrame s)) else .next s

/-! ### TRACE frames (R142, R143) -/

/-- R142: g, how far a sequence lies past the expected one; 0 for a record that expects none. -/
def sequenceGap (r : HeadRecord) (seq : Seq) : Nat :=
  match r.expected with
  | none => 0
  | some e => (seq - e).toNat

/-- R142 steps 1 to 3: the record of a head after an accepted trace. -/
def HeadRecord.accept (now : Time) (t : Trace) (r : HeadRecord) : HeadRecord :=
  { r with
    state := .active, expected := some (t.sequence + 1), lastTimestamp := some t.timestamp, lastArrival := some now }

/-- R143: an accepted trace of this head is to be admitted in the mode and run state as they stand. -/
def admits (s : State) (h : HeadNo) : Bool :=
  match s.agent.mode with
  | .measure => headEnabled s h
  | .calibrate => (tiedRun s h).isSome
  | .standby => false

/-- R6: the capacity of the Trace Queue. -/
def traceCap : Nat := 48

/-- R143: admission: the trace joins the queue, is dropped at a full one, or is an idle discard. -/
def admitTrace (t : Trace) (s : State) : State :=
  if admits s t.head then
    if s.traceQueue.length < traceCap then s.setTraceQueue (s.traceQueue ++ [t])
    else
      raise .queueOverflow (.headSequence t.head t.sequence)
        (modHead t.head (fun r => { r with queueDrops := satInc cap32 r.queueDrops }) s)
  else countIdleDiscard t.head s

/-- R142: the gap of an accepted trace counted and SEQ_GAP raised, when there is one. -/
def countGap (h : HeadNo) (g : Nat) (s : State) : State :=
  if g = 0 then s
  else raise .seqGap (.headMissed h g) (modHead h (fun r => { r with gaps := satAdd cap32 r.gaps g }) s)

/-- R142, R172: an accepted trace: the gap, steps 1 to 3, the comparison when the head's state changed, then admission; the
settle condition is examined at the end of the step (R75). -/
def acceptTrace (t : Trace) (g : Nat) (s : State) : State :=
  let s1 := modHead t.head (HeadRecord.accept s.now t) (countGap t.head g s)
  examineBoth (admitTrace t (if headStateOf s t.head = .active then s1 else compareSnapshot t.head s1))

/-- R142: the sequence check of a trace against its head's intake record. -/
def checkSequence (t : Trace) (s : State) : State :=
  let r := tableGet s.headPort.heads t.head
  match r.state with
  | .disabled => countIdleDiscard t.head s
  | .unseen => acceptTrace t 0 s
  | .active | .silent =>
    if sequenceGap r t.sequence < 32768 then acceptTrace t (sequenceGap r t.sequence) s
    else
      raise .duplicate (.headSequence t.head t.sequence)
        (modHead t.head (fun r => { r with duplicates := satInc cap32 r.duplicates }) s)

/-- TRACE_FRAME (R138, R142, R143): a TRACE frame that passed the tests goes to its head's intake record. A trace whose sample
count no frame may carry fails test 5 (log 18); a frame is received only while the link is UP (log 17). -/
def execTraceFrame (t : Trace) (s : State) : Host.Outcome State Fault Refusal :=
  if s.headPort.link = .up then
    if sampleCountOk t then .next (checkSequence t (countTrace t.head (countHeadFrame s)))
    else .next (rejectHeadFrame (.traceFields t.head) (countHeadFrame s))
  else .next s

/-! ### POSITION and TEMPERATURE frames -/

/-- POSITION_FRAME (R43 to R45): a POSITION frame that passed the tests goes to the Pose Tracker. -/
def execPositionFrame (f : PositionFrame) (s : State) : Host.Outcome State Fault Refusal :=
  if s.headPort.link = .up then .next (takePosition f (countHeadFrame s)) else .next s

/-- R27: a channel record after a TEMPERATURE frame taken in at part time `now`. -/
def ChannelRecord.receive (now : Time) (f : TemperatureFrame) (r : ChannelRecord) : ChannelRecord :=
  if f.ok && f.temperature.toNat ≤ 1600 then
    { r with
      held := some { temperature := f.temperature.toNat, arrival := now, reported := f.timestamp },
      received := satInc cap16 r.received }
  else { r with faults := satInc cap16 r.faults }

/-- TEMPERATURE_FRAME (R27): a TEMPERATURE frame that passed the tests updates its channel's record or is refused by it. -/
def execTemperatureFrame (f : TemperatureFrame) (s : State) : Host.Outcome State Fault Refusal :=
  if s.headPort.link = .up then .next (modChannel f.channel (ChannelRecord.receive s.now f) (countHeadFrame s))
  else .next s

/-! ### Expiries -/

/-- R28: a channel record whose temperature has aged to 2^31 µs returns to NONE. -/
def ChannelRecord.expire (now : Time) (r : ChannelRecord) : ChannelRecord :=
  match r.held with
  | none => r
  | some t => if 2 ^ 31 ≤ age now t.arrival then { r with held := none } else r

/-- TEMP_RECORD_EXPIRY (R28). A record that is not of that age stays as it is (log 1). -/
def execTempRecordExpiry (ch : ChannelNo) (s : State) : Host.Outcome State Fault Refusal :=
  .next (modChannel ch (ChannelRecord.expire s.now) s)

/-- R141: the silence timer of head `h` runs and has reached its limit. -/
def headSilenceDue (s : State) (h : HeadNo) : Bool :=
  match (tableGet s.headPort.heads h).state, (tableGet s.headPort.heads h).lastArrival with
  | .active, some t => s.agent.timing.headSilence * 1000 ≤ age s.now t
  | _, _ => false

/-- R141: expiry of a head's silence timer, in the order of the rule. -/
def expireHead (h : HeadNo) (s : State) : State :=
  if headSilenceDue s h then
    compareSnapshot h (allHeadsLost (loseHead h (modHead h (fun r => { r with state := .silent }) s)))
  else s

/-- HEAD_SILENCE_EXPIRY (R141). A head whose timer is not due stays as it is (log 1). The settle condition is examined at the
end (R75). -/
def execHeadSilenceExpiry (h : HeadNo) (s : State) : Host.Outcome State Fault Refusal :=
  if headSilenceDue s h then .next (examineBoth (expireHead h s)) else .next s

/-- POSITION_SILENCE_EXPIRY (R46, R47). A timer that is not due does not expire (log 1). The settle condition is examined at
the end (R75). -/
def execPositionSilenceExpiry (s : State) : Host.Outcome State Fault Refusal :=
  if positionSilenceDue s then .next (examineBoth (expirePosition s)) else .next s

/-- SETTLE_LIMIT_EXPIRY (R53, R76). A limit that is not due does not expire (log 1). The other context's settle condition is
examined at the end (R75). -/
def execSettleLimitExpiry (c : Ctx) (s : State) : Host.Outcome State Fault Refusal :=
  if settleDue s c then .next (examineBoth (expireSettle c s)) else .next s

/-- SETTLE_COMPLETION (R75, R77): each SETTLING context whose settle condition holds completes, the older tube's first. -/
def execSettleCompletion (s : State) : Host.Outcome State Fault Refusal := .next (examineBoth s)

/-- CALIBRATION_TIMEOUT (R119). A limit that is not due does not expire (log 1). -/
def execCalibrationTimeout (s : State) : Host.Outcome State Fault Refusal := .next (expireRun s)

/-! ### The Drain Engine's own steps -/

/-- DRAIN_BEGIN (R78, R95): with the engine free, the older CLOSED_WAIT context becomes DRAINING and the drain proceeds as far
as room in the MAP class queue allows. -/
def execDrainBegin (s : State) : Host.Outcome State Fault Refusal := .next (examineDrain s)

/-- R96: the drain state after one frame: WAITING when the next frame finds the MAP class queue full. -/
def markWaiting (s : State) : State :=
  match s.drain with
  | none => s
  | some d => s.setDrain (some { d with waiting := !mapRoom s })

/-- MAP_FRAME_QUEUED (R97): with room in the MAP class queue, the MAP frame of the lowest present segment at or above the
cursor is queued and its page freed. Otherwise none is queued (log 1). -/
def execMapFrameQueued (s : State) : Host.Outcome State Fault Refusal :=
  match s.drain with
  | none => .next s
  | some d =>
    match tubeAt s d.ctx with
    | none => .next s
    | some t =>
      match dirLowest t.directory d.cursor with
      | some (n, e) => if mapRoom s then .next (markWaiting (queueMapFrame d t n e s)) else .next s
      | none => .next s

/-- MAP_END_QUEUED (R99, R78): with room in the MAP class queue and no present segment left, MAP_END is queued, the context
becomes FREE and the engine takes the other context at once if it is CLOSED_WAIT. Otherwise none is queued (log 1). -/
def execMapEndQueued (s : State) : Host.Outcome State Fault Refusal :=
  match s.drain with
  | none => .next s
  | some d =>
    match tubeAt s d.ctx with
    | none => .next s
    | some t =>
      match dirLowest t.directory d.cursor with
      | some _ => .next s
      | none => if mapRoom s then .next (examineDrain (queueMapEnd d t s)) else .next s

end Sys2Proof.Machine
end

