-- ==== Sys2Proof/Machine/Mill.lean ====
section
/-! DEFINITION. The Mill Port's commands (chapter 10): the mill link, inbound frames and the request queue, the transmitter,
and the release of a held RESPONSE. -/

namespace Sys2Proof.Machine

/-- R149: the class of a frame. -/
def Frame.cls : Frame → Fin 6
  | .response _ => responseClass
  | .notice _ => noticeClass
  | .summary _ => summaryClass
  | .map _ => mapClass
  | .reading _ => readingClass
  | .mirror _ => mirrorClass

/-! ### The transmitter (R150, R151) -/

/-- R150: a frame out of its class queue and into the transmitter. -/
def transmit (f : Frame) (m : MillPort) : MillPort := { m with transmitter := some f }

/-- R150: transmission start: the head frame of the highest-priority class queue that is not empty leaves it; a departure
from the RESPONSE class lets a held RESPONSE join (R155), one from the MAP class wakes the Drain Engine (R96). -/
def startTransmission (s : State) : State :=
  if s.mill.link = .up ∧ s.mill.transmitter = none then
    match s.mill.responseQ, s.mill.noticeQ, s.mill.summaryQ, s.mill.mapQ, s.mill.readingQ, s.mill.mirrorQ with
    | f :: rest, _, _, _, _, _ => releaseHeld (s.setMill (transmit (.response f) { s.mill with responseQ := rest }))
    | [], f :: rest, _, _, _, _ => s.setMill (transmit (.notice f) { s.mill with noticeQ := rest })
    | [], [], f :: rest, _, _, _ => s.setMill (transmit (.summary f) { s.mill with summaryQ := rest })
    | [], [], [], f :: rest, _, _ => runDrain (s.setMill (transmit (.map f) { s.mill with mapQ := rest }))
    | [], [], [], [], f :: rest, _ => s.setMill (transmit (.reading f) { s.mill with readingQ := rest })
    | [], [], [], [], [], f :: rest => s.setMill (transmit (.mirror f) { s.mill with mirrorQ := rest })
    | [], [], [], [], [], [] => s
  else s

/-- TRANSMISSION_START (R150). With the transmitter SENDING, the link DOWN or every queue empty none starts (log 1). How long
after the transmitter is IDLE, the link UP and a frame queued the start may come is open: other commands or ticks may come
between (DESIGN CHOICE, log 3). -/
def execTransmissionStart (s : State) : Host.Outcome State Fault Refusal := .next (startTransmission s)

/-- TRANSMISSION_COMPLETION (R151): the frame in transmission is counted as sent and the transmitter becomes IDLE. -/
def execTransmissionCompletion (s : State) : Host.Outcome State Fault Refusal :=
  match s.mill.transmitter with
  | none => .next s
  | some f =>
    .next (s.setMill { s.mill with
      transmitter := none,
      counters := { s.mill.counters with sent := tableMod s.mill.counters.sent f.cls (satInc cap32) } })

/-- RESPONSE_HELD_RELEASE (R155): with room in the RESPONSE class queue, the held RESPONSE joins it and its request ends. -/
def execResponseHeldRelease (s : State) : Host.Outcome State Fault Refusal := .next (releaseHeld s)

/-! ### The mill link (R147) -/

/-- MILL_LINK_UP (R147, R150): the link becomes UP and the first transmission starts in that step. A link already UP stays as
it is (log 1). -/
def execMillLinkUp (s : State) : Host.Outcome State Fault Refusal :=
  if s.mill.link = .up then .next s else .next (startTransmission (s.setMill { s.mill with link := .up }))

/-- R147, R151: the counters after the link goes DOWN with frame `f` in transmission, `cut` when an inbound frame was partly
received. -/
def MillCounters.linkDown (cut : Bool) (f : Option Frame) (c : MillCounters) : MillCounters :=
  { c with
    linkDowns := satInc cap32 c.linkDowns, partials := if cut then satInc cap32 c.partials else c.partials,
    lost := match f with | none => c.lost | some f => tableMod c.lost f.cls (satInc cap32) }

/-- MILL_LINK_DOWN (R147, R151): the frame in transmission is lost, a partly received frame is discarded and counted. A link
already DOWN stays as it is (log 1). -/
def execMillLinkDown (cut : Bool) (s : State) : Host.Outcome State Fault Refusal :=
  if s.mill.link = .down then .next s
  else
    .next (s.setMill { s.mill with
      link := .down, transmitter := none, counters := s.mill.counters.linkDown cut s.mill.transmitter })

/-! ### Inbound frames (R154) -/

/-- R154: a discarded mill-link frame counted and its event raised, by the test it failed first. -/
def rejectMillFrame (r : MillReject) (s : State) : State :=
  let malformed := fun (src : Byte) =>
    raise .malformed (.source src) (modMillCounters (fun c => { c with malformed := satInc cap32 c.malformed }) s)
  match r with
  | .frameCheck =>
    raise .linkCheck (.link .mill) (modMillCounters (fun c => { c with checkFailures := satInc cap32 c.checkFailures }) s)
  | .kind src => malformed src
  | .source src => malformed src
  | .length => malformed 0x40

/-- MILL_FRAME_REJECTED (R154, R176): a complete frame that failed a test is discarded and counted. Frames are received only
while the link is UP (R147; log 17). -/
def execMillFrameRejected (r : MillReject) (s : State) : Host.Outcome State Fault Refusal :=
  if s.mill.link = .up then .next (rejectMillFrame r (countMillFrame s)) else .next s

/-- R154: the capacity of the request queue. -/
def requestCap : Nat := 4

/-- R154: a request joins the request queue, or is dropped at a full one. -/
def queueRequest (r : Request) (s : State) : State :=
  if s.mill.requestQ.length < requestCap then s.setMill { s.mill with requestQ := s.mill.requestQ ++ [r] }
  else
    raise .requestDropped (.tag r.tag)
      (modMillCounters (fun c => { c with requestDrops := satInc cap32 c.requestDrops }) s)

/-- REQUEST_FRAME (R154): a REQUEST frame that passed the tests joins the request queue. One whose entry data has not the
length R180 requires fails test 4 (log 18); a frame is received only while the link is UP (log 17). -/
def execRequestFrame (r : Request) (s : State) : Host.Outcome State Fault Refusal :=
  if s.mill.link = .up then
    if requestLengthOk r then .next (queueRequest r (countMillFrame s))
    else .next (rejectMillFrame .length (countMillFrame s))
  else .next s

end Sys2Proof.Machine
end

