-- ==== Sys2Proof/Machine/Operands.lean ====
section
/-! DEFINITION. The operands of a request: its entry data read by the layouts of R179, the entry it names after the checks of
R158 in their order, and the data of an entry as a READ returns it. -/

namespace Sys2Proof.Machine

/-! ### Entry data (R177, R179): most significant byte first -/

/-- The byte at an offset. -/
def byteAt (d : List Byte) (i : Nat) : Byte := d.getD i 0

/-- The 2-byte number at an offset. -/
def wordAt (d : List Byte) (i : Nat) : BitVec 16 := byteAt d i ++ byteAt d (i + 1)

/-- The 4-byte number at an offset. -/
def longAt (d : List Byte) (i : Nat) : BitVec 32 := wordAt d i ++ wordAt d (i + 2)

/-- R179: a HEAD entry. -/
def parseHead (d : List Byte) : HeadEntry :=
  { enabled := byteAt d 0, chainStart := byteAt d 1, pairMode := byteAt d 2, minSep := wordAt d 3, weakPct := byteAt d 5,
    minEnergy := byteAt d 6, channel := byteAt d 7, angleOffset := wordAt d 8, axialOffset := wordAt d 10 }

/-- R179: a GATE descriptor. -/
def parseGate (d : List Byte) : GateEntry :=
  { kind := byteAt d 0, enabled := byteAt d 1, placement := byteAt d 2, anchor := byteAt d 3, offset := wordAt d 4,
    width := wordAt d 6, threshold := wordAt d 8, next := byteAt d 10 }

/-- R179: a VELOCITY entry 0..15. -/
def parseVelocity (d : List Byte) : VelocityEntry := { temperature := wordAt d 0, velocity := wordAt d 2 }

/-- R179: the MAP_SETUP entry. -/
def parseMapSetup (d : List Byte) : MapSetup :=
  { sectors := byteAt d 0, binLen := wordAt d 1, closeMargin := wordAt d 3, gapLimit := byteAt d 5, headZone := wordAt d 6,
    tailZone := wordAt d 8, windowLow := wordAt d 10, windowHigh := wordAt d 12, nominal := wordAt d 14,
    fallback := wordAt d 16, presenceCount := byteAt d 18 }

/-- R179: the TIMING entry as written. -/
def parseTiming (d : List Byte) : Timing :=
  { headSilence := (wordAt d 0).toNat, positionSilence := (wordAt d 2).toNat, temperatureStale := (wordAt d 4).toNat,
    settle := (wordAt d 6).toNat, calibration := (wordAt d 8).toNat }

/-- R133: each limit clamped into its range. -/
def clampTiming (t : Timing) : Timing :=
  { headSilence := clamp 1 1000 t.headSilence, positionSilence := clamp 1 1000 t.positionSilence,
    temperatureStale := clamp 10 5000 t.temperatureStale, settle := clamp 5 1000 t.settle,
    calibration := clamp 100 60000 t.calibration }

/-- R177: the reading policy a code names. -/
def readingPolicyOf (code : Byte) : Option ReadingPolicy :=
  match code.toNat with
  | 0 => some .off
  | 1 => some .all
  | 2 => some .validOnly
  | 3 => some .everyN
  | _ => none

/-- R177: the mirror policy a code names. -/
def mirrorPolicyOf (code : Byte) : Option MirrorPolicy :=
  match code.toNat with
  | 0 => some .off
  | 1 => some .rejected
  | 2 => some .flawed
  | 3 => some .everyN
  | _ => none

/-- R134: the OUTPUT entry stored for entry data, and whether anything was clamped or replaced. -/
def storedOutput (d : List Byte) : OutputEntry × Bool :=
  let reading := readingPolicyOf (byteAt d 0)
  let mirror := mirrorPolicyOf (byteAt d 2)
  let rn := (byteAt d 1).toNat
  let mn := (byteAt d 3).toNat
  ({ reading := reading.getD .off, readingN := clamp 2 255 rn, mirror := mirror.getD .off, mirrorN := clamp 2 255 mn },
   reading.isNone || mirror.isNone || clamp 2 255 rn != rn || clamp 2 255 mn != mn)

/-- R177: the severity a code names. -/
def severityOf (code : Byte) : Option Severity :=
  match code.toNat with
  | 0 => some .note
  | 1 => some .degraded
  | 2 => some .failed
  | _ => none

/-- R177: the yes or no a code names. -/
def yesNoOf (code : Byte) : Option Bool :=
  match code.toNat with
  | 0 => some false
  | 1 => some true
  | _ => none

/-- R177: the mode a code names. -/
def modeOf (code : Byte) : Option Mode :=
  match code.toNat with
  | 0 => some .standby
  | 1 => some .measure
  | 2 => some .calibrate
  | _ => none

/-- R115, R179: the four fields of a CALIBRATE after its head, each clamped into its range, for head `h`. -/
def calFieldsOf (h : HeadNo) (d : List Byte) : CalFields :=
  { head := h, reference := clamp 1000 65000 (wordAt d 1).toNat, temperature := clamp 0 1600 (wordAt d 3).toNat,
    traces := clamp 4 64 (byteAt d 5).toNat, tolerance := clamp 1 5000 (wordAt d 6).toNat }

/-! ### The entry a request names (R158 to R160) -/

/-- R127: the two recipe banks. -/
inductive BankName where
  | staged | active
  deriving DecidableEq, Repr

/-- An entry by table and index (R159). -/
inductive EntryName where
  | head (h : HeadNo)
  | gate (i : Fin 64)
  | velocity (i : Fin 16)
  | velocityCount
  | mapSetup
  | timing
  | output (h : HeadNo)
  | calib (h : HeadNo)
  | headStatus (h : HeadNo)
  | tempChannel (ch : ChannelNo)
  | pose
  | context
  | directory (segment : Nat)
  | mapPage (segment : Nat)
  | event (k : EventKind)
  | fault
  | portCounters
  deriving DecidableEq, Repr

/-- Where a table's entries stand: in a bank, in a context, or once in the part (R159). -/
inductive Place where
  | bank (n : BankName) (b : Bank)
  | ctx (c : Ctx) (t : Tube)
  | part
  deriving DecidableEq, Repr

/-- R159: a table whose selector names a bank. -/
def TableName.isRecipe : TableName → Bool
  | .head | .gate | .velocity | .mapSetup => true
  | .timing | .output | .calib | .headStatus | .tempChannel | .pose | .context | .directory | .mapPage | .event
  | .fault | .portCounters => false

/-- R159: a table whose selector names a context. -/
def TableName.isContext : TableName → Bool
  | .context | .directory | .mapPage => true
  | .head | .gate | .velocity | .mapSetup | .timing | .output | .calib | .headStatus | .tempChannel | .pose | .event
  | .fault | .portCounters => false

/-- R177: the bank a selector code names. -/
def bankNameOf (code : Byte) : Option BankName :=
  match selectorOf code with
  | some .staged => some .staged
  | some .active => some .active
  | some .current | some .previous | some .ctxA | some .ctxB | none => none

/-- R158 check 2, R177: whether a selector code names a context selector. -/
def isContextSelector (code : Byte) : Bool :=
  match selectorOf code with
  | some .current | some .previous | some .ctxA | some .ctxB => true
  | some .staged | some .active | none => false

/-- R158 check 2. -/
def selectorOk (t : TableName) (code : Byte) : Bool :=
  (!t.isRecipe || (bankNameOf code).isSome) && (!t.isContext || isContextSelector code)

/-- The operations that name a table (R158). -/
inductive TableOp where
  | read | write | exchange | clear
  deriving DecidableEq, Repr

/-- R159, R158 check 3: the status of an operation not carried out on a table, given the selector. -/
def opFailure (op : TableOp) (t : TableName) (selector : Byte) : Option Status :=
  match op with
  | .read => none
  | .write | .exchange =>
    match t with
    | .head | .gate | .velocity | .mapSetup => if bankNameOf selector = some .active then some .readOnly else none
    | .timing | .output | .calib | .event => none
    | .headStatus | .tempChannel | .pose | .context | .directory | .mapPage | .fault | .portCounters => some .readOnly
  | .clear =>
    match t with
    | .head | .gate | .velocity | .mapSetup | .timing | .output | .calib => some .badTable
    | .pose | .context | .directory | .mapPage => some .readOnly
    | .headStatus | .tempChannel | .event | .fault | .portCounters => none

/-- R158 check 4, R159: the entry of a table at an index, when the index lies within its range. -/
def entryAt (t : TableName) (i : Nat) : Option EntryName :=
  match t with
  | .head => (headIndex i).map .head
  | .gate => if h : i < 64 then some (.gate ⟨i, h⟩) else none
  | .velocity => if h : i < 16 then some (.velocity ⟨i, h⟩) else if i = 16 then some .velocityCount else none
  | .mapSetup => if i = 0 then some .mapSetup else none
  | .timing => if i = 0 then some .timing else none
  | .output => (headIndex i).map .output
  | .calib => (headIndex i).map .calib
  | .headStatus => (headIndex i).map .headStatus
  | .tempChannel => if h : i < 4 then some (.tempChannel ⟨i, h⟩) else none
  | .pose => if i = 0 then some .pose else none
  | .context => if i = 0 then some .context else none
  | .directory => if i < 256 then some (.directory i) else none
  | .mapPage => if i < 256 then some (.mapPage i) else none
  | .event => (eventKindOf i).map .event
  | .fault => if i = 0 then some .fault else none
  | .portCounters => if i = 0 then some .portCounters else none

/-- R160: the context CURRENT names. -/
def currentCtx (s : State) : Option Ctx :=
  match s.tubes.a, s.tubes.b with
  | some _, some _ => s.tubes.newest
  | some _, none => some .a
  | none, some _ => some .b
  | none, none => none

/-- R160: the context PREVIOUS names. -/
def previousCtx (s : State) : Option Ctx :=
  match s.tubes.a, s.tubes.b with
  | some _, some _ => s.tubes.newest.map otherCtx
  | _, _ => none

/-- R160: the context a selector code names, whether FREE or not. -/
def ctxOf (s : State) (code : Byte) : Option Ctx :=
  match selectorOf code with
  | some .current => currentCtx s
  | some .previous => previousCtx s
  | some .ctxA => some .a
  | some .ctxB => some .b
  | some .staged | some .active | none => none

/-- R158 check 5: where the entry of a table stands under a selector code. -/
def placeOf (s : State) (t : TableName) (selector : Byte) : Except Status Place :=
  if t.isRecipe then
    match bankNameOf selector with
    | some .active =>
      match s.agent.active with
      | some b => .ok (.bank .active b)
      | none => .error .noRecipe
    | some .staged | none => .ok (.bank .staged s.agent.staged)
  else if t.isContext then
    match ctxOf s selector with
    | none => .error .emptyContext
    | some c =>
      match tubeAt s c with
      | none => .error .emptyContext
      | some x => .ok (.ctx c x)
  else .ok .part

/-- R158 check 6: the segment a MAP_PAGE entry names is present. -/
def segmentPresent (e : EntryName) (p : Place) : Bool :=
  match e, p with
  | .mapPage n, .ctx _ t => (dirLookup t.directory n).isSome
  | _, _ => true

/-- R158: the checks of a READ, WRITE, EXCHANGE or CLEAR in their order; the first that fails gives the status. -/
def checkRequest (op : TableOp) (r : Request) (s : State) : Except Status (EntryName × Place) :=
  match tableOf r.table with
  | none => .error .badTable
  | some t =>
    if !selectorOk t r.selector then .error .badTable
    else
      match opFailure op t r.selector with
      | some f => .error f
      | none =>
        match entryAt t r.index.toNat with
        | none => .error .badIndex
        | some e =>
          match placeOf s t r.selector with
          | .error f => .error f
          | .ok p => if segmentPresent e p then .ok (e, p) else .error .emptySegment

/-! ### The data of an entry (R60, R81, R93, R94, R146, R161, R174, R179) -/

/-- R146: the time left to a head's silence expiry, in µs, while it is ACTIVE. -/
def silenceLeft (s : State) (h : HeadNo) : Option Nat :=
  match (tableGet s.headPort.heads h).state, (tableGet s.headPort.heads h).lastArrival with
  | .active, some t => some (s.agent.timing.headSilence * 1000 - age s.now t)
  | _, _ => none

/-- R60: the POSE entry. -/
def poseView (p : PoseTracker) : PoseView :=
  { feed := p.feed, lastAcceptance := p.lastAcceptance, ring := p.ring, waiting := p.waiting.length,
    presence := p.presence, runLength := p.runLength, runFirst := p.runFirst, accepted := p.accepted,
    orderDiscards := p.orderDiscards, rangeDiscards := p.rangeDiscards, silenceExpiries := p.silenceExpiries }

/-- R148, R179: the PORT_COUNTERS entry. -/
def portView (s : State) : PortView :=
  { headLink := s.headPort.link, millLink := s.mill.link, head := s.headPort.counters, mill := s.mill.counters,
    depths := [s.mill.responseQ.length, s.mill.noticeQ.length, s.mill.summaryQ.length, s.mill.mapQ.length,
      s.mill.readingQ.length, s.mill.mirrorQ.length],
    requestDepth := s.mill.requestQ.length }

/-- An entry as it stands. A bank's entry is read in its bank, a context's in its context. -/
def entryData (s : State) (e : EntryName) (p : Place) : RespData :=
  match e, p with
  | .head h, .bank _ b => .headEntry (tableGet b.heads h)
  | .gate i, .bank _ b => .gateEntry (tableGet b.gates i)
  | .velocity i, .bank _ b => .velocityEntry (tableGet b.velocity i)
  | .velocityCount, .bank _ b => .velocityCount b.velocityCount
  | .mapSetup, .bank _ b => .mapSetup b.map
  | .timing, _ => .timing s.agent.timing
  | .output h, _ => .output (outputOf s h) (decimationOf s h)
  | .calib h, _ => .calib (tableGet s.agent.calib h)
  | .headStatus h, _ => .headStatus (tableGet s.headPort.heads h) (silenceLeft s h)
  | .tempChannel ch, _ => .channel (tableGet s.headPort.channels ch)
  | .pose, _ => .pose (poseView s.pose)
  | .context, .ctx c t => .context c t
  | .directory n, .ctx c t =>
    .directory c t.id (firstBinOf t.setup.sectors n) t.setup.sectors (dirLookup t.directory n)
  | .mapPage n, .ctx c t =>
    match dirLookup t.directory n with
    | some d => .mapPage c d.page (mapFrameOf s t n d)
    | none => .none
  | .event k, _ => .event (tableGet s.events.records k.index)
  | .fault, _ => .fault s.events.capture
  | .portCounters, _ => .portCounters (portView s)
  | .head _, .ctx _ _ | .head _, .part | .gate _, .ctx _ _ | .gate _, .part | .velocity _, .ctx _ _
  | .velocity _, .part | .velocityCount, .ctx _ _ | .velocityCount, .part | .mapSetup, .ctx _ _ | .mapSetup, .part
  | .context, .bank _ _ | .context, .part | .directory _, .bank _ _ | .directory _, .part | .mapPage _, .bank _ _
  | .mapPage _, .part => .none

end Sys2Proof.Machine
end

