-- ==== Sys2Proof/Machine/Requests.lean ====
section
/-! DEFINITION. The Management Agent's commands (chapters 7, 8 and 11): each takes the oldest request of the request queue,
carries its work out and offers its RESPONSE. -/

namespace Sys2Proof.Machine

/-- What a request's work gives: the status, the data of the RESPONSE and the state it leaves (R157). -/
structure Answer where
  status : Status
  data : RespData
  state : State

/-- R155: with no request in processing, the oldest request, when `want` names it, leaves the request queue, its work is
carried out, and its RESPONSE is offered. Otherwise the state is unchanged (log 1, log 5). -/
def takeOldest (want : Request → Bool) (work : Request → State → Answer) (s : State) : State :=
  match s.agent.processing, s.mill.requestQ with
  | none, r :: rest =>
    if want r then
      let a := work r (s.setMill { s.mill with requestQ := rest })
      respond r { tag := r.tag, status := a.status, data := a.data } a.state
    else s
  | _, _ => s

/-- The request names this operation (R177). -/
def names (op : Operation) (r : Request) : Bool := operationOf r.operation == some op

/-- An answer that changes nothing. -/
def refuse (st : Status) (s : State) : Answer := { status := st, data := .none, state := s }

/-! ### READ (R161, R146, R172) -/

/-- R161: what a READ changes: a HEAD_STATUS read copies the head's state into its snapshot. -/
def afterRead (e : EntryName) (s : State) : State :=
  match e with
  | .headStatus h => copySnapshot h s
  | .head _ | .gate _ | .velocity _ | .velocityCount | .mapSetup | .timing | .output _ | .calib _ | .tempChannel _ | .pose
  | .context | .directory _ | .mapPage _ | .event _ | .fault | .portCounters => s

/-- R94, R160: the data of a READ that failed a check. Only EMPTY_SEGMENT is answered with its context resolved: it carries
the context's letter and tube id, and no cells (DEDUCED, log 31). Every other failure carries none. -/
def failureData (st : Status) (selector : Byte) (s : State) : RespData :=
  match st, ctxOf s selector with
  | .emptySegment, some c =>
    match tubeAt s c with
    | some t => .segmentAbsent c t.id
    | none => .none
  | _, _ => .none

/-- R158, R160, R161: the work of a READ. -/
def readWork (r : Request) (s : State) : Answer :=
  match checkRequest .read r s with
  | .error st => { status := st, data := failureData st r.selector s, state := s }
  | .ok (e, p) => { status := .ok, data := entryData s e p, state := afterRead e s }

/-- READ (R158 to R161). -/
def execRead (s : State) : Host.Outcome State Fault Refusal := .next (takeOldest (names .read) readWork s)

/-! ### WRITE and EXCHANGE (R127, R133 to R135, R161, R169) -/

/-- R127: the staged bank changed by `f`, the staged-modified flag set. -/
def stage (f : Bank → Bank) (s : State) : State :=
  s.setAgent { s.agent with staged := f s.agent.staged, stagedModified := true }

/-- R46, R76, R119, R141: the timers that a write of TIMING has made due expire in its step. The manual fixes no order among
them: heads ascending, position silence, settle limits with the older tube first, calibration limit
(DESIGN CHOICE, unsafe: log 7). The settle condition is then examined (R75). -/
def fireDueTimers (s : State) : State :=
  let s1 := expirePosition (allHeads.foldl (fun x h => expireHead h x) s)
  examineBoth (expireRun ((olderFirst s1).foldl (fun x c => expireSettle c x) s1))

/-- R133: the TIMING entry stored. -/
def storeTiming (t : Timing) (s : State) : State := fireDueTimers (s.setAgent { s.agent with timing := t })

/-- R134: an OUTPUT entry stored; both decimation counters of the head become 0. -/
def storeOutput (h : HeadNo) (e : OutputEntry) (s : State) : State :=
  modDecimation h (fun _ => Decimation.zero) (s.setAgent { s.agent with output := tableSet s.agent.output h e })

/-- R135: a calibration factor stored. -/
def storeFactor (h : HeadNo) (k : Nat) (s : State) : State :=
  s.setAgent { s.agent with calib := tableSet s.agent.calib h k }

/-- R161, R169: the severity and report enable stored for entry data; a code that names no value keeps the old one, and the
answer is then OK_CLAMPED. -/
def storeEventData (k : EventKind) (d : List Byte) (s : State) : State × Bool :=
  let r := tableGet s.events.records k.index
  let severity := severityOf (byteAt d 0)
  let report := yesNoOf (byteAt d 1)
  (storeEvent k (severity.getD r.severity) (report.getD r.report) s, severity.isNone || report.isNone)

/-- R161: an entry replaced by entry data: the state after it, and whether a written value was clamped or replaced. The
tables that R159 does not let be written store nothing. -/
def storeEntry (e : EntryName) (d : List Byte) (s : State) : State × Bool :=
  match e with
  | .head h => (stage (fun b => { b with heads := tableSet b.heads h (parseHead d) }) s, false)
  | .gate i => (stage (fun b => { b with gates := tableSet b.gates i (parseGate d) }) s, false)
  | .velocity i => (stage (fun b => { b with velocity := tableSet b.velocity i (parseVelocity d) }) s, false)
  | .velocityCount => (stage (fun b => { b with velocityCount := wordAt d 0 }) s, false)
  | .mapSetup => (stage (fun b => { b with map := parseMapSetup d }) s, false)
  | .timing => (storeTiming (clampTiming (parseTiming d)) s, clampTiming (parseTiming d) != parseTiming d)
  | .output h => (storeOutput h (storedOutput d).1 s, (storedOutput d).2)
  | .calib h =>
    (storeFactor h (clamp factorLow factorHigh (longAt d 0).toNat) s,
     clamp factorLow factorHigh (longAt d 0).toNat != (longAt d 0).toNat)
  | .event k => storeEventData k d s
  | .headStatus _ | .tempChannel _ | .pose | .context | .directory _ | .mapPage _ | .fault | .portCounters => (s, false)

/-- R161: the status of a write. -/
def storeStatus (clamped : Bool) : Status := if clamped then .okClamped else .ok

/-- R158, R161: the work of a WRITE. The entry as stored is returned when a value was clamped or replaced. It is returned as
it stands at the end of the step. -/
def writeWork (r : Request) (s : State) : Answer :=
  match checkRequest .write r s with
  | .error st => refuse st s
  | .ok (e, p) =>
    let stored := storeEntry e r.data s
    { status := storeStatus stored.2, data := if stored.2 then entryData stored.1 e p else .none, state := stored.1 }

/-- WRITE (R127, R133 to R135, R158, R159, R161, R169). -/
def execWrite (s : State) : Host.Outcome State Fault Refusal := .next (takeOldest (names .write) writeWork s)

/-- R158, R161: the work of an EXCHANGE, which returns the entry as it stood before. -/
def exchangeWork (r : Request) (s : State) : Answer :=
  match checkRequest .exchange r s with
  | .error st => refuse st s
  | .ok (e, p) =>
    let stored := storeEntry e r.data s
    { status := storeStatus stored.2, data := entryData s e p, state := stored.1 }

/-- EXCHANGE (R127, R133 to R135, R158, R159, R161, R169). -/
def execExchange (s : State) : Host.Outcome State Fault Refusal := .next (takeOldest (names .exchange) exchangeWork s)

/-! ### CLEAR (R161, R170, R174) -/

/-- R139, R161: the five counts of an intake record zeroed. -/
def HeadRecord.clearCounts (r : HeadRecord) : HeadRecord :=
  { r with received := 0, gaps := 0, duplicates := 0, queueDrops := 0, idleDiscards := 0 }

/-- R26, R161: the two counts of a channel record zeroed. -/
def ChannelRecord.clearCounts (r : ChannelRecord) : ChannelRecord := { r with received := 0, faults := 0 }

/-- R137, R148, R161: the counters of both ports zeroed. -/
def clearPorts (s : State) : State := modMillCounters (fun _ => MillCounters.zero) (modHeadCounters (fun _ => HeadCounters.zero) s)

/-- R174: the fault capture released. -/
def releaseCapture (s : State) : State := s.setEvents { s.events with capture := none }

/-- R161: an entry's counters and flags zeroed. The tables that R159 does not let be cleared are left as they stand. -/
def clearEntry (e : EntryName) (s : State) : State :=
  match e with
  | .headStatus h => modHead h HeadRecord.clearCounts s
  | .tempChannel ch => modChannel ch ChannelRecord.clearCounts s
  | .event k => clearEvent k s
  | .fault => releaseCapture s
  | .portCounters => clearPorts s
  | .head _ | .gate _ | .velocity _ | .velocityCount | .mapSetup | .timing | .output _ | .calib _ | .pose | .context
  | .directory _ | .mapPage _ => s

/-- R158, R161: the work of a CLEAR, which returns the entry as it stood. -/
def clearWork (r : Request) (s : State) : Answer :=
  match checkRequest .clear r s with
  | .error st => refuse st s
  | .ok (e, p) => { status := .ok, data := entryData s e p, state := clearEntry e s }

/-- CLEAR (R158, R159, R161, R170, R174). -/
def execClear (s : State) : Host.Outcome State Fault Refusal := .next (takeOldest (names .clear) clearWork s)

/-! ### APPLY (R128 to R131) -/

/-- R130, R131: the work of an APPLY. The settle condition is examined at the end (R75). -/
def applyWork (_ : Request) (s : State) : Answer :=
  if tubeLive s then
    { status := .pending, data := .none, state := s.setAgent { s.agent with applyPending := true } }
  else
    match validate s.agent.staged with
    | some f =>
      { status := f.code, data := .argument f.argument, state := s.setAgent { s.agent with applyPending := false } }
    | none =>
      if s.agent.generation = lastGeneration then refuse .busy s
      else
        { status := .ok, data := .generation (s.agent.generation + 1), state := examineBoth (carryOutApply s) }

/-- APPLY (R128 to R132). -/
def execApply (s : State) : Host.Outcome State Fault Refusal := .next (takeOldest (names .apply) applyWork s)

/-! ### MODE (R162, R163) -/

/-- R163 step 1: the run that leaving CALIBRATE ends. -/
def leaveCalibrate (s : State) : State := if s.agent.mode = .calibrate then abortRun s else s

/-- R163 step 2, R68: the tube that a change from MEASURE to STANDBY ends, at the newest position sample. -/
def leaveMeasure (m : Mode) (s : State) : State :=
  match s.agent.mode, m, newestSample s with
  | .measure, .standby, some y => endTube y.timestamp y.travel .modeChange s
  | _, _, _ => s

/-- R163: a change of mode, in its order; the settle condition is examined at the end (R75). -/
def changeMode (m : Mode) (s : State) : State :=
  let s1 := leaveMeasure m (leaveCalibrate s)
  examineBoth (s1.setAgent { s1.agent with mode := m })

/-- R162: the work of a MODE. One refused NO_RECIPE or BUSY carries no status data (DEDUCED, log 32). -/
def modeWork (r : Request) (s : State) : Answer :=
  match modeOf (byteAt r.data 0) with
  | none => { status := .ok, data := .mode s.agent.mode, state := s }
  | some m =>
    if m = s.agent.mode then { status := .ok, data := .mode s.agent.mode, state := s }
    else if m = .measure ∧ s.agent.active = none then refuse .noRecipe s
    else if m = .calibrate ∧ tubeLive s = true then refuse .busy s
    else { status := .ok, data := .mode m, state := changeMode m s }

/-- MODE (R162, R163). -/
def execMode (s : State) : Host.Outcome State Fault Refusal := .next (takeOldest (names .mode) modeWork s)

/-! ### CALIBRATE and ABORT_CAL (R115, R120) -/

/-- R115: the run record of a CALIBRATE that was taken, started at part time `now`. -/
def newRun (now : Time) (f : CalFields) : CalRun :=
  { head := f.head, reference := f.reference, temperature := f.temperature, traces := f.traces, tolerance := f.tolerance,
    startTime := now, counted := 0, sum := 0, min := none, max := none, notCounted := 0 }

/-- R115: the work of a CALIBRATE, its checks in their order. -/
def calibrateWork (r : Request) (s : State) : Answer :=
  match headIndex (byteAt r.data 0).toNat with
  | none => refuse .badIndex s
  | some h =>
    if s.agent.mode ≠ .calibrate then refuse .refusedMode s
    else if s.agent.run.isSome then refuse .busy s
    else if !headEnabled s h then refuse .noHead s
    else
      { status := .accepted, data := .calibration (calFieldsOf h r.data),
        state := s.setAgent { s.agent with run := some (newRun s.now (calFieldsOf h r.data)) } }

/-- CALIBRATE (R114, R115). -/
def execCalibrate (s : State) : Host.Outcome State Fault Refusal := .next (takeOldest (names .calibrate) calibrateWork s)

/-- R120, R179: the work of an ABORT_CAL, which returns the run state as it leaves it. -/
def abortWork (_ : Request) (s : State) : Answer :=
  { status := .ok, data := .runState (abortRun s).agent.run.isSome, state := abortRun s }

/-- ABORT_CAL (R120, R121). -/
def execAbortCal (s : State) : Host.Outcome State Fault Refusal := .next (takeOldest (names .abortCal) abortWork s)

/-! ### RESTART (R164) -/

/-- R164 steps 1 and 2: the evaluation abandoned, the Trace Queue emptied, the run discarded without a result. -/
def restartEvaluation (s : State) : State :=
  ((s.setEvaluator none).setTraceQueue []).setAgent { s.agent with run := none }

/-- R82, R84, R164 steps 3 and 4: the Pose Tracker at its power-on values, both contexts FREE, the drain stopped, every page
on the free list in ascending order. The newest-start mark and both retired spans become absent; the tube id counter stays
(R62). -/
def restartTubes (s : State) : State :=
  (((s.setPose PoseTracker.reset).setTubes { TubeTracker.reset with idCounter := s.tubes.idCounter }).setDrain none).setWall
    { s.wall with free := List.range 384 }

/-- R156, R164 step 5: the class queues but RESPONSE emptied, the counters of both ports and the decimation counters zero. -/
def restartPorts (s : State) : State :=
  (clearPorts s).setMill { (clearPorts s).mill with
    noticeQ := [], summaryQ := [], mapQ := [], readingQ := [], mirrorQ := [],
    decimation := Vector.replicate 8 Decimation.zero }

/-- R139, R164 step 6: an intake record reset. -/
def HeadRecord.restart (enabled : Bool) : HeadRecord :=
  { HeadRecord.reset with state := if enabled then .unseen else .disabled }

/-- R26, R139, R164 step 6: the intake records reset and the counts of the channel records zero. -/
def restartHeads (s : State) : State :=
  s.setHeadPort { s.headPort with
    heads := Vector.ofFn (fun h : HeadNo => HeadRecord.restart (headEnabled s h)),
    channels := s.headPort.channels.map ChannelRecord.clearCounts }

/-- R164 step 8, R172, R174: every event record cleared, the fault capture released, every snapshot the head's state. -/
def restartEvents (s : State) : State :=
  s.setEvents {
    records := s.events.records.map EventRecord.cleared,
    snapshots := s.headPort.heads.map HeadRecord.state, capture := none }

/-- R164 steps 7 and 9: the apply-pending flag clears and the mode becomes STANDBY. -/
def restartAgent (s : State) : State := s.setAgent { s.agent with applyPending := false, mode := .standby }

/-- R164 steps 1 to 9. -/
def restart (s : State) : State :=
  restartAgent (restartEvents (restartHeads (restartPorts (restartTubes (restartEvaluation s)))))

/-- R164: the work of a RESTART. -/
def restartWork (_ : Request) (s : State) : Answer := { status := .ok, data := .none, state := restart s }

/-- RESTART (R164). -/
def execRestart (s : State) : Host.Outcome State Fault Refusal := .next (takeOldest (names .restart) restartWork s)

/-! ### STATUS (R165) -/

/-- R123: the run's items, while RUNNING. -/
def runView (s : State) : Option RunView :=
  s.agent.run.map (fun r =>
    { head := r.head, traces := r.traces, counted := r.counted, notCounted := r.notCounted, elapsed := age s.now r.startTime })

/-- R165: the part status record. -/
def statusRecord (s : State) : StatusRecord :=
  { partTime := s.now, mode := s.agent.mode, loaded := s.agent.active.isSome, generation := s.agent.generation,
    stagedModified := s.agent.stagedModified, applyPending := s.agent.applyPending,
    contextA := s.tubes.a.map (fun t => (t.stage, t.id)), contextB := s.tubes.b.map (fun t => (t.stage, t.id)),
    queueDepth := s.traceQueue.length, waitingDepth := s.pose.waiting.length, requestDepth := s.mill.requestQ.length,
    freePages := s.wall.free.length, run := runView s, worst := worstCondition s }

/-- R165: the work of a STATUS. -/
def statusWork (_ : Request) (s : State) : Answer := { status := .ok, data := .status (statusRecord s), state := s }

/-- STATUS (R165, R123). -/
def execStatus (s : State) : Host.Outcome State Fault Refusal := .next (takeOldest (names .status) statusWork s)

/-! ### UNDEFINED_OPERATION (R158 check 1) -/

/-- The request names an undefined operation, or a table operation on an undefined table. -/
def isUndefined (r : Request) : Bool :=
  match operationOf r.operation with
  | none => true
  | some .read | some .write | some .exchange | some .clear => (tableOf r.table).isNone
  | some .apply | some .mode | some .calibrate | some .abortCal | some .restart | some .status => false

/-- R158: the work of such a request: BAD_TABLE. -/
def undefinedWork (_ : Request) (s : State) : Answer := refuse .badTable s

/-- UNDEFINED_OPERATION (R158 check 1). -/
def execUndefinedOperation (s : State) : Host.Outcome State Fault Refusal := .next (takeOldest isUndefined undefinedWork s)

/-! ### Power-on reset (R144) -/

/-- POWER_ON_RESET (R144; every block's reset rule): every block at its power-on value. The model's own queue of commands is
not part of the part and stays (log 28). -/
def execPowerOnReset (s : State) : Host.Outcome State Fault Refusal := .next { State.reset with pending := s.pending }

end Sys2Proof.Machine
end

