-- ==== Sys2Proof/Machine/Frames.lean ====
section
/-! DEFINITION. The bytes of frames (chapter 13): the frame check, the envelope, how fields are carried, and the payload of
every frame that the part sends. -/

namespace Sys2Proof.Machine

/-! ### The frame check and the envelope (R175, R176) -/

/-- R176: one bit of the check register's shift. -/
def crcShift (c : BitVec 16) : BitVec 16 := if c.msb then (c <<< 1) ^^^ 0x1021#16 else c <<< 1

/-- R176: the check register after one byte, most significant bit first. -/
def crcByte (c : BitVec 16) (b : Byte) : BitVec 16 :=
  crcShift (crcShift (crcShift (crcShift (crcShift (crcShift (crcShift (crcShift (c ^^^ (b ++ 0#8)))))))))

/-- R176: the frame check over bytes: the register starts at all ones and the result is not inverted. -/
def frameCheck (bytes : List Byte) : BitVec 16 := bytes.foldl crcByte 0xFFFF#16

/-- R177: a number in `size` bytes, most significant byte first, modulo what they hold. -/
def bigEndian : Nat → Nat → List Byte
  | 0, _ => []
  | k + 1, n => BitVec.ofNat 8 (n / 256 ^ k) :: bigEndian k n

/-- R177: a number in its field. A number that the field cannot hold has free bytes (log 13). -/
def num (size n : Nat) : List Byte := if n < 256 ^ size then bigEndian size n else bigEndian size (Config.oversizeField size n)

/-- R177: a signed number in two's complement. -/
def signedNum (size : Nat) (i : Int) : List Byte := bigEndian size (i % (256 ^ size : Nat)).toNat

/-- R175, R176: a frame from its kind, source and payload. -/
def sealFrame (kind source : Byte) (payload : List Byte) : List Byte :=
  let body := kind :: source :: (bigEndian 2 payload.length ++ payload)
  body ++ bigEndian 2 (frameCheck body).toNat

/-- R177: an optional number sent as zero when absent. -/
def optNum (size : Nat) (o : Option Nat) : List Byte := num size (o.getD 0)

/-- R177: an optional field whose layout is not tabled: one byte, 1 when present, and the field, zero when absent. -/
def marked (size : Nat) (o : Option Nat) : List Byte := num 1 (if o.isSome then 1 else 0) ++ optNum size o

/-- R177: yes is 1 and no is 0. -/
def yesNo (b : Bool) : Nat := if b then 1 else 0

/-- A presence, flag or set byte: bit i is entry i. -/
def bitsOf : List Bool → Nat
  | [] => 0
  | b :: rest => yesNo b + 2 * bitsOf rest

/-! ### Codes (R177, R181, R182): the position of a value in its list -/

def LinkState.code : LinkState → Nat | .down => 0 | .up => 1
def LinkName.code : LinkName → Nat | .head => 0 | .mill => 1
def Mode.code : Mode → Nat | .standby => 0 | .measure => 1 | .calibrate => 2
def HeadState.code : HeadState → Nat | .disabled => 0 | .unseen => 1 | .active => 2 | .silent => 3
def FeedState.code : FeedState → Nat | .waiting => 0 | .live => 1 | .silent => 2
def Presence.code : Presence → Nat | .absent => 0 | .present => 1
def CloseReason.code : CloseReason → Nat | .presenceEnd => 0 | .positionLost => 1 | .modeChange => 2 | .truncated => 3
def Condition.code : Condition → Nat | .clear => 0 | .note => 1 | .degraded => 2 | .failed => 3
def Severity.code : Severity → Nat | .note => 0 | .degraded => 1 | .failed => 2
def Zone.code : Zone → Nat | .headEnd => 0 | .body => 1
def RingStatus.code : RingStatus → Nat | .complete => 0 | .partialRing => 1 | .empty => 2
def CalOutcome.code : CalOutcome → Nat | .applied => 0 | .unstable => 1 | .outOfRange => 2 | .timeout => 3 | .aborted => 4
def NoticeCause.code : NoticeCause → Nat | .occurrence => 0 | .enable => 1
def ReadingPolicy.code : ReadingPolicy → Nat | .off => 0 | .all => 1 | .validOnly => 2 | .everyN => 3
def MirrorPolicy.code : MirrorPolicy → Nat | .off => 0 | .rejected => 1 | .flawed => 2 | .everyN => 3
def Ctx.code : Ctx → Nat | .a => 0 | .b => 1
def Interval.code : Interval → Nat | .ns10 => 0 | .ns20 => 1 | .ns40 => 2

/-- R61: the state of a context, FREE 0 first. -/
def stageCode : Option Stage → Nat
  | none => 0
  | some .active => 1
  | some .settling => 2
  | some .closedWait => 3
  | some .draining => 4

/-- R177: the status codes in the order of R158. -/
def Status.code : Status → Nat
  | .ok => 0 | .okClamped => 1 | .pending => 2 | .accepted => 3 | .badTable => 4 | .badIndex => 5 | .readOnly => 6
  | .emptyContext => 7 | .emptySegment => 8 | .busy => 9 | .noRecipe => 10 | .refusedMode => 11 | .noHead => 12
  | .chainInvalid => 13 | .velocityInvalid => 14 | .mapInvalid => 15

/-- R177: a channel, or 255 for NONE. -/
def channelCode : Option ChannelNo → Nat
  | none => 255
  | some c => c.val

/-! ### Measurement frames (R181) -/

/-- R181: the flags byte of a reading. -/
def ReadingFlags.byte (f : ReadingFlags) : Nat :=
  bitsOf [f.edge, f.weak, f.flaw, f.fallbackPair, f.tempClamp, f.tempFallback, f.saturated, f.extrapolated]

/-- R181: the presence byte of a reading. -/
def Reading.presence (r : Reading) : Nat :=
  bitsOf [r.delta.isSome, r.echo1.isSome, r.echo2.isSome, r.echo3.isSome, r.thickness.isSome, r.sector.isSome, r.bin.isSome,
    r.tubeId.isSome]

/-- R177: a placement code, or 255 when absent. -/
def placementCode : Option Placement → Nat
  | none => 255
  | some p => p.code.val

/-- R181: a READING payload. -/
def Reading.payload (r : Reading) : List Byte :=
  num 1 r.head.val ++ num 2 r.sequence.toNat ++ num 4 r.timestamp.toNat ++ num 4 r.generation ++ num 1 r.outcome.code.val ++
  num 1 r.flags.byte ++ num 1 r.presence ++ signedNum 4 (r.delta.getD 0) ++
  optNum 2 r.echo1 ++ optNum 2 r.echo2 ++ optNum 2 r.echo3 ++ num 2 r.temperature ++ num 2 r.velocity ++
  optNum 2 r.thickness ++ num 1 (placementCode r.placement) ++ optNum 1 r.sector ++ optNum 4 r.bin ++
  optNum 2 (r.tubeId.map BitVec.toNat)

/-- R178: a TRACE payload. -/
def tracePayload (t : Trace) : List Byte :=
  num 1 t.head.val ++ num 1 (Interval.code t.interval) ++ num 2 t.sequence.toNat ++ num 4 t.timestamp.toNat ++
  num 1 t.energy.toNat ++ num 2 t.samples.length ++ t.samples.flatMap (fun x => bigEndian 2 x.toNat)

/-- R181: a MIRROR payload. -/
def MirrorFrame.payload (m : MirrorFrame) : List Byte := tracePayload m.trace ++ m.reading.payload

/-- R181: one sector of a RING frame: mark and mean. -/
def SectorMean.bytes : SectorMean → List Byte
  | .measured x => num 1 0 ++ num 2 x
  | .filled x => num 1 1 ++ num 2 x
  | .absent => num 1 2 ++ num 2 0

/-- A value with its sector, in 3 bytes. -/
def withSector (o : Option (Nat × Nat)) : List Byte := optNum 2 (o.map Prod.fst) ++ optNum 1 (o.map Prod.snd)

/-- R181: a RING payload. -/
def RingRecord.payload (r : RingRecord) : List Byte :=
  num 2 r.tubeId.toNat ++ num 2 r.bin ++ num 4 r.closeTime.toNat ++ num 1 r.zone.code ++ num 1 r.status.code ++
  num 1 r.sectors ++
  num 1 (bitsOf [r.mean.isSome, r.min.isSome, r.max.isSome, r.eccentricity.isSome, r.thinSector.isSome]) ++
  optNum 2 r.mean ++ withSector r.min ++ withSector r.max ++ optNum 2 r.eccentricity ++ optNum 1 r.thinSector ++
  num 4 r.readings ++ num 2 r.flaws ++ r.means.flatMap SectorMean.bytes

/-- R91, R181: a cell, 12 bytes. Its extrapolated mark is sent set as 1 and clear as 0 (DESIGN CHOICE, log 34). -/
def Cell.bytes (c : Cell) : List Byte :=
  num 2 c.count ++ optNum 4 c.sum ++ optNum 2 c.min ++ optNum 2 c.max ++ num 1 c.flaws ++ num 1 (yesNo c.extrapolated)

/-- R181: the payload of a MAP or MAP_END frame. -/
def MapClassFrame.payload : MapClassFrame → List Byte
  | .page f =>
    num 2 f.tubeId.toNat ++ num 1 f.segment ++ num 2 f.firstBin ++ num 1 f.sectors ++ num 2 f.readings ++
    f.cells.flatMap Cell.bytes
  | .finish id sent reclaimed => num 2 id.toNat ++ num 2 sent ++ num 2 reclaimed

/-- An extreme with its bin and sector, in 5 bytes. -/
def withBinSector (o : Option (Nat × Nat × Nat)) : List Byte :=
  optNum 2 (o.map Prod.fst) ++ optNum 2 (o.map (fun x => x.2.1)) ++ optNum 1 (o.map (fun x => x.2.2))

/-- R79, R181: the body statistics with their presence byte. -/
def BodyStats.bytes (b : BodyStats) : List Byte :=
  num 1 (bitsOf [b.mean.isSome, b.min.isSome, b.max.isSome, b.maxEccentricity.isSome]) ++ num 2 b.count ++ optNum 2 b.mean ++
  withBinSector b.min ++ withBinSector b.max ++
  optNum 2 (b.maxEccentricity.map Prod.fst) ++ optNum 2 (b.maxEccentricity.map Prod.snd)

/-- R79: the outcomes in the order the TUBE frame lists them. -/
def tubeOutcomes : List EvalOutcome := [.lowEnergy, .noEcho1, .noEcho2, .badOrder, .outOfWindow, .valid]

/-- R79: the placements in the order the TUBE frame lists them. -/
def tubePlacements : List Placement :=
  [.noPose, .stalePose, .mismatch, .beforeStart, .counted, .mapped, .lateRing, .outOfMap, .mapFull]

/-- R79, R181: a TUBE payload. -/
def TubeSummary.payload (t : TubeSummary) : List Byte :=
  num 2 t.tubeId.toNat ++ num 4 t.startTime.toNat ++ num 4 t.endTime.toNat ++ num 4 t.length ++ num 1 t.reason.code ++
  num 4 t.generation ++ num 2 t.binsClosed ++ num 2 t.tailBin ++ t.body.bytes ++
  tubeOutcomes.flatMap (fun o => num 4 (tableGet t.outcomes o.code)) ++
  tubePlacements.flatMap (fun p => num 4 (tableGet t.placements p.code)) ++
  num 1 (bitsOf t.headsLost.toList) ++ num 2 t.pagesUsed ++ num 2 t.pagesTaken ++ num 1 t.worstSeen.code

/-- R121, R181: a CAL_RESULT payload. -/
def CalResult.payload (c : CalResult) : List Byte :=
  num 1 c.head.val ++ num 1 c.outcome.code ++ num 1 (bitsOf [c.newFactor.isSome, c.measured.isSome, c.spread.isSome]) ++
  num 4 c.oldFactor ++ optNum 4 c.newFactor ++ optNum 2 c.measured ++ num 1 c.counted ++ optNum 2 c.spread ++
  num 4 c.duration

/-! ### Notices (R168, R182) -/

/-- R182: the items of a detail. -/
def Detail.items : Detail → List Byte
  | .link l => num 1 l.code
  | .source c => [c]
  | .headMissed h n => num 1 h.val ++ num 4 n
  | .headSequence h q => num 1 h.val ++ num 2 q.toNat
  | .headStates h x y => num 1 h.val ++ num 1 x.code ++ num 1 y.code
  | .headTube h t => num 1 h.val ++ num 2 t.toNat
  | .tube t => num 2 t.toNat
  | .time t => num 4 t.toNat
  | .headChannel h ch => num 1 h.val ++ num 1 (channelCode ch)
  | .head h => num 1 h.val
  | .tubeSegment t n => num 2 t.toNat ++ num 2 n
  | .reclaim t n u m => num 2 t.toNat ++ num 2 n ++ num 2 u.toNat ++ num 2 m
  | .tubeContext t c => num 2 t.toNat ++ num 1 (Ctx.code c)
  | .frameTube k t => [k] ++ num 2 t.toNat
  | .frameHead k h => [k] ++ num 1 h.val
  | .kind k => num 1 k.index.val
  | .failure s a => num 1 s.code ++ num 1 a
  | .tubeHead t h => num 2 t.toNat ++ num 1 h.val
  | .headOutcome h o => num 1 h.val ++ num 1 o.code
  | .tag t => num 2 t.toNat

/-- R182: bytes filled with 0 up to 8. -/
def padEight (b : List Byte) : List Byte := b ++ List.replicate (8 - b.length) 0

/-- R181: a NOTICE payload. -/
def Notice.payload (n : Notice) : List Byte :=
  num 1 n.cause.code ++ num 1 n.kind.index.val ++ num 1 n.severity.code ++ optNum 4 (n.time.map BitVec.toNat) ++
  num 2 n.count ++ num 1 n.worst.code ++ padEight ((n.detail.map Detail.items).getD [])

/-! ### Responses (R179) -/

/-- R179: a HEAD entry. -/
def HeadEntry.bytes (e : HeadEntry) : List Byte :=
  [e.enabled, e.chainStart, e.pairMode] ++ num 2 e.minSep.toNat ++ [e.weakPct, e.minEnergy, e.channel] ++
  num 2 e.angleOffset.toNat ++ num 2 e.axialOffset.toNat

/-- R179: a GATE descriptor. -/
def GateEntry.bytes (g : GateEntry) : List Byte :=
  [g.kind, g.enabled, g.placement, g.anchor] ++ num 2 g.offset.toNat ++ num 2 g.width.toNat ++ num 2 g.threshold.toNat ++
  [g.next]

/-- R179: a VELOCITY entry 0..15. -/
def VelocityEntry.bytes (e : VelocityEntry) : List Byte := num 2 e.temperature.toNat ++ num 2 e.velocity.toNat

/-- R179: the MAP_SETUP entry. -/
def MapSetup.bytes (m : MapSetup) : List Byte :=
  [m.sectors] ++ num 2 m.binLen.toNat ++ num 2 m.closeMargin.toNat ++ [m.gapLimit] ++ num 2 m.headZone.toNat ++
  num 2 m.tailZone.toNat ++ num 2 m.windowLow.toNat ++ num 2 m.windowHigh.toNat ++ num 2 m.nominal.toNat ++
  num 2 m.fallback.toNat ++ [m.presenceCount]

/-- R179: the TIMING entry. -/
def Timing.bytes (t : Timing) : List Byte :=
  num 2 t.headSilence ++ num 2 t.positionSilence ++ num 2 t.temperatureStale ++ num 2 t.settle ++ num 2 t.calibration

/-- R179: an OUTPUT entry. -/
def outputBytes (e : OutputEntry) (d : Decimation) : List Byte :=
  num 1 e.reading.code ++ num 1 e.readingN ++ num 1 e.mirror.code ++ num 1 e.mirrorN ++ num 1 d.reading ++ num 1 d.mirror

/-- R139, R146: a HEAD_STATUS entry under R177. -/
def headStatusBytes (r : HeadRecord) (left : Option Nat) : List Byte :=
  num 1 r.state.code ++ marked 2 (r.expected.map BitVec.toNat) ++ marked 4 (r.lastTimestamp.map BitVec.toNat) ++
  marked 4 (r.lastArrival.map BitVec.toNat) ++ num 4 r.received ++ num 4 r.gaps ++ num 4 r.duplicates ++
  num 4 r.queueDrops ++ num 4 r.idleDiscards ++ marked 4 left

/-- R26: a TEMP_CHANNEL entry under R177. -/
def ChannelRecord.bytes (r : ChannelRecord) : List Byte :=
  num 1 (yesNo r.held.isSome) ++ marked 2 (r.held.map HeldTemperature.temperature) ++
  marked 4 (r.held.map (fun x => x.arrival.toNat)) ++ marked 4 (r.held.map (fun x => x.reported.toNat)) ++
  num 2 r.received ++ num 2 r.faults

/-- R42, R60: a ring sample under R177. -/
def Sample.bytes (x : Sample) : List Byte :=
  num 2 x.sequence.toNat ++ num 4 x.timestamp.toNat ++ num 2 x.angle ++ num 4 x.travel ++ num 1 (yesNo x.present)

/-- R60: the POSE entry under R177; the ring is preceded by its number of samples (log 16). -/
def PoseView.bytes (p : PoseView) : List Byte :=
  num 1 p.feed.code ++ marked 4 (p.lastAcceptance.map BitVec.toNat) ++ num 1 p.ring.length ++ p.ring.flatMap Sample.bytes ++
  num 1 p.waiting ++ num 1 p.presence.code ++ num 1 p.runLength ++
  marked 4 (p.runFirst.map (fun x => x.timestamp.toNat)) ++ marked 4 (p.runFirst.map RunFirst.travel) ++
  num 2 p.accepted ++ num 2 p.orderDiscards ++ num 2 p.rangeDiscards ++ num 2 p.silenceExpiries

/-- R61: the map setup copy under R177. -/
def MapCopy.bytes (m : MapCopy) : List Byte :=
  num 1 m.sectors ++ num 2 m.binLen ++ num 2 m.closeMargin ++ num 1 m.gapLimit ++ num 2 m.headZone ++ num 2 m.tailZone ++
  num 2 m.windowLow ++ num 2 m.windowHigh

/-- R61: the latched heads: the set as a byte, then the two offsets of each (log 16). -/
def latchedBytes (l : List LatchedHead) : List Byte :=
  num 1 (bitsOf (allHeads.map (fun h => l.any (fun x => x.head == h)))) ++
  l.flatMap (fun x => num 2 x.angleOffset ++ signedNum 2 x.axialOffset)

/-- R61: the placement counters of a context: one for each outcome of R70 and R71, in code order. CALIBRATION (R117) is
none of them. NO_TUBE and LATE readings are counted in no tube, so that their counters stay 0. -/
def placementCounters (t : Tube) : List Nat := t.placements.toList.take 11

/-- R81: a CONTEXT entry under R177, after the context's letter (R160, log 16). Its tube id, start time and start travel have
no presence byte: R61 lets them be absent only in a FREE context, which no CONTEXT entry shows (DEDUCED, log 35). -/
def contextBytes (c : Ctx) (t : Tube) : List Byte :=
  num 1 (Ctx.code c) ++ num 1 (stageCode (some t.stage)) ++ num 2 t.id.toNat ++ num 4 t.startTime.toNat ++
  num 4 t.startTravel ++ marked 4 (t.ended.map (fun e => e.time.toNat)) ++ marked 4 (t.ended.map TubeEnd.travel) ++
  marked 4 (t.ended.map TubeEnd.length) ++ marked 1 (t.ended.map (fun e => e.reason.code)) ++ num 4 t.generation ++
  t.setup.bytes ++ latchedBytes t.heads ++ num 2 t.nextRing ++ num 2 t.binsClosed ++
  marked 4 (t.settleEntry.map BitVec.toNat) ++ t.outcomes.toList.flatMap (num 4) ++
  (placementCounters t).flatMap (num 4) ++ num 1 (bitsOf t.headsLost.toList) ++ num 2 t.pagesUsed ++
  num 2 t.pagesTaken ++ num 2 t.pagesLost ++ num 1 t.worstSeen.code ++ num 2 t.digest.length

/-- R93: a DIRECTORY entry under R177, after the context's letter and tube id (R160, log 16). -/
def directoryBytes (c : Ctx) (tube : TubeId) (firstBin sectors : Nat) (e : Option DirEntry) : List Byte :=
  num 1 (Ctx.code c) ++ num 2 tube.toNat ++ num 2 firstBin ++ num 1 sectors ++ num 1 (yesNo e.isSome) ++
  marked 2 (e.map DirEntry.page) ++ marked 2 (e.map DirEntry.readings)

/-- R94: a MAP_PAGE entry under R177, after the context's letter (R160, log 16). -/
def mapPageBytes (c : Ctx) (page : Nat) (f : MapFrame) : List Byte :=
  num 1 (Ctx.code c) ++ num 2 f.tubeId.toNat ++ num 1 f.segment ++ num 2 f.firstBin ++ num 1 f.sectors ++ num 2 page ++
  num 2 f.readings ++ f.cells.flatMap Cell.bytes

/-- R179: an EVENT entry. Its flag is sent set as 1 and clear as 0 (DESIGN CHOICE, log 34). -/
def EventRecord.bytes (r : EventRecord) : List Byte :=
  num 1 r.severity.code ++ num 1 (yesNo r.report) ++ num 1 (yesNo r.flag) ++ num 2 r.count ++
  optNum 4 (r.firstTime.map BitVec.toNat) ++ optNum 4 (r.lastTime.map BitVec.toNat)

/-- R173, R174: the FAULT entry under R177: RELEASED 0 alone, or HELD 1 with its fields (log 16). -/
def captureBytes : Option Capture → List Byte
  | none => num 1 0
  | some c =>
    num 1 1 ++ num 1 c.kind.index.val ++ num 4 c.time.toNat ++ marked 2 (c.tubeId.map BitVec.toNat) ++
    marked 1 (c.head.map Fin.val) ++ num 1 (stageCode c.stageA) ++ num 1 (stageCode c.stageB) ++ num 1 c.mode.code ++
    num 1 c.queueDepth ++ num 1 c.overflow

/-- R179: the PORT_COUNTERS entry. -/
def PortView.bytes (v : PortView) : List Byte :=
  num 1 v.headLink.code ++ num 1 v.millLink.code ++
  [v.head.received, v.head.checkFailures, v.head.malformed, v.head.partials, v.head.linkDowns, v.head.marksSent,
   v.mill.received, v.mill.checkFailures, v.mill.malformed, v.mill.partials, v.mill.linkDowns,
   v.mill.requestDrops].flatMap (num 4) ++
  (v.mill.sent.toList ++ v.mill.dropped.toList ++ v.mill.lost.toList).flatMap (num 4) ++
  v.depths.flatMap (num 1) ++ num 1 v.requestDepth

/-- R179: the CALIBRATE layout. -/
def CalFields.bytes (f : CalFields) : List Byte :=
  num 1 f.head.val ++ num 2 f.reference ++ num 2 f.temperature ++ num 1 f.traces ++ num 2 f.tolerance

/-- R179: a context of the part status record: its state, and its tube id as an optional field. -/
def statusContext (x : Option (Stage × TubeId)) : List Byte :=
  num 1 (stageCode (x.map Prod.fst)) ++ marked 2 (x.map (fun p => p.2.toNat))

/-- R165, R179: the part status record. Its two flags are sent set as 1 and clear as 0 (DESIGN CHOICE, log 34). -/
def StatusRecord.bytes (r : StatusRecord) : List Byte :=
  num 4 r.partTime.toNat ++ num 1 r.mode.code ++ num 1 (yesNo r.loaded) ++ num 4 r.generation ++
  num 1 (yesNo r.stagedModified) ++ num 1 (yesNo r.applyPending) ++ statusContext r.contextA ++ statusContext r.contextB ++
  num 1 r.queueDepth ++ num 1 r.waitingDepth ++ num 1 r.requestDepth ++ num 2 r.freePages ++ num 1 (yesNo r.run.isSome) ++
  marked 1 (r.run.map (fun x => x.head.val)) ++ marked 1 (r.run.map RunView.traces) ++
  marked 1 (r.run.map RunView.counted) ++ marked 2 (r.run.map RunView.notCounted) ++ marked 4 (r.run.map RunView.elapsed) ++
  num 1 r.worst.code

/-- R179: the data of a RESPONSE. -/
def RespData.bytes : RespData → List Byte
  | .none => []
  | .headEntry e => e.bytes
  | .gateEntry e => e.bytes
  | .velocityEntry e => e.bytes
  | .velocityCount n => num 2 n.toNat ++ num 2 0
  | .mapSetup m => m.bytes
  | .timing t => t.bytes
  | .output e d => outputBytes e d
  | .calib k => num 4 k
  | .headStatus r left => headStatusBytes r left
  | .channel r => r.bytes
  | .pose p => p.bytes
  | .context c t => contextBytes c t
  | .directory c tube firstBin sectors e => directoryBytes c tube firstBin sectors e
  | .mapPage c page f => mapPageBytes c page f
  | .segmentAbsent c tube => num 1 (Ctx.code c) ++ num 2 tube.toNat
  | .event r => r.bytes
  | .fault c => captureBytes c
  | .portCounters v => v.bytes
  | .argument n => num 1 n
  | .generation n => num 4 n
  | .mode m => num 1 m.code
  | .calibration f => f.bytes
  | .runState running => num 1 (yesNo running)
  | .status r => r.bytes

/-- R179: a RESPONSE payload. -/
def Response.payload (r : Response) : List Byte := [r.tag] ++ num 1 r.status.code ++ r.data.bytes

/-! ### Whole frames (R175, R176) -/

/-- R175: the kind code of an outbound mill-link frame. -/
def Frame.kindCode : Frame → Byte
  | .response _ => 0x11
  | .notice _ => 0x12
  | .summary f => f.kindCode
  | .map (.page _) => 0x24
  | .map (.finish _ _ _) => 0x25
  | .reading _ => 0x20
  | .mirror _ => 0x21

/-- R179, R181: the payload of an outbound mill-link frame. -/
def Frame.payload : Frame → List Byte
  | .response r => r.payload
  | .notice n => n.payload
  | .summary (.ring r) => r.payload
  | .summary (.tube t) => t.payload
  | .summary (.calResult c) => c.payload
  | .map f => f.payload
  | .reading r => r.payload
  | .mirror m => m.payload

/-- R176: a whole outbound mill-link frame, from source 0x30. -/
def Frame.bytes (f : Frame) : List Byte := sealFrame f.kindCode 0x30 f.payload

/-- R145, R178: a whole TIME_MARK frame of part time `t`. -/
def timeMarkBytes (t : Time) : List Byte := sealFrame 0x04 0x30 (num 4 t.toNat)

end Sys2Proof.Machine
end

