-- ==== Sys2Proof/WellFormed.lean ====
section
/-! DEFINITION. The checks of a command's operands that their types do not make: what a frame that passed, or failed, the
tests of R138 and R154 must look like. -/

namespace Sys2Proof

/-- R4: the source codes of the head link's senders. -/
def headLinkSource (src : Byte) : Bool := src.toNat < 8 || src.toNat == 0x10 || (0x20 ≤ src.toNat && src.toNat < 0x24)

/-- A command whose operands a frame or an event of the part can carry. -/
def Instr.wellFormed : Instr → Bool
  | .powerOnReset => true
  | .headLinkUp => true
  | .headLinkDown _ => true
  | .traceFrame t => Machine.sampleCountOk t
  | .positionFrame _ => true
  | .temperatureFrame _ => true
  | .headFrameRejected r =>
    match r with
    | .frameCheck => true
    | .kind _ => true
    | .source _ => true
    | .length src => headLinkSource src
    | .traceFields _ => true
  | .timeMark => true
  | .timeMarkSent => true
  | .headSilenceExpiry _ => true
  | .tempRecordExpiry _ => true
  | .evaluationStart => true
  | .evaluationCompletion => true
  | .positionSilenceExpiry => true
  | .settleLimitExpiry _ => true
  | .settleCompletion => true
  | .calibrationTimeout => true
  | .drainBegin => true
  | .mapFrameQueued => true
  | .mapEndQueued => true
  | .millLinkUp => true
  | .millLinkDown _ => true
  | .requestFrame r => Machine.requestLengthOk r && decide (6 + r.data.length ≤ Machine.maxPayload)
  | .millFrameRejected r =>
    match r with
    | .frameCheck => true
    | .kind _ => true
    | .source src => src != 0x40#8
    | .length => true
  | .transmissionStart => true
  | .transmissionCompletion => true
  | .responseHeldRelease => true
  | .read => true
  | .write => true
  | .exchange => true
  | .clear => true
  | .apply => true
  | .mode => true
  | .calibrate => true
  | .abortCal => true
  | .restart => true
  | .status => true
  | .undefinedOperation => true

end Sys2Proof
end

