-- ==== Sys2Proof/Decode.lean ====
section
/-! DEFINITION. From bytes to commands: what a complete frame of either link is under the tests of R138 and R154, and the
frame of a command. No row of spec/opcode_table.json gives bits, so no word spells a command. -/

namespace Sys2Proof

/-- The command a word spells by the bits of spec/opcode_table.json: none, since no row gives bits. -/
def decodeTableWord (_nbits _w : Nat) : Option Instr := none

open Machine

/-! ### Fields of a received frame (R175 to R180) -/

/-- R176: the smallest and the largest whole frame a port takes. -/
def sizeOk (bytes : List Byte) : Bool := 6 ≤ bytes.length && bytes.length ≤ 4151

/-- R176: the frame check computed over the bytes that precede the last two equals those two. -/
def checkOk (bytes : List Byte) : Bool :=
  frameCheck (bytes.take (bytes.length - 2)) == wordAt bytes (bytes.length - 2)

/-- R175: the payload bytes received. -/
def payloadOf (bytes : List Byte) : List Byte := (bytes.drop 4).take (bytes.length - 6)

/-- R180: the length field and the number of payload bytes received both equal what the kind requires. -/
def lengthOk (bytes : List Byte) (required : Nat) : Bool :=
  (wordAt bytes 2).toNat == required && (payloadOf bytes).length == required

/-- R10: the sample interval a code names. -/
def intervalOf (code : Byte) : Option Interval :=
  match code.toNat with
  | 0 => some .ns10
  | 1 => some .ns20
  | 2 => some .ns40
  | _ => none

/-- The 16-bit words of a list of bytes. -/
def wordsOf : List Byte → List (BitVec 16)
  | x :: y :: rest => (x ++ y) :: wordsOf rest
  | _ => []

/-! ### The head link (R138, R178) -/

/-- R138 tests 4 and 5 of a TRACE frame whose source is head `h`. -/
def traceCommand (h : HeadNo) (bytes : List Byte) : Instr :=
  let p := payloadOf bytes
  let n := (wordAt p 9).toNat
  if p.length < 11 || !lengthOk bytes (11 + 2 * n) then .headFrameRejected (.length (byteAt bytes 1))
  else
    match intervalOf (byteAt p 1) with
    | some i =>
      let t : Trace :=
        { head := h, interval := i, sequence := wordAt p 2, timestamp := longAt p 4, energy := byteAt p 8,
          samples := wordsOf (p.drop 11) }
      if (byteAt p 0).toNat == h.val && sampleCountOk t then .traceFrame t else .headFrameRejected (.traceFields h)
    | none => .headFrameRejected (.traceFields h)

/-- R138 test 4 of a POSITION frame, and its fields (R178). -/
def positionCommand (bytes : List Byte) : Instr :=
  let p := payloadOf bytes
  if lengthOk bytes 13 then
    .positionFrame
      { sequence := wordAt p 0, timestamp := longAt p 2, angle := wordAt p 6, travel := longAt p 8,
        present := (byteAt p 12).getLsbD 0 }
  else .headFrameRejected (.length (byteAt bytes 1))

/-- R138 test 4 of a TEMPERATURE frame of channel `ch`, and its fields (R178). -/
def temperatureCommand (ch : ChannelNo) (bytes : List Byte) : Instr :=
  let p := payloadOf bytes
  if lengthOk bytes 7 then
    .temperatureFrame { channel := ch, timestamp := longAt p 0, ok := byteAt p 4 == 0, temperature := wordAt p 5 }
  else .headFrameRejected (.length (byteAt bytes 1))

/-- R138: what a complete frame of the head link is: the tests in their order, the first that fails deciding. -/
def headLinkCommand (bytes : List Byte) : Instr :=
  let src := byteAt bytes 1
  if !sizeOk bytes || !checkOk bytes then .headFrameRejected .frameCheck
  else
    match (byteAt bytes 0).toNat with
    | 1 => if h : src.toNat < 8 then traceCommand ⟨src.toNat, h⟩ bytes else .headFrameRejected (.source src)
    | 2 => if src.toNat = 0x10 then positionCommand bytes else .headFrameRejected (.source src)
    | 3 =>
      if h : src.toNat - 0x20 < 4 ∧ 0x20 ≤ src.toNat then temperatureCommand ⟨src.toNat - 0x20, h.1⟩ bytes
      else .headFrameRejected (.source src)
    | _ => .headFrameRejected (.kind src)

/-! ### The mill link (R154, R179, R180) -/

/-- R180: the payload length a REQUEST requires; none where any length is accepted. -/
def requestRequired (p : List Byte) : Option Nat := (requiredData (byteAt p 1) (byteAt p 2)).map (fun n => 6 + n)

/-- R154 test 4 of a REQUEST frame, and its fields (R179). -/
def requestCommand (bytes : List Byte) : Instr :=
  let p := payloadOf bytes
  if p.length < 6 || !lengthOk bytes ((requestRequired p).getD p.length) then .millFrameRejected .length
  else
    .requestFrame
      { tag := byteAt p 0, operation := byteAt p 1, table := byteAt p 2, selector := byteAt p 3, index := wordAt p 4,
        data := p.drop 6 }

/-- R154: what a complete frame of the mill link is: the tests in their order, the first that fails deciding. -/
def millLinkCommand (bytes : List Byte) : Instr :=
  let src := byteAt bytes 1
  if !sizeOk bytes || !checkOk bytes then .millFrameRejected .frameCheck
  else if (byteAt bytes 0).toNat ≠ 0x10 then .millFrameRejected (.kind src)
  else if src.toNat ≠ 0x40 then .millFrameRejected (.source src)
  else requestCommand bytes

/-! ### The frames senders send (R178, R179) -/

/-- R178: a POSITION payload. -/
def positionPayload (f : PositionFrame) : List Byte :=
  num 2 f.sequence.toNat ++ num 4 f.timestamp.toNat ++ num 2 f.angle.toNat ++ num 4 f.travel.toNat ++ num 1 (yesNo f.present)

/-- R178: a TEMPERATURE payload. -/
def temperaturePayload (f : TemperatureFrame) : List Byte :=
  num 4 f.timestamp.toNat ++ num 1 (yesNo (!f.ok)) ++ num 2 f.temperature.toNat

/-- R179: a REQUEST payload. -/
def requestPayload (r : Request) : List Byte :=
  [r.tag, r.operation, r.table, r.selector] ++ num 2 r.index.toNat ++ r.data

/-- The whole frame of a trace, from its head. -/
def traceBytes (t : Trace) : List Byte := sealFrame 0x01 (BitVec.ofNat 8 t.head.val) (tracePayload t)

/-- The whole frame of a position report, from the position unit. -/
def positionBytes (f : PositionFrame) : List Byte := sealFrame 0x02 0x10 (positionPayload f)

/-- The whole frame of a temperature, from its channel. -/
def temperatureBytes (f : TemperatureFrame) : List Byte :=
  sealFrame 0x03 (BitVec.ofNat 8 (0x20 + f.channel.val)) (temperaturePayload f)

/-- The whole frame of a request, from the mill computer. -/
def requestBytes (r : Request) : List Byte := sealFrame 0x10 0x40 (requestPayload r)

end Sys2Proof
end

