-- ==== Sys2Proof/Machine/Dispatch.lean ====
section
/-! DEFINITION. One arm for each command: the meaning that carries it out. -/

namespace Sys2Proof.Machine

/-- A command's effect on everything but the queue of waiting commands. -/
def exec (i : Instr) (s : State) : Host.Outcome State Fault Refusal :=
  match i with
  | .powerOnReset => Sys2Proof.Machine.execPowerOnReset s
  | .headLinkUp => Sys2Proof.Machine.execHeadLinkUp s
  | .headLinkDown cut => Sys2Proof.Machine.execHeadLinkDown cut s
  | .traceFrame t => Sys2Proof.Machine.execTraceFrame t s
  | .positionFrame f => Sys2Proof.Machine.execPositionFrame f s
  | .temperatureFrame f => Sys2Proof.Machine.execTemperatureFrame f s
  | .headFrameRejected r => Sys2Proof.Machine.execHeadFrameRejected r s
  | .timeMark => Sys2Proof.Machine.execTimeMark s
  | .timeMarkSent => Sys2Proof.Machine.execTimeMarkSent s
  | .headSilenceExpiry h => Sys2Proof.Machine.execHeadSilenceExpiry h s
  | .tempRecordExpiry ch => Sys2Proof.Machine.execTempRecordExpiry ch s
  | .evaluationStart => Sys2Proof.Machine.execEvaluationStart s
  | .evaluationCompletion => Sys2Proof.Machine.execEvaluationCompletion s
  | .positionSilenceExpiry => Sys2Proof.Machine.execPositionSilenceExpiry s
  | .settleLimitExpiry c => Sys2Proof.Machine.execSettleLimitExpiry c s
  | .settleCompletion => Sys2Proof.Machine.execSettleCompletion s
  | .calibrationTimeout => Sys2Proof.Machine.execCalibrationTimeout s
  | .drainBegin => Sys2Proof.Machine.execDrainBegin s
  | .mapFrameQueued => Sys2Proof.Machine.execMapFrameQueued s
  | .mapEndQueued => Sys2Proof.Machine.execMapEndQueued s
  | .millLinkUp => Sys2Proof.Machine.execMillLinkUp s
  | .millLinkDown cut => Sys2Proof.Machine.execMillLinkDown cut s
  | .requestFrame r => Sys2Proof.Machine.execRequestFrame r s
  | .millFrameRejected r => Sys2Proof.Machine.execMillFrameRejected r s
  | .transmissionStart => Sys2Proof.Machine.execTransmissionStart s
  | .transmissionCompletion => Sys2Proof.Machine.execTransmissionCompletion s
  | .responseHeldRelease => Sys2Proof.Machine.execResponseHeldRelease s
  | .read => Sys2Proof.Machine.execRead s
  | .write => Sys2Proof.Machine.execWrite s
  | .exchange => Sys2Proof.Machine.execExchange s
  | .clear => Sys2Proof.Machine.execClear s
  | .apply => Sys2Proof.Machine.execApply s
  | .mode => Sys2Proof.Machine.execMode s
  | .calibrate => Sys2Proof.Machine.execCalibrate s
  | .abortCal => Sys2Proof.Machine.execAbortCal s
  | .restart => Sys2Proof.Machine.execRestart s
  | .status => Sys2Proof.Machine.execStatus s
  | .undefinedOperation => Sys2Proof.Machine.execUndefinedOperation s

end Sys2Proof.Machine
end

