-- ==== Sys2Proof/Safety.lean ====
section
/-! DEFINITION. What the manual says of every state between two steps: laws of the state that each step keeps. They are
decidable, and no meaning reads them. -/

namespace Sys2Proof.Machine

/-! ### Events (R166) -/

/-- R166: the flag of a record is set exactly when its count is at least 1, the times are present exactly then, and the count
stays in its range. -/
def EventRecord.lawful (r : EventRecord) : Bool :=
  r.flag == (r.count != 0) && r.firstTime.isSome == r.flag && r.lastTime.isSome == r.flag && decide (r.count ≤ cap16)

/-- R166: every event record. -/
abbrev EventLaw (s : State) : Prop := ∀ i : Fin 22, (tableGet s.events.records i).lawful = true

/-! ### Queues (R6, R42, R149, R155) -/

/-- R6, R42, R149, R155: every queue, list and ring holds at most its capacity; and a RESPONSE is held only while the
RESPONSE class queue is full. -/
abbrev QueueLaw (s : State) : Prop :=
  s.traceQueue.length ≤ 48 ∧ s.pose.ring.length ≤ 16 ∧ s.pose.waiting.length ≤ 32 ∧ s.mill.responseQ.length ≤ 2 ∧
  s.mill.noticeQ.length ≤ 16 ∧ s.mill.summaryQ.length ≤ 32 ∧ s.mill.mapQ.length ≤ 4 ∧ s.mill.readingQ.length ≤ 64 ∧
  s.mill.mirrorQ.length ≤ 8 ∧ s.mill.requestQ.length ≤ 4 ∧
  (s.agent.processing.isSome = true → s.mill.responseQ.length = 2)

/-! ### Links (R136, R147) -/

/-- R136, R147: no frame is in transmission on a link that is DOWN. -/
abbrev LinkLaw (s : State) : Prop :=
  (s.headPort.link = .down → s.headPort.markInFlight = none) ∧ (s.mill.link = .down → s.mill.transmitter = none)

/-! ### Pages and drain (R83, R86, R95) -/

/-- The pages of a context's present entries. -/
def pagesHeld : Option Tube → List Nat
  | none => []
  | some t => dirPages t.directory

/-- R86: a directory lists segments 0..255 in ascending order, each once. -/
def Tube.directoryOk (t : Tube) : Bool :=
  decide ((t.directory.map Prod.fst).Pairwise (· < ·)) && t.directory.all (fun e => decide (e.1 < 256))

/-- R95: the Drain Engine is IDLE exactly when no context is DRAINING; otherwise it holds the one that is, and no present
segment of it lies below the cursor. -/
def drainOk (s : State) : Bool :=
  match s.drain with
  | none => !stageIs s .a .draining && !stageIs s .b .draining
  | some d =>
    stageIs s d.ctx .draining && !stageIs s (otherCtx d.ctx) .draining && decide (d.sent ≤ d.cursor) &&
    decide (d.cursor ≤ 256) &&
    (match tubeAt s d.ctx with
      | none => false
      | some t => t.directory.all (fun e => decide (d.cursor ≤ e.1)))

/-- R83, R86, R95: each of the 384 pages is on the free list once or in one present directory entry, never both; the
directories are ordered; the Drain Engine agrees with the contexts. -/
abbrev PageLaw (s : State) : Prop :=
  (s.wall.free ++ (pagesHeld s.tubes.a ++ pagesHeld s.tubes.b)).Perm (List.range 384) ∧
  s.tubes.a.all Tube.directoryOk = true ∧ s.tubes.b.all Tube.directoryOk = true ∧ drainOk s = true

/-! ### Contexts, presence and mode (R57, R61, R63, R114, R124, R162) -/

/-- R61: the optional fields of a context that is not FREE: the end of the tube is absent exactly while ACTIVE, the settle
entry time present exactly in SETTLING. -/
def Tube.shapeOk (t : Tube) : Bool :=
  match t.stage, t.ended, t.settleEntry with
  | .active, none, none => true
  | .settling, some _, some _ => true
  | .closedWait, some _, none => true
  | .draining, some _, none => true
  | _, _, _ => false

/-- R61, R80, R103: the digest list stands in ascending bin, below the next ring bin; the latched heads stand each once. -/
def Tube.listsOk (t : Tube) : Bool :=
  decide ((t.digest.map DigestEntry.bin).Pairwise (· < ·)) && t.digest.all (fun e => decide (e.bin < t.nextRing)) &&
  decide ((t.heads.map LatchedHead.head).Pairwise (· < ·))

/-- R57, R61, R63, R80: the shape of both records and of their lists, at most one context ACTIVE, none while the presence state
is ABSENT, and the presence run's first frame present exactly while its length is not 0. -/
abbrev TubeLaw (s : State) : Prop :=
  s.tubes.a.all Tube.shapeOk = true ∧ s.tubes.b.all Tube.shapeOk = true ∧
  s.tubes.a.all Tube.listsOk = true ∧ s.tubes.b.all Tube.listsOk = true ∧
  ¬(stageIs s .a .active = true ∧ stageIs s .b .active = true) ∧
  (s.pose.presence = .absent → activeCtx s = none) ∧ (s.pose.runFirst.isSome = true ↔ 1 ≤ s.pose.runLength) ∧
  s.pose.runLength ≤ 8

/-- R75: context `c` is not SETTLING with its settle condition true. -/
def settledOk (s : State) (c : Ctx) : Bool :=
  match tubeAt s c with
  | none => true
  | some t =>
    match t.stage, t.ended with
    | .settling, some e => !settleCondition s t e.time
    | _, _ => true

/-- R75: a settle condition that comes to hold completes settling in the same step, so that none holds between two steps. -/
abbrev SettleLaw (s : State) : Prop := settledOk s .a = true ∧ settledOk s .b = true

/-- R62, R64, R66: without a newest-start mark both contexts are FREE; the context the mark names, while it is not FREE, has the
tube id counter's value as its tube id, and the other context has another. -/
def tubeIdsOk (s : State) : Bool :=
  match s.tubes.newest with
  | none => s.tubes.a.isNone && s.tubes.b.isNone
  | some c =>
    (tubeAt s c).all (fun t => t.id == s.tubes.idCounter) && (tubeAt s (otherCtx c)).all (fun t => t.id != s.tubes.idCounter)

/-- R63, R66: the tube ids of the contexts agree with the counter and the mark, so that two that are not FREE differ. -/
abbrev IdLaw (s : State) : Prop := tubeIdsOk s = true

/-- R114, R116, R124, R130, R162: MEASURE has a LOADED bank, CALIBRATE has no tube that is ACTIVE or SETTLING, a run is in
progress only in CALIBRATE; the bank is LOADED exactly when the generation is not 0, which stays in its range. -/
abbrev ModeLaw (s : State) : Prop :=
  (s.agent.mode = .measure → s.agent.active.isSome = true) ∧ (s.agent.mode = .calibrate → tubeLive s = false) ∧
  (s.agent.run.isSome = true → s.agent.mode = .calibrate) ∧ (s.agent.active.isSome = true ↔ 1 ≤ s.agent.generation) ∧
  s.agent.generation ≤ lastGeneration

/-! ### Heads (R139, R140) -/

/-- R139, R140: an intake record against whether its head is enabled in the active bank. -/
def HeadRecord.lawful (enabled : Bool) (r : HeadRecord) : Bool :=
  (r.state == .disabled) == !enabled && r.expected.isSome == r.lastTimestamp.isSome &&
  r.expected.isSome == r.lastArrival.isSome &&
  (match r.state with
    | .disabled => true
    | .unseen => r.expected.isNone
    | .active | .silent => r.expected.isSome)

/-- R139, R140: a head is DISABLED exactly when the active bank does not enable it; an ACTIVE or SILENT head has accepted a
trace, an UNSEEN one has not. -/
abbrev HeadLaw (s : State) : Prop :=
  ∀ h : HeadNo, (tableGet s.headPort.heads h).lawful (headEnabled s h) = true

/-! ### Tables that take effect at once, and calibration (R9, R114, R133 to R135, R152, R153) -/

/-- R133: the limits lie within their ranges. -/
def Timing.lawful (t : Timing) : Bool := clampTiming t == t

/-- R134, R152, R153: both N lie in 2..255, and each decimation counter below its N. -/
def outputLawful (e : OutputEntry) (d : Decimation) : Bool :=
  decide (2 ≤ e.readingN) && decide (e.readingN ≤ 255) && decide (2 ≤ e.mirrorN) && decide (e.mirrorN ≤ 255) &&
  decide (d.reading < e.readingN) && decide (d.mirror < e.mirrorN)

/-- R133 to R135: the tables that take effect at once hold only values in range, whatever was written. -/
abbrev RangeLaw (s : State) : Prop :=
  s.agent.timing.lawful = true ∧ (∀ h : HeadNo, outputLawful (outputOf s h) (decimationOf s h) = true) ∧
  (∀ h : HeadNo, factorLow ≤ tableGet s.agent.calib h ∧ tableGet s.agent.calib h ≤ factorHigh)

/-- R114, R117: the sum, min and max of a run: the sum is 0 and both extremes absent while none is counted; otherwise both
extremes lie in the band of R117 and in their range, and the sum lies between the counted number of each. -/
def CalRun.figuresOk (r : CalRun) : Bool :=
  match r.min, r.max with
  | none, none => r.counted == 0 && r.sum == 0
  | some mn, some mx =>
    r.counted != 0 && decide (mn ≤ mx) && decide (mx ≤ 65535) && decide (r.reference * 4 ≤ mn * 5) &&
    decide (mx * 5 ≤ r.reference * 6) && decide (r.counted * mn ≤ r.sum) && decide (r.sum ≤ r.counted * mx)
  | none, some _ | some _, none => false

/-- R114, R117: the run record in progress. -/
def CalRun.lawful (r : CalRun) : Bool :=
  decide (1000 ≤ r.reference) && decide (r.reference ≤ 65000) && decide (r.temperature ≤ 1600) && decide (4 ≤ r.traces) &&
  decide (r.traces ≤ 64) && decide (1 ≤ r.tolerance) && decide (r.tolerance ≤ 5000) && decide (r.counted < r.traces) &&
  r.figuresOk && decide (r.notCounted ≤ cap16)

/-- R9: an evaluation tied to the run in progress is of the run's head. -/
def tieOk (s : State) : Bool :=
  match s.evaluator with
  | none => true
  | some e => e.tie != .run || s.agent.run.map CalRun.head == some e.trace.head

/-- R9, R114: the run record stays in its ranges, and an evaluation tied to the run in progress is of the run's head. -/
abbrev RunLaw (s : State) : Prop := s.agent.run.all CalRun.lawful = true ∧ tieOk s = true

/-- R91: the canonical form of the page pool, as the model keeps it. -/
abbrev PoolLaw (s : State) : Prop := poolWf s.wall.pool = true

end Sys2Proof.Machine
end

