-- ==== Sys2Proof/Certificates/Slice0/Obligations.lean ====
section
/-! DEFINITION. The statements for the provers. The definitions before them name situations and effects that several statements
share, or put a check in the words of its rule; they are read by no meaning. -/

namespace Sys2Proof.Machine

/-- The Management Agent is free and `r` is the oldest request, `rest` behind it (R155). -/
abbrev Ready (r : Request) (rest : List Request) (s : State) : Prop :=
  s.agent.processing = none ∧ s.mill.requestQ = r :: rest

/-- The state once the oldest request has left the request queue (R155). -/
def dequeued (rest : List Request) (s : State) : State := s.setMill { s.mill with requestQ := rest }

/-- The RESPONSE of a request offered with this status and data (R155, R157). -/
def answer (r : Request) (st : Status) (d : RespData) (s : State) : State :=
  respond r { tag := r.tag, status := st, data := d } s

/-- One more complete frame received on the head link (R137). -/
def received (s : State) : HeadPort :=
  { s.headPort with counters := { s.headPort.counters with received := min 4294967295 (s.headPort.counters.received + 1) } }

/-- R143: the mode and the calibration run admit the accepted traces of head `h`. -/
abbrev Admitting (h : HeadNo) (s : State) : Prop :=
  (s.agent.mode = .measure ∧ headEnabled s h = true) ∨ (s.agent.mode = .calibrate ∧ s.agent.run.map CalRun.head = some h)

/-- No context is SETTLING, so that no settle condition is examined (R75). -/
abbrev Quiet (s : State) : Prop := stageIs s .a .settling = false ∧ stageIs s .b .settling = false

/-- How often a kind has occurred since its record was last cleared (R166). -/
def occurrences (s : State) (k : EventKind) : Nat := (tableGet s.events.records k.index).count

/-- R161: what a request that passes its checks on entry `e` does when it stores: a WRITE answers no entry, or the entry as
`stored` under OK_CLAMPED; an EXCHANGE answers the entry as it stood, `old`. Both leave the state `t`. -/
abbrev Stores (r : Request) (rest : List Request) (s : State) (e : EntryName) (old stored : RespData) (clamped : Bool)
    (t : State) : Prop :=
  (∀ p, operationOf r.operation = some .write → checkRequest .write r (dequeued rest s) = .ok (e, p) →
    exec .write s = .next (if clamped = true then answer r .okClamped stored t else answer r .ok .none t)) ∧
  (∀ p, operationOf r.operation = some .exchange → checkRequest .exchange r (dequeued rest s) = .ok (e, p) →
    exec .exchange s = .next (answer r (if clamped = true then .okClamped else .ok) old t))

/-- R128 checks 1 to 6 of an enabled head in the words of the rule: the ranges of R125; the chain, at most eight descriptors,
none of them twice, from the chain start to END; and what its enabled descriptors must be. -/
def ChainPasses (b : Bank) (e : HeadEntry) : Prop :=
  (e.enabled.toNat ≤ 1 ∧ e.chainStart.toNat ≤ 63 ∧ e.pairMode.toNat ≤ 1 ∧ 1 ≤ e.minSep.toNat ∧ e.minSep.toNat ≤ 2047 ∧
    e.weakPct.toNat ≤ 100 ∧ (e.channel.toNat ≤ 3 ∨ e.channel.toNat = 255) ∧ e.angleOffset.toNat ≤ 4095 ∧
    -20000 ≤ e.axialOffset.toInt ∧ e.axialOffset.toInt ≤ 20000) ∧
  ∃ path : List (Fin 64),
    let next := fun (i : Fin 64) => (tableGet b.gates i).next.toNat
    let enabled := (path.map (tableGet b.gates)).filter (fun g => isYes g.enabled)
    let echoes := (enabled.map (fun g => g.kind.toNat)).filter (fun k => decide (k < 3))
    path.head?.map Fin.val = some e.chainStart.toNat ∧ path.length ≤ 8 ∧ path.Nodup ∧
    (∀ (k : Nat) (i j : Fin 64), path[k]? = some i → path[k + 1]? = some j → next i = j.val) ∧
    path.getLast?.map next = some 255 ∧
    (∀ g ∈ enabled, g.kind.toNat ≤ 3 ∧ g.placement.toNat ≤ 1 ∧
      (g.placement.toNat = 0 → 0 ≤ g.offset.toInt ∧ g.offset.toInt ≤ 4095) ∧
      (g.placement.toNat = 1 → g.anchor.toNat ≤ 2 ∧ -2048 ≤ g.offset.toInt ∧ g.offset.toInt ≤ 4095) ∧
      4 ≤ g.width.toNat ∧ g.width.toNat ≤ 2048 ∧ 1 ≤ g.threshold.toNat ∧ g.threshold.toNat ≤ 2047) ∧
    (echoes = [0, 1] ∨ echoes = [0, 1, 2]) ∧
    (∀ (k : Nat) (g : GateEntry), enabled[k]? = some g → g.placement.toNat = 1 →
      ∃ (m : Nat) (a : GateEntry), m < k ∧ enabled[m]? = some a ∧ a.kind = g.anchor) ∧
    (e.pairMode.toNat = 1 → ∃ g ∈ enabled, g.kind.toNat = 2)

/-- R126, R129: field `k` of MAP_SETUP, numbered in the order of its checks, lies in its range. -/
def mapFieldOk (m : MapSetup) (k : Nat) : Bool :=
  match k with
  | 1 => m.sectors.toNat ∈ [8, 16, 32, 64]
  | 2 => 100 ≤ m.binLen.toNat ∧ m.binLen.toNat ≤ 10000
  | 3 => m.closeMargin.toNat ≤ 10000
  | 4 => m.gapLimit.toNat ≤ m.sectors.toNat / 4
  | 5 => m.headZone.toNat ≤ 50000
  | 6 => m.tailZone.toNat ≤ 50000
  | 7 => 500 ≤ m.windowLow.toNat ∧ m.windowLow.toNat ≤ 65534
  | 8 => m.windowLow.toNat < m.windowHigh.toNat ∧ m.windowHigh.toNat ≤ 65535
  | 9 => m.windowLow.toNat ≤ m.nominal.toNat ∧ m.nominal.toNat ≤ m.windowHigh.toNat
  | 10 => m.fallback.toNat ≤ 1600
  | 11 => 1 ≤ m.presenceCount.toNat ∧ m.presenceCount.toNat ≤ 8
  | _ => true

/-- A reading but for its placement. -/
def Reading.unplaced (r : Reading) : Reading := { r with placement := none }

/-- R55, R70: a reading, but for its placement, once it is assigned with pose `p` to the live tube `t` of its generation: the
tube's id, and sector and bin unless its coordinate lies before the start. -/
def placedOn (t : Tube) (p : Pose) (r : Reading) : Reading :=
  let x := shellX t r.head p.travel
  { r.unplaced with
    tubeId := some t.id, sector := if x < 0 then r.sector else some (sectorOf t r.head p.angle),
    bin := if x < 0 then r.bin else some (binOf t x) }

/-- R50: a reading resolved by extrapolation from the newest two samples `a` and `b`: EXTRAPOLATED and placed while it lies
within the position silence limit of `b`, without a pose otherwise. -/
def extrapolatedOn (s : State) (t : Tube) (a b : Sample) (r : Reading) : Reading :=
  if (r.timestamp - b.timestamp).toNat ≤ s.agent.timing.positionSilence * 1000 then
    placedOn t (poseAt a b r.timestamp) { r with flags := { r.flags with extrapolated := true } }
  else { r.unplaced with tubeId := some t.id }

/-- R42, R44, R49: `x` and `y` are adjacent samples of the ring, whose timestamps ascend, and `time` lies between them: no
sample up to `x` is later than it, and it is not later than any from `y` on. -/
def Between (x y : Sample) (time : Time) (s : State) : Prop :=
  s.pose.ring.IsChain (fun a b => laterThan b.timestamp a.timestamp = true) ∧
  ∃ l m, s.pose.ring = l ++ x :: y :: m ∧ (∀ z ∈ l ++ [x], notLater z.timestamp time = true) ∧
    ∀ z ∈ y :: m, notLater time z.timestamp = true

/-- R69, R70, R87, R88: the VALID reading `r` of thickness `d`, with pose `p`, falls in the live tube `t` of context `c`, of its
generation, in a segment that stands on a page; `a` is the address of its cell. -/
def InCell (s : State) (c : Ctx) (t : Tube) (r : Reading) (p : Pose) (d a : Nat) : Prop :=
  let x := shellX t r.head p.travel
  let n := segmentOf t.setup.sectors (binOf t x)
  r.outcome = .valid ∧ r.thickness = some d ∧ spanOf s r.timestamp = some (.live c) ∧ tubeAt s c = some t ∧
  t.generation = r.generation ∧ 0 ≤ x ∧ n < 256 ∧
  ∃ e, dirLookup t.directory n = some e ∧
    a = cellAddress e.page (cellIndexOf t.setup.sectors (binOf t x) (sectorOf t r.head p.angle))

/-- R92: from `s` to `u` the cell at address `a` takes the thickness `d` of `r`, which carries EXTRAPOLATED or does not, and no
other cell changes. -/
def CellTakes (r : Reading) (extrapolated : Bool) (d a : Nat) (s u : State) : Prop :=
  let old := readCell s.wall.pool a
  let new := readCell u.wall.pool a
  (∀ b, b ≠ a → readCell u.wall.pool b = readCell s.wall.pool b) ∧
  new.count = (if old.count < 65535 then old.count + 1 else old.count) ∧
  new.sum = (if old.count < 65535 then some (old.sum.getD 0 + d) else old.sum) ∧
  new.min = some (min (old.min.getD d) d) ∧ new.max = some (max (old.max.getD d) d) ∧
  new.flaws = (if r.flags.flaw = true then min 255 (old.flaws + 1) else old.flaws) ∧
  new.extrapolated = (extrapolated || old.extrapolated)

/-- R50: the first two of its four points: the reading in evaluation, later than the newest sample `y`, is complete, and `r`,
extrapolated, is that reading on a SILENT feed, or the oldest of 32 that wait, whose place it takes (R51). -/
def ExtrapolatedAtCompletion (r : Reading) (y : Sample) (s : State) : Prop :=
  ∃ ev oldest, s.evaluator = some ev ∧ ev.tie = .ordinary ∧ s.pose.ring.head? = some oldest ∧
    laterThan oldest.timestamp (evaluate ev).timestamp = false ∧ laterThan (evaluate ev).timestamp y.timestamp = true ∧
    ((s.pose.feed = .silent ∧ r = evaluate ev) ∨
      (s.pose.feed = .live ∧ ∃ l, s.pose.waiting = r :: l ∧ l.length = 31))

/-- R50: its other two points: position silence expires with the readings `l` on the pending list (R47), or the settle limit of
a tube with `l` those of them not later than its end time (R53). -/
def ExtrapolatedAtExpiry (i : Instr) (l : List Reading) (s : State) : Prop :=
  (i = .positionSilenceExpiry ∧ positionSilenceDue s = true ∧ s.pose.waiting = l) ∨
  (∃ c t e, i = .settleLimitExpiry c ∧ settleDue s c = true ∧ tubeAt s c = some t ∧ t.ended = some e ∧
    s.pose.waiting.filter (fun r => notLater r.timestamp e.time) = l)

/-- Every head sends all its readings and the READING class queue of an UP link has room for `n` more (R149, R152). -/
abbrev Reporting (n : Nat) (s : State) : Prop :=
  (∀ h : HeadNo, (outputOf s h).reading = .all) ∧ s.mill.link = .up ∧ s.mill.readingQ.length + n ≤ 64

/-- An evaluation with this tie is in flight, and every head's mirror policy is OFF: its completion offers no MIRROR frame
(R25, R153). -/
abbrev Completing (tie : Tie) (ev : Evaluation) (s : State) : Prop :=
  s.evaluator = some ev ∧ ev.tie = tie ∧ ∀ h : HeadNo, (outputOf s h).mirror = .off

/-- R19, R25, R31: the state after the events of a completed evaluation: FLAW, and then TEMP_FALLBACK with the latched channel,
each when the reading carries its flag. -/
def withFlagEvents (ev : Evaluation) (s : State) : State :=
  let flags := (evaluate ev).flags
  let flawed := if flags.flaw = true then raise .flaw (.head ev.trace.head) s else s
  if flags.tempFallback = true then raise .tempFallback (.headChannel ev.trace.head ev.slice.channel) flawed else flawed

/-- R117, R152: the reading that a run has taken, once it is offered: under ALL always, under VALID_ONLY when its outcome is
VALID, its placement CALIBRATION, the READING class queue having room. -/
def offeredByRun (r : Reading) (s : State) : State :=
  if (outputOf s r.head).reading = .all ∨ ((outputOf s r.head).reading = .validOnly ∧ r.outcome = .valid) then
    s.setMill { s.mill with readingQ := s.mill.readingQ ++ [{ r with placement := some .calibration }] }
  else s

/-- R69, R70: these readings fall in the live tube `t` of context `c` and are of its generation. -/
abbrev OfTube (c : Ctx) (t : Tube) (l : List Reading) (s : State) : Prop :=
  tubeAt s c = some t ∧ ∀ r ∈ l, r.generation = t.generation ∧ spanOf s r.timestamp = some (.live c)

/-- The tube ids that a detail names (R166). -/
def namedTubes : Detail → List TubeId
  | .headTube _ t | .tube t | .tubeSegment t _ | .tubeContext t _ | .frameTube _ t | .tubeHead t _ => [t]
  | .reclaim receiving _ losing _ => [receiving, losing]
  | .link _ | .source _ | .headMissed _ _ | .headSequence _ _ | .headStates _ _ _ | .time _ | .headChannel _ _ | .head _
  | .frameHead _ _ | .kind _ | .failure _ _ | .headOutcome _ _ | .tag _ => []

/-- R173: what an occurrence fills a RELEASED capture with, but for the overflow count. -/
def Captured (cap : Capture) (k : EventKind) (d : Detail) (s : State) : Prop :=
  cap.kind = k ∧ cap.time = s.headPort.partTime ∧
  (namedTubes d ≠ [] → ∃ id ∈ namedTubes d, cap.tubeId = some id) ∧
  (namedTubes d = [] → cap.tubeId = (activeCtx s).bind (fun c => (tubeAt s c).map Tube.id)) ∧
  cap.head = d.headNo ∧ cap.stageA = s.tubes.a.map Tube.stage ∧ cap.stageB = s.tubes.b.map Tube.stage ∧
  cap.mode = s.agent.mode ∧ cap.queueDepth = s.traceQueue.length

/-- R69: `time` lies in the span of context `c`, or of the tube that a FREE `c` last drained; `x` is what that span makes of a
reading. -/
def FallsIn (s : State) (time : Time) (c : Ctx) (x : Span) : Prop :=
  (∃ t, tubeAt s c = some t ∧ t.stage = .active ∧ notLater t.startTime time = true ∧ x = .live c) ∨
  (∃ t e, tubeAt s c = some t ∧ t.ended = some e ∧ notLater t.startTime time = true ∧ notLater time e.time = true ∧
    ((t.stage = .settling ∧ x = .live c) ∨ ((t.stage = .closedWait ∨ t.stage = .draining) ∧ x = .late t.id))) ∨
  (∃ r, tubeAt s c = none ∧ s.tubes.retired c = some r ∧ notLater r.startTime time = true ∧
    notLater time r.endTime = true ∧ x = .late r.id)

/-- R172: the state after the comparison of head `h`, whose new state is `new`, with its snapshot. -/
def withHeadChange (h : HeadNo) (new : HeadState) (s : State) : State :=
  if snapshotOf s h = new then s else raise .headChange (.headStates h (snapshotOf s h) new) s

/-- R97: the MAP frames of these entries of a tube, in their order, their cells as they stand. -/
def pageFrames (s : State) (t : Tube) (l : List (Nat × DirEntry)) : List MapClassFrame :=
  l.map (fun x => .page { tubeId := t.id, segment := x.1, firstBin := firstBinOf t.setup.sectors x.1,
                          sectors := t.setup.sectors, readings := x.2.readings,
                          cells := (List.range 256).map (fun i => readCell s.wall.pool (x.2.page * 256 + i)) })

/-- R95 to R99, R78: from `s`, in which the engine goes on as `d` says with the DRAINING tube `t`, it has come to `u`: as many
of the present segments as the MAP class queue has room for are queued, in ascending order, their pages at the tail of the free
list; the next frame that finds the queue full makes the engine WAITING. Where room is left after the last segment, MAP_END
follows, the context is FREE with its retired span and the engine is IDLE, or the other context, if it is CLOSED_WAIT, has its
turn from there in the same step. -/
def DrainsOn (d : Drain) (t : Tube) (s u : State) : Prop :=
  let room := 4 - s.mill.mapQ.length
  let sent := t.directory.take room
  let queued := fun (last : List MapClassFrame) =>
    (s.setMill { s.mill with mapQ := s.mill.mapQ ++ pageFrames s t sent ++ last }).setWall
      { s.wall with free := s.wall.free ++ sent.map (fun x => x.2.page) }
  (room ≤ t.directory.length →
    u = ((queued []).setTubes (s.tubes.put d.ctx (some { t with directory := t.directory.drop room }))).setDrain
      (some { ctx := d.ctx, cursor := (sent.getLast?.map (fun x => x.1 + 1)).getD d.cursor, sent := d.sent + room,
              waiting := true })) ∧
  (t.directory.length < room →
    let done := ((queued [.finish t.id (d.sent + t.directory.length) t.pagesLost]).setTubes
      ((s.tubes.put d.ctx none).putRetired d.ctx
        (t.ended.map (fun e => { id := t.id, startTime := t.startTime, endTime := e.time })))).setDrain none
    (stageIs s (otherCtx d.ctx) .closedWait = false → u = done) ∧
    (stageIs s (otherCtx d.ctx) .closedWait = true → exec .drainBegin done = .next u))

/-- R160, R177: the context, not FREE, that a selector code names: 2 CURRENT, 3 PREVIOUS, 4 A, 5 B. -/
def CtxNamed (s : State) (selector : Byte) (c : Ctx) : Prop :=
  tubeAt s c ≠ none ∧
  ((selector.toNat = 2 ∧ (tubeAt s (otherCtx c) = none ∨ s.tubes.newest = some c)) ∨
   (selector.toNat = 3 ∧ tubeAt s (otherCtx c) ≠ none ∧ s.tubes.newest = some (otherCtx c)) ∨
   (selector.toNat = 4 ∧ c = .a) ∨ (selector.toNat = 5 ∧ c = .b))

/-- R148, R161: the PORT_COUNTERS entry while a request is in processing and `rest` waits behind it. -/
def portEntry (rest : List Request) (s : State) : PortView :=
  { headLink := s.headPort.link, millLink := s.mill.link, head := s.headPort.counters, mill := s.mill.counters,
    depths := [s.mill.responseQ.length, s.mill.noticeQ.length, s.mill.summaryQ.length, s.mill.mapQ.length,
      s.mill.readingQ.length, s.mill.mirrorQ.length],
    requestDepth := rest.length }

/-- R159: how many indices a table has; its index range runs from 0 to one less. -/
def indexCount : TableName → Nat
  | .head => 8 | .gate => 64 | .velocity => 17 | .mapSetup => 1 | .timing => 1 | .output => 8 | .calib => 8
  | .headStatus => 8 | .tempChannel => 4 | .pose => 1 | .context => 1 | .directory => 256 | .mapPage => 256
  | .event => 22 | .fault => 1 | .portCounters => 1

/-- R159: the operation is one that the table's row carries out, for this selector code. -/
def CarriedOut (op : TableOp) (t : TableName) (selector : Byte) : Prop :=
  op = .read ∨
  ((op = .write ∨ op = .exchange) ∧
    (t ∈ [TableName.timing, .output, .calib, .event] ∨ (t.isRecipe = true ∧ selector.toNat = 0))) ∨
  (op = .clear ∧ t ∈ [TableName.headStatus, .tempChannel, .event, .fault, .portCounters])

/-- R46, R76, R119, R141: the timers that have reached their limits, each as the command of its expiry. -/
def timersDue (s : State) : List Instr :=
  (allHeads.filter (headSilenceDue s)).map .headSilenceExpiry ++
  (if positionSilenceDue s = true then [.positionSilenceExpiry] else []) ++
  ([Ctx.a, Ctx.b].filter (settleDue s)).map .settleLimitExpiry ++
  (if calibrationDue s = true then [.calibrationTimeout] else [])

/-! #### The fields of the frames that the part sends (R177 to R182) -/

/-- R177: the `size` bytes at offset `o` carry the number `n`, most significant byte first, if they can hold it. -/
def Carries (b : List Byte) (o size n : Nat) : Prop :=
  n < 256 ^ size → ((b.drop o).take size).foldl (fun v x => 256 * v + x.toNat) 0 = n

/-- R181: the bits of the byte at offset `o`, bit 0 first. -/
def CarriesBits (b : List Byte) (o : Nat) (bits : List Bool) : Prop :=
  ∀ (i : Nat) (x : Bool), bits[i]? = some x → (byteAt b o).getLsbD i = x

/-- R178: a TRACE payload. -/
def TraceLayout (b : List Byte) (t : Trace) : Prop :=
  Carries b 0 1 t.head.val ∧ Carries b 1 1 (Interval.code t.interval) ∧ wordAt b 2 = t.sequence ∧ longAt b 4 = t.timestamp ∧
  byteAt b 8 = t.energy ∧ Carries b 9 2 t.samples.length ∧
  ∀ (i : Nat) (x : BitVec 16), t.samples[i]? = some x → wordAt b (11 + 2 * i) = x

/-- R181: a READING payload; an absent field is sent as zero and an absent placement as 255 (R177). -/
def ReadingLayout (b : List Byte) (r : Reading) : Prop :=
  Carries b 0 1 r.head.val ∧ wordAt b 1 = r.sequence ∧ longAt b 3 = r.timestamp ∧ Carries b 7 4 r.generation ∧
  Carries b 11 1 r.outcome.code.val ∧
  CarriesBits b 12 [r.flags.edge, r.flags.weak, r.flags.flaw, r.flags.fallbackPair, r.flags.tempClamp, r.flags.tempFallback,
    r.flags.saturated, r.flags.extrapolated] ∧
  CarriesBits b 13 [r.delta.isSome, r.echo1.isSome, r.echo2.isSome, r.echo3.isSome, r.thickness.isSome, r.sector.isSome,
    r.bin.isSome, r.tubeId.isSome] ∧
  longAt b 14 = BitVec.ofInt 32 (r.delta.getD 0) ∧ Carries b 18 2 (r.echo1.getD 0) ∧ Carries b 20 2 (r.echo2.getD 0) ∧
  Carries b 22 2 (r.echo3.getD 0) ∧ Carries b 24 2 r.temperature ∧ Carries b 26 2 r.velocity ∧
  Carries b 28 2 (r.thickness.getD 0) ∧ Carries b 30 1 ((r.placement.map (fun p => p.code.val)).getD 255) ∧
  Carries b 31 1 (r.sector.getD 0) ∧ Carries b 32 4 (r.bin.getD 0) ∧ wordAt b 36 = r.tubeId.getD 0

/-- R181: a RING payload. -/
def RingLayout (b : List Byte) (r : RingRecord) : Prop :=
  wordAt b 0 = r.tubeId ∧ Carries b 2 2 r.bin ∧ longAt b 4 = r.closeTime ∧ Carries b 8 1 r.zone.code ∧
  Carries b 9 1 r.status.code ∧ Carries b 10 1 r.sectors ∧
  CarriesBits b 11 [r.mean.isSome, r.min.isSome, r.max.isSome, r.eccentricity.isSome, r.thinSector.isSome, false, false,
    false] ∧
  Carries b 12 2 (r.mean.getD 0) ∧ Carries b 14 2 ((r.min.map Prod.fst).getD 0) ∧ Carries b 16 1 ((r.min.map Prod.snd).getD 0) ∧
  Carries b 17 2 ((r.max.map Prod.fst).getD 0) ∧ Carries b 19 1 ((r.max.map Prod.snd).getD 0) ∧
  Carries b 20 2 (r.eccentricity.getD 0) ∧ Carries b 22 1 (r.thinSector.getD 0) ∧ Carries b 23 4 r.readings ∧
  Carries b 27 2 r.flaws ∧
  ∀ (j : Nat) (m : SectorMean), r.means[j]? = some m →
    Carries b (29 + 3 * j) 1 (match m with | .measured _ => 0 | .filled _ => 1 | .absent => 2) ∧
    Carries b (30 + 3 * j) 2 (match m with | .measured x => x | .filled x => x | .absent => 0)

/-- R79, R80, R181: a TUBE payload. -/
def TubeLayout (b : List Byte) (t : TubeSummary) : Prop :=
  let body := t.body
  wordAt b 0 = t.tubeId ∧ longAt b 2 = t.startTime ∧ longAt b 6 = t.endTime ∧ Carries b 10 4 t.length ∧
  Carries b 14 1 t.reason.code ∧ Carries b 15 4 t.generation ∧ Carries b 19 2 t.binsClosed ∧ Carries b 21 2 t.tailBin ∧
  CarriesBits b 23 [body.mean.isSome, body.min.isSome, body.max.isSome, body.maxEccentricity.isSome, false, false, false,
    false] ∧
  Carries b 24 2 body.count ∧ Carries b 26 2 (body.mean.getD 0) ∧
  (let (x, bin, sector) := body.min.getD (0, 0, 0)
   Carries b 28 2 x ∧ Carries b 30 2 bin ∧ Carries b 32 1 sector) ∧
  (let (x, bin, sector) := body.max.getD (0, 0, 0)
   Carries b 33 2 x ∧ Carries b 35 2 bin ∧ Carries b 37 1 sector) ∧
  (let (x, bin) := body.maxEccentricity.getD (0, 0)
   Carries b 38 2 x ∧ Carries b 40 2 bin) ∧
  (∀ k o, [EvalOutcome.lowEnergy, .noEcho1, .noEcho2, .badOrder, .outOfWindow, .valid][k]? = some o →
    Carries b (42 + 4 * k) 4 (tableGet t.outcomes o.code)) ∧
  (∀ k p, [Placement.noPose, .stalePose, .mismatch, .beforeStart, .counted, .mapped, .lateRing, .outOfMap, .mapFull][k]? =
    some p → Carries b (66 + 4 * k) 4 (tableGet t.placements p.code)) ∧
  CarriesBits b 102 t.headsLost.toList ∧ Carries b 103 2 t.pagesUsed ∧ Carries b 105 2 t.pagesTaken ∧
  Carries b 107 1 t.worstSeen.code

/-- R121, R181: a CAL_RESULT payload. -/
def CalResultLayout (b : List Byte) (c : CalResult) : Prop :=
  Carries b 0 1 c.head.val ∧ Carries b 1 1 c.outcome.code ∧
  CarriesBits b 2 [c.newFactor.isSome, c.measured.isSome, c.spread.isSome, false, false, false, false, false] ∧
  Carries b 3 4 c.oldFactor ∧ Carries b 7 4 (c.newFactor.getD 0) ∧ Carries b 11 2 (c.measured.getD 0) ∧
  Carries b 13 1 c.counted ∧ Carries b 14 2 (c.spread.getD 0) ∧ Carries b 16 4 c.duration

/-- R181: a MAP payload, but for the bytes of the extrapolated marks, whose values are the model's choice (log 34). -/
def MapLayout (b : List Byte) (f : MapFrame) : Prop :=
  wordAt b 0 = f.tubeId ∧ Carries b 2 1 f.segment ∧ Carries b 3 2 f.firstBin ∧ Carries b 5 1 f.sectors ∧
  Carries b 6 2 f.readings ∧
  ∀ (i : Nat) (x : Cell), f.cells[i]? = some x →
    Carries b (8 + 12 * i) 2 x.count ∧ Carries b (10 + 12 * i) 4 (x.sum.getD 0) ∧ Carries b (14 + 12 * i) 2 (x.min.getD 0) ∧
    Carries b (16 + 12 * i) 2 (x.max.getD 0) ∧ Carries b (18 + 12 * i) 1 x.flaws

/-- R166, R182: the items of a detail in the order of its kind's column, each with its size in bytes. -/
def detailItems : Detail → List (Nat × Nat)
  | .link l => [(1, l.code)]
  | .source code => [(1, code.toNat)]
  | .headMissed h missed => [(1, h.val), (4, missed)]
  | .headSequence h sequence => [(1, h.val), (2, sequence.toNat)]
  | .headStates h reported now => [(1, h.val), (1, reported.code), (1, now.code)]
  | .headTube h t => [(1, h.val), (2, t.toNat)]
  | .tube t => [(2, t.toNat)]
  | .time t => [(4, t.toNat)]
  | .headChannel h channel => [(1, h.val), (1, (channel.map Fin.val).getD 255)]
  | .head h => [(1, h.val)]
  | .tubeSegment t n => [(2, t.toNat), (2, n)]
  | .reclaim receiving n losing m => [(2, receiving.toNat), (2, n), (2, losing.toNat), (2, m)]
  | .tubeContext t c => [(2, t.toNat), (1, Ctx.code c)]
  | .frameTube kind t => [(1, kind.toNat), (2, t.toNat)]
  | .frameHead kind h => [(1, kind.toNat), (1, h.val)]
  | .kind k => [(1, k.index.val)]
  | .failure status argument => [(1, status.code), (1, argument)]
  | .tubeHead t h => [(2, t.toNat), (1, h.val)]
  | .headOutcome h o => [(1, h.val), (1, o.code)]
  | .tag t => [(2, t.toNat)]

/-- R168, R181, R182: a NOTICE payload: its detail's items one after another, and 0 in the bytes of the 8 that follow. -/
def NoticeLayout (b : List Byte) (n : Notice) : Prop :=
  let items := (n.detail.map detailItems).getD []
  let before := fun (k : Nat) => ((items.take k).map Prod.fst).sum
  Carries b 0 1 n.cause.code ∧ Carries b 1 1 n.kind.index.val ∧ Carries b 2 1 n.severity.code ∧ longAt b 3 = n.time.getD 0 ∧
  Carries b 7 2 n.count ∧ Carries b 9 1 n.worst.code ∧
  (∀ k size x, items[k]? = some (size, x) → Carries b (10 + before k) size x) ∧
  ∀ i, before items.length ≤ i → i < 8 → byteAt b (10 + i) = 0

end Sys2Proof.Machine

open Sys2Proof Sys2Proof.Machine

/-! ### The machine -/

/-- A step takes the command at the front of the queue and runs `exec` on it with the queue's rest. -/
def Obligations.StepRunsFrontCommand : Prop :=
  ∀ (c : Instr) (rest : List Instr) (s : State), s.pending = c :: rest → step s = exec c { s with pending := rest }

/-- No command but POWER_ON_RESET changes part time, and none changes the model's queue of commands. R144 says the first of
RESTART, of the other requests and of link changes; that no frame, evaluation, expiry or transmission takes part time either
is the model's choice (log 2), and so is that POWER_ON_RESET keeps the queue (log 28). -/
def Obligations.CommandsKeepPartTimeAndTheQueue : Prop :=
  ∀ (c : Instr) (s t : State), exec c s = .next t →
    (c ≠ .powerOnReset → t.headPort.partTime = s.headPort.partTime) ∧ t.pending = s.pending

/-- POWER_ON_RESET returns every block to its power-on state, whose values the rules give (R26, R42, R61, R62, R83, R114, R124
to R126, R133 to R136, R139, R144, R147, R156, R166, R172). That the model's queue stays is the model's choice (log 28), and so
is the empty listing of the page pool (log 14). -/
def Obligations.PowerOnResetRestoresEveryBlock : Prop :=
  (∀ s : State, exec .powerOnReset s = .next { State.reset with pending := s.pending }) ∧
  State.reset.headPort.link = .down ∧ State.reset.headPort.partTime = 0 ∧ State.reset.headPort.markInFlight = none ∧
  State.reset.headPort.counters =
    { received := 0, checkFailures := 0, malformed := 0, partials := 0, linkDowns := 0, marksSent := 0 } ∧
  (∀ h : HeadNo, tableGet State.reset.headPort.heads h =
    { state := .disabled, expected := none, lastTimestamp := none, lastArrival := none, received := 0, gaps := 0,
      duplicates := 0, queueDrops := 0, idleDiscards := 0 }) ∧
  (∀ ch : ChannelNo, tableGet State.reset.headPort.channels ch = { held := none, received := 0, faults := 0 }) ∧
  State.reset.traceQueue = [] ∧ State.reset.evaluator = none ∧
  State.reset.pose =
    { ring := [], feed := .waiting, lastAcceptance := none, waiting := [], presence := .absent, runLength := 0,
      runFirst := none, accepted := 0, orderDiscards := 0, rangeDiscards := 0, silenceExpiries := 0 } ∧
  State.reset.tubes = { a := none, b := none, idCounter := 0, newest := none, retiredA := none, retiredB := none } ∧
  State.reset.wall.free = List.range 384 ∧ State.reset.drain = none ∧
  State.reset.mill.link = .down ∧ State.reset.mill.transmitter = none ∧ State.reset.mill.requestQ = [] ∧
  State.reset.mill.responseQ = [] ∧ State.reset.mill.noticeQ = [] ∧ State.reset.mill.summaryQ = [] ∧
  State.reset.mill.mapQ = [] ∧ State.reset.mill.readingQ = [] ∧ State.reset.mill.mirrorQ = [] ∧
  State.reset.mill.counters =
    { received := 0, checkFailures := 0, malformed := 0, partials := 0, linkDowns := 0, requestDrops := 0,
      sent := Vector.replicate 6 0, dropped := Vector.replicate 6 0, lost := Vector.replicate 6 0 } ∧
  (∀ h : HeadNo, decimationOf State.reset h = { reading := 0, mirror := 0 } ∧
    outputOf State.reset h = { reading := .off, readingN := 2, mirror := .off, mirrorN := 2 } ∧
    tableGet State.reset.agent.calib h = 65536 ∧ snapshotOf State.reset h = .disabled) ∧
  (∀ h : HeadNo, tableGet State.reset.agent.staged.heads h =
    { enabled := 0, chainStart := 0, pairMode := 0, minSep := 1, weakPct := 0, minEnergy := 0, channel := 255,
      angleOffset := 0, axialOffset := 0 }) ∧
  (∀ i : Fin 64, tableGet State.reset.agent.staged.gates i =
    { kind := 0, enabled := 0, placement := 0, anchor := 0, offset := 0, width := 4, threshold := 1, next := 255 }) ∧
  State.reset.agent.staged.velocityCount = 0 ∧
  (∀ i : Fin 16, tableGet State.reset.agent.staged.velocity i = { temperature := 0, velocity := 0 }) ∧
  State.reset.agent.staged.map =
    { sectors := 16, binLen := 500, closeMargin := 200, gapLimit := 2, headZone := 5000, tailZone := 5000,
      windowLow := 1000, windowHigh := 65000, nominal := 20000, fallback := 1150, presenceCount := 2 } ∧
  State.reset.agent.active = none ∧ State.reset.agent.generation = 0 ∧ State.reset.agent.stagedModified = false ∧
  State.reset.agent.applyPending = false ∧ State.reset.agent.mode = .standby ∧ State.reset.agent.run = none ∧
  State.reset.agent.processing = none ∧
  State.reset.agent.timing =
    { headSilence := 20, positionSilence := 10, temperatureStale := 500, settle := 50, calibration := 5000 } ∧
  State.reset.events.capture = none ∧
  (∀ i : Fin 22, (tableGet State.reset.events.records i).flag = false ∧ (tableGet State.reset.events.records i).count = 0 ∧
    (tableGet State.reset.events.records i).report = true ∧ (tableGet State.reset.events.records i).firstTime = none ∧
    (tableGet State.reset.events.records i).lastTime = none) ∧
  (State.reset.events.records.map EventRecord.severity).toList =
    [.note, .note, .note, .note, .note, .degraded, .failed, .degraded, .note, .degraded, .note, .note, .degraded, .degraded,
     .failed, .failed, .note, .degraded, .note, .note, .note, .note]

/-! ### Laws that every step keeps -/

/-- R166: the flag of an event record is set exactly when its count is at least 1, and the times are present exactly then. -/
def Obligations.EventRecordsStayLawful : Prop := ∀ s t : State, EventLaw s → step s = .next t → EventLaw t

/-- R6, R42, R51, R149, R155: no queue, list or ring ever passes its capacity, and a RESPONSE is held only while the RESPONSE
class queue is full. R136, R147, R151: nothing is in transmission on a link that is DOWN. -/
def Obligations.QueuesAndLinksStayLawful : Prop :=
  (∀ s t : State, QueueLaw s → step s = .next t → QueueLaw t) ∧ (∀ s t : State, LinkLaw s → step s = .next t → LinkLaw t)

/-- R83, R86, R95: the 384 pages stay on the free list or in exactly one directory entry, directories stay ordered, and the
Drain Engine stays in agreement with the contexts. -/
def Obligations.PagesAreNeverLostOrShared : Prop := ∀ s t : State, PageLaw s → step s = .next t → PageLaw t

/-- R57, R61, R63, R80: at most one context is ACTIVE, none while presence is ABSENT, both records keep the shape of R61, their
digest lists ascend below the next ring bin. R75: no step leaves a SETTLING context with its settle condition true. R63, R66:
two contexts that are not FREE never hold the same tube id. That is kept by each step whose tube start, if it makes one, does
not come round to the id of an older tube that has outlived the newest: the counter wraps at 65,536 (log 3). -/
def Obligations.TubeContextsStayLawful : Prop :=
  (∀ s t : State, TubeLaw s → step s = .next t → TubeLaw t) ∧
  (∀ s t : State, SettleLaw s → step s = .next t → SettleLaw t) ∧
  (∀ s t : State, IdLaw s →
    (∀ c x, s.tubes.newest = some c → tubeAt s c = none → tubeAt s (otherCtx c) = some x → x.id ≠ s.tubes.idCounter + 1) →
    step s = .next t → IdLaw t) ∧
  (∀ (s : State) (x y : Tube), IdLaw s → s.tubes.a = some x → s.tubes.b = some y → x.id ≠ y.id)

/-- R116, R124, R130, R162, R163: MEASURE has a bank, CALIBRATE has no live tube, a run is RUNNING only in CALIBRATE. -/
def Obligations.ModeStaysLawful : Prop := ∀ s t : State, ModeLaw s → step s = .next t → ModeLaw t

/-- R131, R139, R140: a head is DISABLED exactly when the active bank does not enable it, and its optional fields are present
exactly when it has accepted a trace since it became UNSEEN. -/
def Obligations.HeadRecordsStayLawful : Prop := ∀ s t : State, HeadLaw s → step s = .next t → HeadLaw t

/-- R118, R133 to R135, R152, R153: limits, policies' N, decimation counters and factors stay within their ranges. R9, R24,
R114, R117: so does the run record: its counted number below K, its min and max in the band of its reference, its sum between
the counted number of each. An evaluation tied to the run in progress is of the run's head. -/
def Obligations.TablesAndRunStayInRange : Prop :=
  (∀ s t : State, RangeLaw s → step s = .next t → RangeLaw t) ∧ (∀ s t : State, RunLaw s → step s = .next t → RunLaw t)

/-- The page pool keeps its canonical form (the model's own; R91 gives the cleared cell it leaves unlisted). -/
def Obligations.PoolKeepsCanonicalForm : Prop := ∀ s t : State, PoolLaw s → step s = .next t → PoolLaw t

/-- Every one of these laws holds after power-on reset. -/
def Obligations.EveryLawHoldsAtReset : Prop :=
  EventLaw State.reset ∧ QueueLaw State.reset ∧ LinkLaw State.reset ∧ PageLaw State.reset ∧ TubeLaw State.reset ∧
  SettleLaw State.reset ∧ IdLaw State.reset ∧ ModeLaw State.reset ∧ HeadLaw State.reset ∧ RangeLaw State.reset ∧
  RunLaw State.reset ∧ PoolLaw State.reset

/-! ### Frames as bytes -/

/-- R175 to R178, R180: the frame of every trace with a sample count of 64..2048, of every position report and of every
temperature is read back as it, whatever its fields hold. -/
def Obligations.HeadLinkFramesRoundTrip : Prop :=
  (∀ t : Trace, sampleCountOk t = true → headLinkCommand (traceBytes t) = .traceFrame t) ∧
  (∀ f : PositionFrame, headLinkCommand (positionBytes f) = .positionFrame f) ∧
  (∀ f : TemperatureFrame, headLinkCommand (temperatureBytes f) = .temperatureFrame f)

/-- R175 to R177, R179, R180: the frame of every request of a length that its codes allow is read back as it. -/
def Obligations.MillLinkFramesRoundTrip : Prop :=
  ∀ r : Request, (Instr.requestFrame r).wellFormed = true → millLinkCommand (requestBytes r) = .requestFrame r

/-- R138, R154: whatever bytes arrive, the command read from them is well-formed, and the first test that fails names the
reject. A frame of another size (R176) or another check is rejected for its frame check on either link. Then, on the head link,
a kind that is not TRACE, POSITION or TEMPERATURE; a source that does not suit the kind; a length field or a payload that is not
of the length that the kind requires (R180); and, for TRACE, a head field that is not its source, a sample interval code above
2, or a sample count outside 64..2048. A frame that passes is its fields at their offsets (R178). On the mill link: a kind that
is not REQUEST; a source that is not 0x40; and a length that is not the one required by its operation and table, which are those
of R180; a frame that passes is its fields (R179). (That an operation which names no table has its own length under an undefined
table code is deduced, log 21.) -/
def Obligations.ReceivedBytesGiveWellFormedCommands : Prop :=
  (∀ bytes : List Byte,
    let kind := (byteAt bytes 0).toNat
    let source := byteAt bytes 1
    let declared := (wordAt bytes 2).toNat
    let payload := (bytes.drop 4).take (bytes.length - 6)
    let size := payload.length
    let good := 6 ≤ bytes.length ∧ bytes.length ≤ 4151 ∧ checkOk bytes = true
    let onHead := headLinkCommand bytes
    let onMill := millLinkCommand bytes
    onHead.wellFormed = true ∧ onMill.wellFormed = true ∧
    (¬good → onHead = .headFrameRejected .frameCheck ∧ onMill = .millFrameRejected .frameCheck) ∧
    (good →
      (kind ∉ [1, 2, 3] → onHead = .headFrameRejected (.kind source)) ∧
      ((kind = 1 ∧ 7 < source.toNat) ∨ (kind = 2 ∧ source.toNat ≠ 0x10) ∨
          (kind = 3 ∧ source.toNat ∉ [0x20, 0x21, 0x22, 0x23]) →
        onHead = .headFrameRejected (.source source)) ∧
      (∀ h : HeadNo, kind = 1 → source.toNat = h.val →
        let n := (wordAt payload 9).toNat
        let head := (byteAt payload 0).toNat
        let code := (byteAt payload 1).toNat
        (size < 11 ∨ declared ≠ size ∨ size ≠ 11 + 2 * n → onHead = .headFrameRejected (.length source)) ∧
        (11 ≤ size → declared = size → size = 11 + 2 * n →
          (head ≠ h.val ∨ 2 < code ∨ n < 64 ∨ 2048 < n → onHead = .headFrameRejected (.traceFields h)) ∧
          (head = h.val → code ≤ 2 → 64 ≤ n → n ≤ 2048 →
            ∃ t, onHead = .traceFrame t ∧ t.head = h ∧ Interval.code t.interval = code ∧ t.sequence = wordAt payload 2 ∧
              t.timestamp = longAt payload 4 ∧ t.energy = byteAt payload 8 ∧ t.samples.length = n ∧
              ∀ i, i < n → t.samples[i]? = some (wordAt payload (11 + 2 * i))))) ∧
      (kind = 2 → source.toNat = 0x10 →
        (declared ≠ 13 ∨ size ≠ 13 → onHead = .headFrameRejected (.length source)) ∧
        (declared = 13 → size = 13 →
          onHead = .positionFrame
            { sequence := wordAt payload 0, timestamp := longAt payload 2, angle := wordAt payload 6,
              travel := longAt payload 8, present := (byteAt payload 12).getLsbD 0 })) ∧
      (∀ ch : ChannelNo, kind = 3 → source.toNat = 0x20 + ch.val →
        (declared ≠ 7 ∨ size ≠ 7 → onHead = .headFrameRejected (.length source)) ∧
        (declared = 7 → size = 7 →
          onHead = .temperatureFrame
            { channel := ch, timestamp := longAt payload 0, ok := decide (byteAt payload 4 = 0),
              temperature := wordAt payload 5 })) ∧
      (kind ≠ 0x10 → onMill = .millFrameRejected (.kind source)) ∧
      (kind = 0x10 → source.toNat ≠ 0x40 → onMill = .millFrameRejected (.source source)) ∧
      (kind = 0x10 → source.toNat = 0x40 →
        let required := requiredData (byteAt payload 1) (byteAt payload 2)
        (size < 6 ∨ declared ≠ size ∨ (∃ k, required = some k ∧ size ≠ 6 + k) → onMill = .millFrameRejected .length) ∧
        (6 ≤ size → declared = size → (∀ k, required = some k → size = 6 + k) →
          onMill = .requestFrame
            { tag := byteAt payload 0, operation := byteAt payload 1, table := byteAt payload 2,
              selector := byteAt payload 3, index := wordAt payload 4, data := payload.drop 6 })))) ∧
  (∀ operation table : Byte,
    let op := operation.toNat
    let length := requiredData operation table
    (op ∈ [0, 3] → table.toNat < 16 → length = some 0) ∧ (op ∈ [4, 7, 8, 9] → length = some 0) ∧
    (op = 5 → length = some 1) ∧ (op = 6 → length = some 8) ∧
    (op ∈ [1, 2] →
      (∀ x ∈ [(0, 12), (1, 11), (2, 4), (3, 19), (4, 10), (5, 6), (6, 4), (13, 13)], table.toNat = x.1 → length = some x.2) ∧
      (table.toNat ∈ [7, 8, 9, 10, 11, 12, 14, 15] → length = none)) ∧
    (op < 4 → 16 ≤ table.toNat → length = none) ∧ (10 ≤ op → length = none))

/-- R176: every frame that the part sends, TIME_MARK among them, is its kind, source 0x30, the length of its payload, the
payload and the frame check of all that precedes it. R177, R181, R182: the payloads of READING, MIRROR, RING, TUBE, CAL_RESULT,
NOTICE, MAP and MAP_END have the lengths given and carry each field at its offset, a number that its field can hold as itself,
and an enumerated field by its code. A MIRROR of an evaluated reading has no placement, sector, bin or tube id. R179: a RESPONSE
is its tag, its status and the entry or status data; an entry of the tables with a layout carries each field at its offset.
R127, R177: entry data of a staged table is stored so that a READ returns the very bytes written. (The values of mark and flag
bytes are left unstated: they are the model's choice, log 34; so are the bytes of a number too large for its field, log 13.) -/
def Obligations.SentPayloadsFollowTheLayouts : Prop :=
  (let sealed := fun (bytes : List Byte) (kind : Byte) (payload : List Byte) =>
    ∃ hi lo x y : Byte, bytes = kind :: 0x30#8 :: hi :: lo :: (payload ++ [x, y]) ∧
      hi.toNat * 256 + lo.toNat = payload.length ∧ x ++ y = frameCheck (kind :: 0x30#8 :: hi :: lo :: payload)
   (∀ f : Frame, f.payload.length < 65536 → sealed f.bytes f.kindCode f.payload) ∧
   (∀ t : Time, ∃ payload, payload.length = 4 ∧ longAt payload 0 = t ∧ sealed (timeMarkBytes t) 0x04#8 payload)) ∧
  (∀ r : Reading, let b := (Frame.reading r).payload
    b.length = 38 ∧ ReadingLayout b r) ∧
  (∀ m : MirrorFrame, let b := (Frame.mirror m).payload
    let n := m.trace.samples.length
    b.length = 49 + 2 * n ∧ TraceLayout b m.trace ∧ ReadingLayout (b.drop (11 + 2 * n)) m.reading ∧
    (∀ ev, m.reading = evaluate ev → byteAt b (11 + 2 * n + 30) = 255 ∧
      ∀ i, 5 ≤ i → (byteAt b (11 + 2 * n + 13)).getLsbD i = false)) ∧
  (∀ r : RingRecord, let b := (Frame.summary (.ring r)).payload
    b.length = 29 + 3 * r.means.length ∧ RingLayout b r) ∧
  (∀ t : TubeSummary, let b := (Frame.summary (.tube t)).payload
    b.length = 108 ∧ TubeLayout b t) ∧
  (∀ c : CalResult, let b := (Frame.summary (.calResult c)).payload
    b.length = 20 ∧ CalResultLayout b c) ∧
  (∀ n : Notice, let b := (Frame.notice n).payload
    b.length = 18 ∧ NoticeLayout b n) ∧
  (∀ f : MapFrame, let b := (Frame.map (.page f)).payload
    (f.cells.length = 256 → b.length = 3080) ∧ MapLayout b f) ∧
  (∀ (id : TubeId) (x y : Nat), let b := (Frame.map (.finish id x y)).payload
    b.length = 6 ∧ wordAt b 0 = id ∧ Carries b 2 2 x ∧ Carries b 4 2 y) ∧
  (∀ r : Response, (Frame.response r).payload = r.tag :: BitVec.ofNat 8 r.status.code :: r.data.bytes) ∧
  (∀ e : HeadEntry, let b := (RespData.headEntry e).bytes
    b.length = 12 ∧ byteAt b 0 = e.enabled ∧ byteAt b 1 = e.chainStart ∧ byteAt b 2 = e.pairMode ∧ wordAt b 3 = e.minSep ∧
    byteAt b 5 = e.weakPct ∧ byteAt b 6 = e.minEnergy ∧ byteAt b 7 = e.channel ∧ wordAt b 8 = e.angleOffset ∧
    wordAt b 10 = e.axialOffset) ∧
  (∀ e : GateEntry, let b := (RespData.gateEntry e).bytes
    b.length = 11 ∧ byteAt b 0 = e.kind ∧ byteAt b 1 = e.enabled ∧ byteAt b 2 = e.placement ∧ byteAt b 3 = e.anchor ∧
    wordAt b 4 = e.offset ∧ wordAt b 6 = e.width ∧ wordAt b 8 = e.threshold ∧ byteAt b 10 = e.next) ∧
  (∀ e : VelocityEntry, let b := (RespData.velocityEntry e).bytes
    b.length = 4 ∧ wordAt b 0 = e.temperature ∧ wordAt b 2 = e.velocity) ∧
  (∀ n : BitVec 16, let b := (RespData.velocityCount n).bytes
    b.length = 4 ∧ wordAt b 0 = n ∧ wordAt b 2 = 0) ∧
  (∀ m : MapSetup, let b := (RespData.mapSetup m).bytes
    b.length = 19 ∧ byteAt b 0 = m.sectors ∧ wordAt b 1 = m.binLen ∧ wordAt b 3 = m.closeMargin ∧ byteAt b 5 = m.gapLimit ∧
    wordAt b 6 = m.headZone ∧ wordAt b 8 = m.tailZone ∧ wordAt b 10 = m.windowLow ∧ wordAt b 12 = m.windowHigh ∧
    wordAt b 14 = m.nominal ∧ wordAt b 16 = m.fallback ∧ byteAt b 18 = m.presenceCount) ∧
  (∀ t : Timing, let b := (RespData.timing t).bytes
    b.length = 10 ∧ Carries b 0 2 t.headSilence ∧ Carries b 2 2 t.positionSilence ∧ Carries b 4 2 t.temperatureStale ∧
    Carries b 6 2 t.settle ∧ Carries b 8 2 t.calibration) ∧
  (∀ (e : OutputEntry) (d : Decimation), let b := (RespData.output e d).bytes
    b.length = 6 ∧ Carries b 0 1 e.reading.code ∧ Carries b 1 1 e.readingN ∧ Carries b 2 1 e.mirror.code ∧
    Carries b 3 1 e.mirrorN ∧ Carries b 4 1 d.reading ∧ Carries b 5 1 d.mirror) ∧
  (∀ k : Nat, let b := (RespData.calib k).bytes
    b.length = 4 ∧ Carries b 0 4 k) ∧
  (∀ r : EventRecord, let b := (RespData.event r).bytes
    b.length = 13 ∧ Carries b 0 1 r.severity.code ∧ Carries b 1 1 (if r.report = true then 1 else 0) ∧ Carries b 3 2 r.count ∧
    longAt b 5 = r.firstTime.getD 0 ∧ longAt b 9 = r.lastTime.getD 0) ∧
  (∀ f : CalFields, let b := (RespData.calibration f).bytes
    b.length = 8 ∧ Carries b 0 1 f.head.val ∧ Carries b 1 2 f.reference ∧ Carries b 3 2 f.temperature ∧
    Carries b 5 1 f.traces ∧ Carries b 6 2 f.tolerance) ∧
  (∀ n : Nat, (RespData.generation n).bytes.length = 4 ∧ Carries (RespData.generation n).bytes 0 4 n ∧
    (RespData.argument n).bytes.length = 1 ∧ Carries (RespData.argument n).bytes 0 1 n) ∧
  (∀ d : List Byte,
    (d.length = 12 → (parseHead d).bytes = d) ∧ (d.length = 11 → (parseGate d).bytes = d) ∧
    (d.length = 4 → (parseVelocity d).bytes = d) ∧ (d.length = 19 → (parseMapSetup d).bytes = d)) ∧
  ([EvalOutcome.valid, .lowEnergy, .noEcho1, .noEcho2, .badOrder, .outOfWindow].map (fun o => o.code.val) = List.range 6 ∧
   [Placement.mapped, .lateRing, .counted, .outOfMap, .mapFull, .mismatch, .beforeStart, .noPose, .stalePose, .noTube, .late,
    .calibration].map (fun p => p.code.val) = List.range 12 ∧
   [Interval.ns10, .ns20, .ns40].map Interval.code = [0, 1, 2] ∧ [LinkName.head, .mill].map LinkName.code = [0, 1] ∧
   [Ctx.a, .b].map Ctx.code = [0, 1] ∧ [HeadState.disabled, .unseen, .active, .silent].map HeadState.code = [0, 1, 2, 3] ∧
   [ReadingPolicy.off, .all, .validOnly, .everyN].map ReadingPolicy.code = [0, 1, 2, 3] ∧
   [MirrorPolicy.off, .rejected, .flawed, .everyN].map MirrorPolicy.code = [0, 1, 2, 3] ∧
   [Status.ok, .okClamped, .pending, .accepted, .badTable, .badIndex, .readOnly, .emptyContext, .emptySegment, .busy, .noRecipe,
    .refusedMode, .noHead, .chainInvalid, .velocityInvalid, .mapInvalid].map Status.code = List.range 16 ∧
   [Zone.headEnd, .body].map Zone.code = [0, 1] ∧ [RingStatus.complete, .partialRing, .empty].map RingStatus.code = [0, 1, 2] ∧
   [CloseReason.presenceEnd, .positionLost, .modeChange, .truncated].map CloseReason.code = [0, 1, 2, 3] ∧
   [Condition.clear, .note, .degraded, .failed].map Condition.code = [0, 1, 2, 3] ∧
   [CalOutcome.applied, .unstable, .outOfRange, .timeout, .aborted].map CalOutcome.code = [0, 1, 2, 3, 4] ∧
   [NoticeCause.occurrence, .enable].map NoticeCause.code = [0, 1] ∧
   [Severity.note, .degraded, .failed].map Severity.code = [0, 1, 2] ∧
   [EventKind.linkCheck, .malformed, .seqGap, .duplicate, .headChange, .headLost, .allHeadsLost, .queueOverflow, .positionOrder,
    .positionLost, .tempFallback, .flaw, .mapFull, .mapReclaim, .drainTruncated, .summaryLost, .noticeLost, .recipeRejected,
    .settleTimeout, .lateReading, .calDone, .requestDropped].map (fun k => k.index.val) = List.range 22)

/-! ### Figures -/

/-- R1: a time is not later than another that lies less than 2^31 µs after it, modulo 2^32, and later than every other. R2:
round half up is floor((2n + d) / 2d); round half away from zero gives the nearest integer, and the one of larger magnitude
where the quotient lies exactly halfway. R111 step 2: the square root is the largest integer whose square does not exceed the
number. -/
def Obligations.RoundingAndRootAreAsNamed : Prop :=
  (∀ x y : Time,
    (notLater x y = true ↔ ((y.toNat : Int) - x.toNat) % 4294967296 < 2147483648) ∧
    (laterThan x y = true ↔ ¬notLater x y = true)) ∧
  (∀ n d : Nat, 0 < d → roundHalfUp n d = (2 * n + d) / (2 * d)) ∧
  (∀ n d : Int, d ≠ 0 →
    2 * (n - roundHalfAway n d * d).natAbs ≤ d.natAbs ∧
    (2 * (n - roundHalfAway n d * d).natAbs = d.natAbs → n.natAbs < (roundHalfAway n d * d).natAbs)) ∧
  (∀ n : Nat, isqrt n * isqrt n ≤ n ∧ n < (isqrt n + 1) * (isqrt n + 1))

/-- R13: the envelope is the magnitude of each sample, read from the lower 12 bits of its field. R14, R18, R19: the walk passes
a disabled descriptor over; the result of an enabled gate is recorded against its kind, a later one of an ECHO kind replacing
an earlier, a found FLAW gate setting FLAW and a found peak at an edge EDGE; a kind never met is not evaluated. R15: an
ABSOLUTE gate starts at its offset; a FOLLOW gate at its anchor's peak sample plus the signed offset, and it is not evaluated
while the anchor kind has no found result. The span runs from the start to start + width - 1, clipped to the trace; one that
lies outside it gives not found. R16: within the span `lo`..`hi` a gate is not found when no value reaches its threshold;
otherwise the crossing `c` is the lowest index that does, and the peak `p` is the lowest index of the largest value from `c`
through the lower of `c` + 15 and the span end; the result carries both. R17: its position is 256 `p` plus a fraction: 0 with
EDGE at either end of the trace, otherwise 0 or the rounded quotient held within -128..128. -/
def Obligations.GateSearchFindsThePeak : Prop :=
  (∀ fields : List (BitVec 16), (envelope fields).length = fields.length ∧
    ∀ (i : Nat) (f : BitVec 16), fields[i]? = some f →
      let n := f.toNat % 4096
      (envelope fields)[i]? = some (if n < 2048 then n else 4096 - n)) ∧
  (Walk.start = { echo1 := .notEvaluated, echo2 := .notEvaluated, echo3 := .notEvaluated, flaw := false, edge := false } ∧
   ∀ (env : List Nat) (w : Walk), walkChain env w [] = w ∧
    ∀ (g : GateEntry) (rest : List GateEntry),
      let r := gateResult env w g
      let edge := w.edge || (match r with | .found e => e.edge | .notFound | .notEvaluated => false)
      let goesOn := fun (x : Walk) => walkChain env w (g :: rest) = walkChain env x rest
      (g.enabled.toNat ≠ 1 → goesOn w) ∧
      (g.enabled.toNat = 1 →
        (g.kind.toNat = 0 → goesOn { w with echo1 := r, edge := edge }) ∧
        (g.kind.toNat = 1 → goesOn { w with echo2 := r, edge := edge }) ∧
        (g.kind.toNat = 2 → goesOn { w with echo3 := r, edge := edge }) ∧
        (g.kind.toNat = 3 →
          (∀ e, r = .found e → goesOn { w with flaw := true, edge := edge }) ∧
          ((∀ e, r ≠ .found e) → goesOn { w with edge := edge })))) ∧
  ∀ (env : List Nat) (g : GateEntry), env ≠ [] →
    (∀ start : Int,
      let last : Int := env.length - 1
      let stop : Int := start + g.width.toNat - 1
      (last < start ∨ stop < 0 → searchGate env g start = .notFound) ∧
      (∀ lo hi : Nat, start ≤ last → 0 ≤ stop → (lo : Int) = max start 0 → (hi : Int) = min stop last →
        match searchGate env g start with
        | .notEvaluated => False
        | .notFound => ∀ i, lo ≤ i → i ≤ hi → env.getD i 0 < g.threshold.toNat
        | .found e =>
          let left : Int := env.getD (e.peak - 1) 0
          let peak : Int := env.getD e.peak 0
          let right : Int := env.getD (e.peak + 1) 0
          let d := 2 * (left - 2 * peak + right)
          e.amplitude = env.getD e.peak 0 ∧
          (e.peak = 0 ∨ e.peak = env.length - 1 → e.edge = true ∧ e.position = 256 * (e.peak : Int)) ∧
          (e.peak ≠ 0 → e.peak ≠ env.length - 1 → e.edge = false ∧
            e.position = 256 * (e.peak : Int) +
              (if d = 0 then 0 else max (-128) (min 128 (roundHalfAway (256 * (left - right)) d)))) ∧
          ∃ c, e.crossing = c ∧ lo ≤ c ∧ c ≤ hi ∧ g.threshold.toNat ≤ env.getD c 0 ∧
            (∀ i, lo ≤ i → i < c → env.getD i 0 < g.threshold.toNat) ∧
            c ≤ e.peak ∧ e.peak ≤ min (c + 15) hi ∧
            (∀ i, c ≤ i → i ≤ min (c + 15) hi → env.getD i 0 ≤ env.getD e.peak 0) ∧
            (∀ i, c ≤ i → i < e.peak → env.getD i 0 < env.getD e.peak 0))) ∧
    (∀ w : Walk,
      let anchor := [w.echo1, w.echo2, w.echo3][g.anchor.toNat]?
      (g.placement.toNat = 0 → gateResult env w g = searchGate env g g.offset.toInt) ∧
      (∀ e, g.placement.toNat = 1 → anchor = some (.found e) →
        gateResult env w g = searchGate env g ((e.peak : Int) + g.offset.toInt)) ∧
      (g.placement.toNat = 1 → (∀ e, anchor ≠ some (.found e)) → gateResult env w g = .notEvaluated))

/-- R12: an energy below min_energy gives LOW_ENERGY with no time of flight, no amplitude, no thickness and none of EDGE,
WEAK, FLAW and FALLBACK_PAIR; the temperature used, the effective velocity, TEMP_CLAMP and TEMP_FALLBACK are still given. An
energy at or above min_energy never gives LOW_ENERGY, so a min_energy of 0 admits every trace. -/
def Obligations.LowEnergyEndsTheEvaluation : Prop :=
  ∀ ev : Evaluation,
    (ev.trace.energy.toNat < ev.slice.entry.minEnergy.toNat →
      (evaluate ev).outcome = .lowEnergy ∧ (evaluate ev).delta = none ∧ (evaluate ev).echo1 = none ∧
      (evaluate ev).echo2 = none ∧ (evaluate ev).echo3 = none ∧ (evaluate ev).thickness = none ∧
      (evaluate ev).temperature = ev.slice.temperature ∧
      (evaluate ev).velocity =
        effectiveVelocity (velocityAt ev.slice.entries ev.slice.temperature).1 ev.slice.factor ∧
      (evaluate ev).flags =
        { edge := false, weak := false, flaw := false, fallbackPair := false,
          tempClamp := (velocityAt ev.slice.entries ev.slice.temperature).2, tempFallback := ev.slice.tempFallback,
          saturated := false, extrapolated := false }) ∧
    (ev.slice.entry.minEnergy.toNat ≤ ev.trace.energy.toNat → (evaluate ev).outcome ≠ .lowEnergy)

/-- R24, R34: whatever its outcome, a reading carries its trace's identity, the latched generation and temperature, and the
effective velocity, which is the table's velocity times the latched factor over 65,536, rounded half up. R22, R23, R35 to R38:
what else it carries follows from its outcome: the time of flight from separation on, the thickness from the window stage on;
VALID has both first amplitudes; an ordinary VALID reading lies in its latched window. R18, R20, R21: with both first echoes
found, WEAK compares their amplitudes under weak_pct, and the time of flight is P2 - P1 in PAIR12 and in a PAIR13 that falls
back, with FALLBACK_PAIR then alone, and half of P3 - P1 in PAIR13. R35, R36: past the separation the thickness is the rounded
figure of v_eff, time of flight and sample interval, held at 65,535 with SATURATED. -/
def Obligations.OutcomeDecidesTheFields : Prop :=
  ∀ ev : Evaluation,
    let r := evaluate ev
    (let v := velocityAt ev.slice.entries ev.slice.temperature
     r.head = ev.trace.head ∧ r.sequence = ev.trace.sequence ∧ r.timestamp = ev.trace.timestamp ∧
     r.generation = ev.slice.generation ∧ r.temperature = ev.slice.temperature ∧
     r.velocity = (2 * (v.1 * ev.slice.factor) + 65536) / (2 * 65536) ∧ r.flags.tempClamp = v.2 ∧
     r.flags.tempFallback = ev.slice.tempFallback) ∧
    (r.thickness.isSome = true ↔ r.outcome = .valid ∨ r.outcome = .outOfWindow) ∧
    (r.delta.isSome = true ↔ r.outcome = .valid ∨ r.outcome = .outOfWindow ∨ r.outcome = .badOrder) ∧
    (r.outcome = .valid → r.echo1.isSome = true ∧ r.echo2.isSome = true) ∧
    (∀ d, r.delta = some d → (r.outcome = .badOrder ↔ d < 256 * (ev.slice.entry.minSep.toNat : Int))) ∧
    (∀ d, r.thickness = some d → d ≤ 65535) ∧
    (∀ d, ev.tie = .ordinary → r.thickness = some d →
      (r.outcome = .valid ↔ ev.slice.windowLow ≤ d ∧ d ≤ ev.slice.windowHigh)) ∧
    (ev.tie ≠ .ordinary → r.outcome ≠ .outOfWindow) ∧
    (let w := walkChain (envelope ev.trace.samples) Walk.start ev.slice.chain
     let interval := match ev.trace.interval with | .ns10 => 10 | .ns20 => 20 | .ns40 => 40
     ev.slice.entry.minEnergy.toNat ≤ ev.trace.energy.toNat →
     r.echo1 = w.echo1.echo?.map Echo.amplitude ∧ r.echo2 = w.echo2.echo?.map Echo.amplitude ∧
     r.echo3 = w.echo3.echo?.map Echo.amplitude ∧ r.flags.edge = w.edge ∧ r.flags.flaw = w.flaw ∧
     (w.echo1.echo? = none ∨ w.echo2.echo? = none →
       r.delta = none ∧ r.flags.weak = false ∧ r.flags.fallbackPair = false ∧
       r.outcome = (if w.echo1.echo? = none then .noEcho1 else .noEcho2)) ∧
     (∀ e1 e2, w.echo1.echo? = some e1 → w.echo2.echo? = some e2 →
       r.flags.weak = decide (e2.amplitude * 100 < e1.amplitude * ev.slice.entry.weakPct.toNat) ∧
       (ev.slice.entry.pairMode.toNat = 0 →
         r.delta = some (e2.position - e1.position) ∧ r.flags.fallbackPair = false) ∧
       (∀ e3, ev.slice.entry.pairMode.toNat = 1 → w.echo3.echo? = some e3 →
         r.delta = some (roundHalfAway (e3.position - e1.position) 2) ∧ r.flags.fallbackPair = false) ∧
       (ev.slice.entry.pairMode.toNat = 1 → w.echo3.echo? = none →
         r.delta = some (e2.position - e1.position) ∧ r.flags.fallbackPair = true)) ∧
     (∀ d : Int, r.delta = some d → 256 * (ev.slice.entry.minSep.toNat : Int) ≤ d →
       let raw := roundHalfUp (r.velocity * d.toNat * interval) 512000
       r.thickness = some (min 65535 raw) ∧ r.flags.saturated = decide (65535 < raw)))

/-- R32, R33: over a table of ascending temperatures the velocity is the first entry's at or below its temperature, the last
entry's at or above its own, and in between the interval's figure of R33, which lies between the two velocities; TEMP_CLAMP
marks exactly a temperature strictly outside the table. -/
def Obligations.VelocityFollowsTheTable : Prop :=
  ∀ (l : List VelocityEntry) (t : Nat), (l.map (fun e => e.temperature.toNat)).Pairwise (· < ·) →
    (∀ e, l.head? = some e → t ≤ e.temperature.toNat → (velocityAt l t).1 = e.velocity.toNat) ∧
    (∀ e, l.getLast? = some e → e.temperature.toNat ≤ t → (velocityAt l t).1 = e.velocity.toNat) ∧
    (∀ (i : Nat) (a b : VelocityEntry), l[i]? = some a → l[i + 1]? = some b → a.temperature.toNat ≤ t →
      t < b.temperature.toNat →
      ((velocityAt l t).1 : Int) = a.velocity.toNat +
        roundHalfAway (((b.velocity.toNat : Int) - a.velocity.toNat) * ((t : Int) - a.temperature.toNat))
          ((b.temperature.toNat : Int) - a.temperature.toNat) ∧
      min a.velocity.toNat b.velocity.toNat ≤ (velocityAt l t).1 ∧
      (velocityAt l t).1 ≤ max a.velocity.toNat b.velocity.toNat) ∧
    ((velocityAt l t).2 = true ↔
      l ≠ [] ∧ ((∀ e ∈ l, t < e.temperature.toNat) ∨ (∀ e ∈ l, e.temperature.toNat < t)))

/-- R49: between two samples, and beyond the second for R50, the angle is the first's plus the rounded share of the signed
difference `da` of the two angles, modulo 4096, and the travel the first's plus the rounded share of the difference of the two
travels; times are differences modulo 2^32. At either sample's time this gives that sample's angle and travel, and between
them a travel between theirs. -/
def Obligations.InterpolationMeetsTheSamples : Prop :=
  ∀ x y : Sample, x.timestamp ≠ y.timestamp → x.angle < 4096 → y.angle < 4096 →
    (∀ (t : Time) (da : Int), -2048 ≤ da → da ≤ 2047 → da % 4096 = ((y.angle : Int) - x.angle) % 4096 →
      let elapsed : Int := (t - x.timestamp).toNat
      let span : Int := (y.timestamp - x.timestamp).toNat
      ((poseAt x y t).angle : Int) = (x.angle + roundHalfAway (da * elapsed) span) % 4096 ∧
      (poseAt x y t).travel = x.travel + roundHalfAway (((y.travel : Int) - x.travel) * elapsed) span) ∧
    poseAt x y x.timestamp = { angle := x.angle, travel := x.travel } ∧
    poseAt x y y.timestamp = { angle := y.angle, travel := y.travel } ∧
    (∀ t : Time, (t - x.timestamp).toNat ≤ (y.timestamp - x.timestamp).toNat →
      (poseAt x y t).angle < 4096 ∧ min (x.travel : Int) y.travel ≤ (poseAt x y t).travel ∧
      (poseAt x y t).travel ≤ max (x.travel : Int) y.travel)

/-- R85, R87: a page covers 256/S bins; segment n begins at bin n · (256/S), a bin lies in segment floor(b / (256/S)), and a
sector's cell index is (b - first bin) · S + j. So for each sector count a bin belongs to the segment whose bins take it in,
its cells lie within the page, and no two cells of a tube share a segment and a cell index. -/
def Obligations.CellsOfATubeAreDistinct : Prop :=
  ∀ n ∈ [8, 16, 32, 64], ∀ b j b' j' : Nat, j < n → j' < n →
    segmentOf n b = b / (256 / n) ∧ (∀ k, firstBinOf n k = k * (256 / n)) ∧
    cellIndexOf n b j = b % (256 / n) * n + j ∧
    firstBinOf n (segmentOf n b) ≤ b ∧ b < firstBinOf n (segmentOf n b + 1) ∧ cellIndexOf n b j < 256 ∧
    (segmentOf n b = segmentOf n b' → cellIndexOf n b j = cellIndexOf n b' j' → b = b' ∧ j = j')

/-- R106 to R108, R110 to R113: a ring record reads the cells of its bin: `m` empty ones make it EMPTY at S, COMPLETE up to
gap_limit, PARTIAL above. A sector that counts readings has its measured mean; an empty one of a COMPLETE ring the mean of its
nearest measured neighbours, each weighed by the other's distance; any other is absent. The thin sector and the eccentricity,
from the two harmonic sums over the tables of R110, belong to COMPLETE rings alone. R109: the counted sectors are those with a
measured or filled mean. Where one counts, the ring mean is the sum of their means over their number, rounded half up, and min
and max are given; where none does, all three are absent. The ring min is the least of the counted means, the ring max the
greatest, each with the lowest sector that holds it, and the ring mean lies between them. -/
def Obligations.RingExtremesTakeTheLowestSector : Prop :=
  (∀ (s : State) (t : Tube) (bin : Nat) (time : Time), t.setup.sectors ∈ [8, 16, 32, 64] →
    let n := t.setup.sectors
    let segment := bin * n / 256
    let cells := binCells s t bin
    let r := ringRecord s t bin time
    let m := (cells.filter (fun x => decide (x.count = 0))).length
    let full := fun (j : Nat) (v : Nat) => ∃ x, cells[j]? = some x ∧ x.count ≠ 0 ∧ v = roundHalfUp (x.sum.getD 0) x.count
    let bare := fun (j : Nat) => ∃ x, cells[j]? = some x ∧ x.count = 0
    let counted := countedFrom 0 r.means
    cells.length = n ∧ r.means.length = n ∧
    (dirLookup t.directory segment = none → ∀ j, j < n → bare j) ∧
    (∀ e, dirLookup t.directory segment = some e →
      ∀ j, j < n → cells[j]? = some (readCell s.wall.pool (e.page * 256 + ((bin - segment * (256 / n)) * n + j)))) ∧
    r.status = (if m = n then .empty else if m ≤ t.setup.gapLimit then .complete else .partialRing) ∧
    (∀ j v, full j v → r.means[j]? = some (.measured v)) ∧
    (∀ j, bare j → r.status ≠ .complete → r.means[j]? = some .absent) ∧
    (∀ j a b x1 x2 : Nat, bare j → r.status = .complete →
      1 ≤ a → a < n → full ((j + a) % n) x1 → (∀ i, 1 ≤ i → i < a → bare ((j + i) % n)) →
      1 ≤ b → b < n → full ((j + n - b) % n) x2 → (∀ i, 1 ≤ i → i < b → bare ((j + n - i) % n)) →
      r.means[j]? = some (.filled (roundHalfUp (x1 * b + x2 * a) (a + b)))) ∧
    r.mean = ringMean counted ∧ r.min = ringMin counted ∧ r.max = ringMax counted ∧
    r.thinSector = (if r.status = .complete then r.min.map Prod.snd else none) ∧
    (r.status ≠ .complete → r.eccentricity = none) ∧
    (∀ mean q : Nat, r.status = .complete → r.mean = some mean →
      let value := fun (j : Nat) => (((r.means[j]?).bind SectorMean.value?).getD 0 : Int)
      let a1 := ((List.range n).map (fun j => value j * cosTable (j * (64 / n)))).sum
      let b1 := ((List.range n).map (fun j => value j * sinTable (j * (64 / n)))).sum
      (q : Int) * q ≤ a1 * a1 + b1 * b1 → a1 * a1 + b1 * b1 < ((q : Int) + 1) * (q + 1) →
      r.eccentricity = some (min 65535 (roundHalfUp (20000 * q) (32767 * n * mean)))) ∧
    r.tubeId = t.id ∧ r.bin = bin ∧ r.closeTime = time ∧ r.sectors = n ∧
    r.zone = (if bin * t.setup.binLen < t.setup.headZone then .headEnd else .body) ∧
    r.readings = (cells.map Cell.count).sum ∧ r.flaws = (cells.map Cell.flaws).sum) ∧
  (let w := [32767, 32609, 32137, 31356, 30273, 28898, 27245, 25329, 23170, 20787, 18204, 15446, 12539, 9512, 6393, 3212, 0]
   ∀ (i : Nat) (x : Int), w[i]? = some x →
    cosTable i = x ∧ cosTable (32 - i) = -x ∧ cosTable (32 + i) = -x ∧ (1 ≤ i → cosTable (64 - i) = x) ∧
    (∀ j, j < 64 → sinTable j = cosTable ((j + 48) % 64))) ∧
  ∀ means : List SectorMean,
    let l := countedFrom 0 means
    (∀ v j, (v, j) ∈ l ↔ means[j]? = some (.measured v) ∨ means[j]? = some (.filled v)) ∧
    (l = [] → ringMin l = none ∧ ringMax l = none ∧ ringMean l = none) ∧
    (l ≠ [] → ringMin l ≠ none ∧ ringMax l ≠ none ∧ ringMean l = some (roundHalfUp (l.map Prod.fst).sum l.length)) ∧
    (∀ v j, ringMin l = some (v, j) → (v, j) ∈ l ∧ ∀ p ∈ l, v ≤ p.1 ∧ (p.1 = v → j ≤ p.2)) ∧
    (∀ v j, ringMax l = some (v, j) → (v, j) ∈ l ∧ ∀ p ∈ l, p.1 ≤ v ∧ (p.1 = v → j ≤ p.2)) ∧
    (∀ a b : Nat × Nat, ∀ m : Nat, ringMin l = some a → ringMax l = some b → ringMean l = some m → a.1 ≤ m ∧ m ≤ b.1)

/-- R101 to R105. Closing bin `b` queues its RING frame, or drops it at a full SUMMARY class queue with SUMMARY_LOST, counts
the bin closed, adds a digest entry for a BODY ring that is not EMPTY and makes the next ring bin `b` + 1; no cell changes. An
accepted frame closes, in ascending order, every bin of the ACTIVE tube whose end the lead over all latched heads has passed by
the close margin, within 65,536/S, and no other. The highest bin that settle completion closes to is the highest of which some
cell counts a reading. A truncation closes no ring. -/
def Obligations.RingsCloseInAscendingOrder : Prop :=
  (∀ (s : State) (c : Ctx) (t : Tube) (b : Nat) (time : Time), tubeAt s c = some t →
    let r := ringRecord s t b time
    let u := closeRing c b time s
    ∃ x, tubeAt u c = some x ∧ x.nextRing = b + 1 ∧ x.binsClosed = min 65535 (t.binsClosed + 1) ∧
      x.directory = t.directory ∧ x.stage = t.stage ∧ u.wall = s.wall ∧
      (r.zone = .headEnd ∨ r.status = .empty → x.digest = t.digest) ∧
      (r.zone = .body → r.status ≠ .empty → ∃ e, x.digest = t.digest ++ [e] ∧ e.bin = b ∧ r.mean = some e.mean ∧
        r.min = some (e.min, e.minSector) ∧ r.max = some (e.max, e.maxSector) ∧ e.eccentricity = r.eccentricity) ∧
      (s.mill.summaryQ.length < 32 →
        u.mill = { s.mill with summaryQ := s.mill.summaryQ ++ [.ring r] } ∧ u.events = s.events) ∧
      (s.mill.summaryQ.length = 32 →
        u.mill.summaryQ = s.mill.summaryQ ∧ occurrences u .summaryLost = min 65535 (occurrences s .summaryLost + 1) ∧
        tableGet u.mill.counters.dropped 2 = min 4294967295 (tableGet s.mill.counters.dropped 2 + 1))) ∧
  (∀ (s : State) (f : PositionFrame) (c : Ctx) (t : Tube),
    let passed := fun (b : Nat) => ∀ h ∈ t.heads,
      (((b + 1) * t.setup.binLen + t.setup.closeMargin : Nat) : Int) ≤ (f.travel.toNat : Int) - t.startTravel - h.axialOffset
    s.headPort.link = .up → f.angle.toNat ≤ 4095 → f.travel.toNat ≤ 4000000 →
    (∀ y, newestSample s = some y → laterThan f.timestamp y.timestamp = true) →
    s.pose.presence.agrees f.present = true → s.pose.waiting = [] → activeCtx s = some c → tubeAt s c = some t →
    t.heads ≠ [] → tubeAt s (otherCtx c) = none → s.drain = none →
    ∃ (u : State) (x : Tube) (k : Nat), exec (.positionFrame f) s = .next u ∧ tubeAt u c = some x ∧ x.stage = .active ∧
      x.nextRing = t.nextRing + k ∧
      (∀ b, t.nextRing ≤ b → b < t.nextRing + k → b < 65536 / t.setup.sectors ∧ passed b) ∧
      (t.nextRing + k < 65536 / t.setup.sectors → ¬passed (t.nextRing + k)) ∧
      x.binsClosed = (if k = 0 then t.binsClosed else min 65535 (t.binsClosed + k)) ∧ x.directory = t.directory ∧
      u.wall = s.wall ∧
      (s.mill.summaryQ.length + k ≤ 32 → u.mill.summaryQ = s.mill.summaryQ ++
        (List.range' t.nextRing k).map (fun b => .ring (ringRecord s t b f.timestamp)))) ∧
  (∀ (s : State) (c : Ctx) (t : Tube) (b : Nat), tubeAt s c = some t → t.setup.sectors ∈ [8, 16, 32, 64] → PageLaw s →
    PoolLaw s →
    (highestBin s t = some b ↔
      (∃ x ∈ binCells s t b, x.count ≠ 0) ∧ ∀ d, b < d → ∀ x ∈ binCells s t d, x.count = 0)) ∧
  (∀ (s : State) (c : Ctx) (t : Tube), tubeAt s c = some t →
    (∀ e, t.stage = .settling → t.ended = some e → s.mill.summaryQ.length < 32 →
      (truncate c s).mill.summaryQ = s.mill.summaryQ ++ [.tube (summaryOf t { e with reason := .truncated })]) ∧
    (t.stage = .closedWait ∨ t.stage = .draining → (truncate c s).mill.summaryQ = s.mill.summaryQ))

/-! ### The page pool and the events -/

/-- R70, R92, with their frame: a VALID reading is resolved on a live tube of its own generation, in a segment that has a page;
its cell, and no other cell of the 384 pages, changes, as R92 says. Two ways: an ordinary evaluation completes with a timestamp
between two adjacent samples of a ring of 2 to 16 samples, and the reading, interpolated between those two (R48, R49), leaves
the extrapolated mark as it is; or the reading, within the position silence limit, is extrapolated from the newest two samples,
at completion on a SILENT feed, at completion as the oldest of 32 that wait, at the settle limit or at position silence (R50),
and sets the mark. Where an expiry extrapolates several readings, the cell of each of them has the mark set. -/
def Obligations.ValidReadingUpdatesOneCell : Prop :=
  (∀ (s : State) (ev : Evaluation) (x y : Sample) (c : Ctx) (t : Tube) (d a : Nat),
    let r := evaluate ev
    s.evaluator = some ev → ev.tie = .ordinary → Between x y r.timestamp s →
    InCell s c t r (poseAt x y r.timestamp) d a →
    ∃ u, exec .evaluationCompletion s = .next u ∧ CellTakes r false d a s u) ∧
  (∀ (s : State) (r : Reading) (x y : Sample) (c : Ctx) (t : Tube) (d a : Nat),
    lastTwo s.pose.ring = some (x, y) →
    (r.timestamp - y.timestamp).toNat ≤ s.agent.timing.positionSilence * 1000 →
    InCell s c t r (poseAt x y r.timestamp) d a →
    (ExtrapolatedAtCompletion r y s → ∃ u, exec .evaluationCompletion s = .next u ∧ CellTakes r true d a s u) ∧
    (∀ i, ExtrapolatedAtExpiry i [r] s → ∃ u, exec i s = .next u ∧ CellTakes r true d a s u) ∧
    (∀ i l, ExtrapolatedAtExpiry i l s → r ∈ l → PageLaw s →
      ∃ u, exec i s = .next u ∧ (readCell u.wall.pool a).extrapolated = true))

/-- R69: a time falls in an ACTIVE tube from its start time on, live; in one that is SETTLING from start to end, live; in one
that is CLOSED_WAIT or DRAINING, or in the retired span of a FREE context, from start to end, late; both ends included. R55:
the coordinate is travel less start travel less the head's axial offset, the bin its floor over bin_len, the sector that of the
angle plus the head's offset. R70, R72, R87 to R90, R92: a reading with a pose on an ACTIVE tube is counted there by its
outcome and its placement, and offered with it: MISMATCH, BEFORE_START, COUNTED and OUT_OF_MAP touch no page. A VALID one in a
segment with a page is MAPPED, or LATE_RING below the next ring bin, and counted in its entry. In a segment without one it
takes the head of the free list, cleared; failing that the page of the other context's highest segment, when that context is
CLOSED_WAIT or DRAINING, with MAP_RECLAIM; failing that it is MAP_FULL, with its event, and nothing of the map changes. R70,
R73: a reading with a pose that no span contains is NO_TUBE, and one in the span of a closed tube LATE, with that tube's id and
LATE_READING; both are sent, counted in no tube and change nothing else but by the FLAW and TEMP_FALLBACK that their flags
raise (R25). -/
def Obligations.ReadingIsPlacedAndFindsAPage : Prop :=
  (∀ (s : State) (time : Time),
    (∀ x, spanOf s time = some x → ∃ c, FallsIn s time c x) ∧ (spanOf s time = none → ∀ c x, ¬FallsIn s time c x) ∧
    (∀ c x, FallsIn s time c x → (∀ y, ¬FallsIn s time (otherCtx c) y) → spanOf s time = some x)) ∧
  (∀ (t : Tube) (l : LatchedHead) (angle : Nat) (travel : Int), l ∈ t.heads → (t.heads.map LatchedHead.head).Nodup →
    shellX t l.head travel = travel - t.startTravel - l.axialOffset ∧
    sectorOf t l.head angle = (angle + l.angleOffset) % 4096 * t.setup.sectors / 4096 ∧
    (1 ≤ t.setup.sectors → sectorOf t l.head angle < t.setup.sectors)) ∧
  (∀ (t : Tube) (x : Int), 0 ≤ x → (binOf t x : Int) = x / t.setup.binLen) ∧
  (∀ (s : State) (ev : Evaluation) (x y : Sample),
    let r := evaluate ev
    let idle := s.setEvaluator none
    let sent := fun (u : State) (f : Reading) => u.setMill { u.mill with readingQ := s.mill.readingQ ++ [f] }
    Completing .ordinary ev s → Between x y r.timestamp s → Quiet s → Reporting 1 s →
    (spanOf s r.timestamp = none →
      exec .evaluationCompletion s = .next (withFlagEvents ev (sent idle { r with placement := some .noTube }))) ∧
    (∀ id, spanOf s r.timestamp = some (.late id) →
      exec .evaluationCompletion s =
        .next (withFlagEvents ev (sent (raise .lateReading (.tubeHead id r.head) idle)
          { r with placement := some .late, tubeId := some id })))) ∧
  (∀ (s : State) (ev : Evaluation) (x y : Sample) (c : Ctx) (t : Tube),
    let r := evaluate ev
    let p := poseAt x y r.timestamp
    let coordinate := shellX t r.head p.travel
    let bin := binOf t coordinate
    let sector := sectorOf t r.head p.angle
    let n := segmentOf t.setup.sectors bin
    let onRing : Placement := if t.nextRing ≤ bin then .mapped else .lateRing
    let placed := fun (u : State) (z : Tube) (q : Placement) =>
      z.outcomes = tableSet t.outcomes r.outcome.code (min 4294967295 (tableGet t.outcomes r.outcome.code + 1)) ∧
      z.placements = tableSet t.placements q.code (min 4294967295 (tableGet t.placements q.code + 1)) ∧
      z.nextRing = t.nextRing ∧ z.stage = .active ∧
      ((outputOf s r.head).reading = .all → s.mill.link = .up → s.mill.readingQ.length < 64 →
        ∃ f, u.mill.readingQ = s.mill.readingQ ++ [f] ∧ f.placement = some q ∧ f.tubeId = some t.id ∧
          f.head = r.head ∧ f.timestamp = r.timestamp ∧
          (t.generation = r.generation → 0 ≤ coordinate → f.sector = some sector ∧ f.bin = some bin))
    let untouched := fun (u : State) (z : Tube) =>
      u.wall = s.wall ∧ z.directory = t.directory ∧ z.pagesUsed = t.pagesUsed ∧ z.pagesTaken = t.pagesTaken
    let given := fun (u : State) (z : Tube) (page d : Nat) =>
      dirLookup z.directory n = some { page := page, readings := 1 } ∧
      (∀ m, m ≠ n → dirLookup z.directory m = dirLookup t.directory m) ∧ z.pagesUsed = min 65535 (t.pagesUsed + 1) ∧
      (∀ i, i < 256 → readCell u.wall.pool (page * 256 + i) =
        (if i = cellIndexOf t.setup.sectors bin sector then
          { count := 1, sum := some d, min := some d, max := some d, flaws := if r.flags.flaw = true then 1 else 0,
            extrapolated := false }
         else clearedCell)) ∧
      (∀ a, a / 256 ≠ page → readCell u.wall.pool a = readCell s.wall.pool a)
    s.evaluator = some ev → ev.tie = .ordinary → Between x y r.timestamp s → spanOf s r.timestamp = some (.live c) →
    tubeAt s c = some t → Quiet s → t.setup.sectors ∈ [8, 16, 32, 64] →
    ∃ (u : State) (z : Tube), exec .evaluationCompletion s = .next u ∧ tubeAt u c = some z ∧
      (t.generation ≠ r.generation → placed u z .mismatch ∧ untouched u z) ∧
      (t.generation = r.generation → coordinate < 0 → placed u z .beforeStart ∧ untouched u z) ∧
      (t.generation = r.generation → 0 ≤ coordinate → r.outcome ≠ .valid → placed u z .counted ∧ untouched u z) ∧
      (∀ d, t.generation = r.generation → 0 ≤ coordinate → r.outcome = .valid → r.thickness = some d →
        (256 ≤ n → placed u z .outOfMap ∧ untouched u z) ∧
        (∀ e, n < 256 → dirLookup t.directory n = some e →
          placed u z onRing ∧ u.wall.free = s.wall.free ∧ z.pagesUsed = t.pagesUsed ∧
          dirLookup z.directory n = some { e with readings := min 65535 (e.readings + 1) }) ∧
        (n < 256 → dirLookup t.directory n = none →
          (∀ page rest, s.wall.free = page :: rest →
            placed u z onRing ∧ given u z page d ∧ u.wall.free = rest ∧ z.pagesTaken = t.pagesTaken) ∧
          (∀ (o : Tube) (l : List (Nat × DirEntry)) (m : Nat) (e : DirEntry), s.wall.free = [] →
            tubeAt s (otherCtx c) = some o → o.stage = .closedWait ∨ o.stage = .draining → o.directory = l ++ [(m, e)] →
            placed u z onRing ∧ given u z e.page d ∧ u.wall.free = [] ∧ z.pagesTaken = min 65535 (t.pagesTaken + 1) ∧
            occurrences u .mapReclaim = min 65535 (occurrences s .mapReclaim + 1) ∧
            ∃ v, tubeAt u (otherCtx c) = some v ∧ v.directory = l ∧ v.pagesLost = min 65535 (o.pagesLost + 1)) ∧
          (s.wall.free = [] →
            (∀ o, tubeAt s (otherCtx c) = some o → o.directory = [] ∨ o.stage = .active ∨ o.stage = .settling) →
            placed u z .mapFull ∧ untouched u z ∧
            occurrences u .mapFull = min 65535 (occurrences s .mapFull + 1)))))

/-- R88, R89, R91, R97, with their frame: only the commands in whose step a reading can be placed change a cell; every other
command leaves the whole pool as it is. (POWER_ON_RESET's pool is the model's choice, log 14.) -/
def Obligations.OnlyPlacementsChangeCells : Prop :=
  ∀ (i : Instr) (s t : State), exec i s = .next t → i ≠ .powerOnReset → i ≠ .evaluationCompletion →
    (∀ f, i ≠ .positionFrame f) → i ≠ .positionSilenceExpiry → (∀ c, i ≠ .settleLimitExpiry c) → i ≠ .write →
    i ≠ .exchange → t.wall.pool = s.wall.pool

/-- R167: an occurrence raises the count up to 65,535 and the last time, fills the first time of a record whose count was 0,
and sets the flag; only the occurrence that sets the flag of a record that reports offers a NOTICE, with the record as it then
stands. R149, R167: it joins a NOTICE class queue with room; at a full one it is dropped and counted, and NOTICE_LOST occurs in
its turn, which offers none. R173: an occurrence of severity FAILED fills a RELEASED capture, with the tube id that its detail
names or the ACTIVE tube's where it names none, and counts against a HELD one. R171: a context that is ACTIVE or SETTLING has
its worst condition seen raised to the part's, which is the highest severity among the records whose flag is set, or CLEAR. No
other record and no other block changes. (The model's choices: whether a source code in MALFORMED's detail names the head that
a capture records is left free, log 33; so is which of MAP_RECLAIM's two tubes it takes, log 12; that an occurrence is compared
with the capture before its lost NOTICE's is deduced, log 11.) -/
def Obligations.OccurrenceIsCountedAndNotified : Prop :=
  ∀ (k : EventKind) (d : Detail) (s : State),
    let u := raise k d s
    let before := fun (x : EventKind) => tableGet s.events.records x.index
    let counted := fun (x : EventKind) => { before x with
      flag := true, count := min 65535 ((before x).count + 1), lastTime := some s.headPort.partTime,
      firstTime := if (before x).count = 0 then some s.headPort.partTime else (before x).firstTime }
    let notifies := (before k).flag = false ∧ (before k).report = true ∧ k ≠ .noticeLost
    let lost := notifies ∧ 16 ≤ s.mill.noticeQ.length
    let fails := (before k).severity = .failed
    let lostFails := lost ∧ (before .noticeLost).severity = .failed
    (∀ i : Fin 22, let x := tableGet s.events.records i
      x.flag = true → x.severity.condition.rank ≤ s.events.worst.rank) ∧
    (s.events.worst ≠ .clear → ∃ i : Fin 22, (tableGet s.events.records i).flag = true ∧
      (tableGet s.events.records i).severity.condition = s.events.worst) ∧
    tableGet u.events.records k.index = counted k ∧
    (lost → tableGet u.events.records EventKind.noticeLost.index = counted .noticeLost) ∧
    (∀ i : Fin 22, i ≠ k.index → (lost → i ≠ EventKind.noticeLost.index) →
      tableGet u.events.records i = tableGet s.events.records i) ∧
    (notifies → s.mill.noticeQ.length < 16 →
      u.mill = { s.mill with noticeQ := s.mill.noticeQ ++
        [{ cause := .occurrence, kind := k, severity := (counted k).severity, time := (counted k).firstTime,
           count := (counted k).count, worst := u.events.worst, detail := some d }] }) ∧
    (lost →
      u.mill = { s.mill with counters := { s.mill.counters with
        dropped := tableSet s.mill.counters.dropped 1 (min 4294967295 (tableGet s.mill.counters.dropped 1 + 1)) } }) ∧
    (¬notifies → u.mill = s.mill) ∧
    (¬fails → ¬lostFails → u.events.capture = s.events.capture) ∧
    (s.events.capture = none →
      (fails → ∃ cap, u.events.capture = some cap ∧ Captured cap k d s ∧ (lostFails → cap.overflow = 1) ∧
        (¬lostFails → cap.overflow = 0)) ∧
      (¬fails → lostFails → ∃ cap, u.events.capture = some cap ∧ Captured cap .noticeLost (.kind k) s ∧ cap.overflow = 0)) ∧
    (∀ cap, s.events.capture = some cap →
      (fails → lostFails → u.events.capture = some { cap with overflow := min 255 (cap.overflow + 2) }) ∧
      ((fails ∧ ¬lostFails) ∨ (¬fails ∧ lostFails) →
        u.events.capture = some { cap with overflow := min 255 (cap.overflow + 1) })) ∧
    u.headPort = s.headPort ∧ u.traceQueue = s.traceQueue ∧ u.evaluator = s.evaluator ∧ u.pose = s.pose ∧
    u.wall = s.wall ∧ u.drain = s.drain ∧ u.agent = s.agent ∧ u.events.snapshots = s.events.snapshots ∧
    (∀ c : Ctx, tubeAt u c = (tubeAt s c).map (fun t => { t with
      worstSeen := if t.stage = .active ∨ t.stage = .settling then graver t.worstSeen u.events.worst else t.worstSeen })) ∧
    u.tubes.idCounter = s.tubes.idCounter ∧ u.tubes.newest = s.tubes.newest ∧ u.tubes.retiredA = s.tubes.retiredA ∧
    u.tubes.retiredB = s.tubes.retiredB ∧ u.pending = s.pending

/-! ### The head link: link state, time marks, frames (chapters 2, 3 and 9) -/

/-- R136, R137, R145: a head link that comes UP sends a TIME_MARK of part time now at once; one that goes DOWN cuts off the mark
in transmission and is counted, with the partly received frame; a mark is due 1000 µs after the previous one; a mark sent is
counted. R147, R148, R150, R151: a mill link that comes UP makes the transmission start of that step; one that goes DOWN loses
the frame in transmission, which is counted for its class, and counts the partly received frame; the queues and the request in
processing stay. Nothing else changes. -/
def Obligations.LinksComeAndGo : Prop :=
  (∀ s : State,
    let now := s.headPort.partTime
    let k := s.headPort.counters
    (s.headPort.link = .down →
      exec .headLinkUp s =
        .next (s.setHeadPort { s.headPort with link := .up, lastMark := some now, markInFlight := some now })) ∧
    (∀ cut, s.headPort.link = .up →
      exec (.headLinkDown cut) s =
        .next (s.setHeadPort { s.headPort with
          link := .down, markInFlight := none,
          counters := { k with
            linkDowns := min 4294967295 (k.linkDowns + 1),
            partials := if cut = true then min 4294967295 (k.partials + 1) else k.partials } })) ∧
    (∀ m, s.headPort.link = .up → s.headPort.markInFlight = none → s.headPort.lastMark = some m → 1000 ≤ (now - m).toNat →
      exec .timeMark s = .next (s.setHeadPort { s.headPort with lastMark := some now, markInFlight := some now })) ∧
    (∀ m, s.headPort.markInFlight = some m →
      exec .timeMarkSent s =
        .next (s.setHeadPort { s.headPort with
          markInFlight := none, counters := { k with marksSent := min 4294967295 (k.marksSent + 1) } }))) ∧
  (∀ s : State,
    let k := s.mill.counters
    (s.mill.link = .down → s.mill.transmitter = none → s.mill.responseQ = [] → s.mill.noticeQ = [] →
      s.mill.summaryQ = [] → s.mill.mapQ = [] → s.mill.readingQ = [] → s.mill.mirrorQ = [] →
      exec .millLinkUp s = .next (s.setMill { s.mill with link := .up })) ∧
    (s.mill.link = .down → s.mill.transmitter = none →
      exec .millLinkUp s = exec .transmissionStart (s.setMill { s.mill with link := .up })) ∧
    (∀ cut, s.mill.link = .up → s.mill.transmitter = none →
      exec (.millLinkDown cut) s =
        .next (s.setMill { s.mill with
          link := .down,
          counters := { k with
            linkDowns := min 4294967295 (k.linkDowns + 1),
            partials := if cut = true then min 4294967295 (k.partials + 1) else k.partials } })) ∧
    (∀ cut f, s.mill.link = .up → s.mill.transmitter = some f →
      exec (.millLinkDown cut) s =
        .next (s.setMill { s.mill with
          link := .down, transmitter := none,
          counters := { k with
            linkDowns := min 4294967295 (k.linkDowns + 1),
            partials := if cut = true then min 4294967295 (k.partials + 1) else k.partials,
            lost := tableSet k.lost f.cls (min 4294967295 (tableGet k.lost f.cls + 1)) } })))

/-- R137, R142, R143: where the mode and the run admit the head's traces and the Trace Queue has room, a trace of an ACTIVE
head that carries the expected sequence joins the queue's tail and renews the head's record; one that skips `g` numbers,
1..32,767, is counted in the gap count and raises SEQ_GAP first; a trace of an UNSEEN head, whatever its sequence, or of a
SILENT head with the expected one makes the head ACTIVE. R172: ACTIVE is then compared with the head's snapshot, and where they
differ HEAD_CHANGE occurs, with the head, the snapshot and ACTIVE as its detail; the snapshot stays. -/
def Obligations.AcceptedTraceJoinsTheQueue : Prop :=
  ∀ (t : Trace) (s : State),
    let r := tableGet s.headPort.heads t.head
    let renewed := fun (x : HeadRecord) => { x with
      state := .active, expected := some (t.sequence + 1), lastTimestamp := some t.timestamp,
      lastArrival := some s.headPort.partTime, received := min 4294967295 (r.received + 1) }
    s.headPort.link = .up → sampleCountOk t = true → Admitting t.head s → s.traceQueue.length < 48 → Quiet s →
    (r.state = .active → r.expected = some t.sequence →
      exec (.traceFrame t) s =
        .next ((s.setHeadPort { received s with heads := tableSet s.headPort.heads t.head (renewed r) }).setTraceQueue
          (s.traceQueue ++ [t]))) ∧
    (∀ e, r.state = .active → r.expected = some e → 0 < (t.sequence - e).toNat → (t.sequence - e).toNat < 32768 →
      ∃ u, exec (.traceFrame t) s = .next u ∧ u.traceQueue = s.traceQueue ++ [t] ∧
        u.headPort = { received s with
          heads := tableSet s.headPort.heads t.head
            { renewed r with gaps := min 4294967295 (r.gaps + (t.sequence - e).toNat) } } ∧
        u.events = (raise .seqGap (.headMissed t.head (t.sequence - e).toNat) s).events ∧
        u.mill = (raise .seqGap (.headMissed t.head (t.sequence - e).toNat) s).mill ∧
        u.tubes = (raise .seqGap (.headMissed t.head (t.sequence - e).toNat) s).tubes ∧
        u.evaluator = s.evaluator ∧ u.pose = s.pose ∧ u.wall = s.wall ∧ u.drain = s.drain ∧ u.agent = s.agent) ∧
    (r.state = .unseen ∨ (r.state = .silent ∧ r.expected = some t.sequence) →
      exec (.traceFrame t) s =
        .next ((withHeadChange t.head .active
          (s.setHeadPort { received s with heads := tableSet s.headPort.heads t.head (renewed r) })).setTraceQueue
            (s.traceQueue ++ [t])))

/-- R142, R143: a repeated or backward sequence is discarded with its count and DUPLICATE; a trace of a DISABLED head and an
accepted trace that the mode and the run do not admit are idle discards; a trace that finds the Trace Queue full is dropped,
with its count and QUEUE_OVERFLOW, while its head's record is renewed. No other head's record changes and no trace joins the
queue. (That the received count of a DISABLED head, and of a head whose trace is a duplicate, counts the trace is deduced: log
25.) -/
def Obligations.TraceThatIsNotAdmitted : Prop :=
  ∀ (t : Trace) (s : State),
    let r := tableGet s.headPort.heads t.head
    let counted := { r with received := min 4294967295 (r.received + 1) }
    let renewed := { counted with
      state := .active, expected := some (t.sequence + 1), lastTimestamp := some t.timestamp,
      lastArrival := some s.headPort.partTime }
    let put := fun (x : HeadRecord) => s.setHeadPort { received s with heads := tableSet s.headPort.heads t.head x }
    s.headPort.link = .up → sampleCountOk t = true →
    (∀ e, (r.state = .active ∨ r.state = .silent) → r.expected = some e → 32768 ≤ (t.sequence - e).toNat →
      exec (.traceFrame t) s =
        .next (raise .duplicate (.headSequence t.head t.sequence)
          (put { counted with duplicates := min 4294967295 (r.duplicates + 1) }))) ∧
    (r.state = .disabled →
      exec (.traceFrame t) s = .next (put { counted with idleDiscards := min 4294967295 (r.idleDiscards + 1) })) ∧
    (r.state = .active → r.expected = some t.sequence → ¬Admitting t.head s → Quiet s →
      exec (.traceFrame t) s = .next (put { renewed with idleDiscards := min 4294967295 (r.idleDiscards + 1) })) ∧
    (r.state = .active → r.expected = some t.sequence → Admitting t.head s → s.traceQueue.length = 48 → Quiet s →
      exec (.traceFrame t) s =
        .next (raise .queueOverflow (.headSequence t.head t.sequence)
          (put { renewed with queueDrops := min 4294967295 (r.queueDrops + 1) })))

/-- R137, R138: a frame that fails a test is counted as received and by the test it failed first, raises LINK_CHECK or
MALFORMED with its detail, and reaches no block; only a TRACE frame whose fields are out of range counts for its head. On the
mill link the same holds under R148 and R154. -/
def Obligations.RejectedFramesAreCounted : Prop :=
  ∀ s : State,
    let k := (received s).counters
    let m := { s.mill.counters with received := min 4294967295 (s.mill.counters.received + 1) }
    let bad := { received s with counters := { k with malformed := min 4294967295 (k.malformed + 1) } }
    let badMill := s.setMill { s.mill with counters := { m with malformed := min 4294967295 (m.malformed + 1) } }
    (s.headPort.link = .up →
      exec (.headFrameRejected .frameCheck) s =
        .next (raise .linkCheck (.link .head)
          (s.setHeadPort { received s with counters := { k with checkFailures := min 4294967295 (k.checkFailures + 1) } })) ∧
      (∀ src : Byte,
        exec (.headFrameRejected (.kind src)) s = .next (raise .malformed (.source src) (s.setHeadPort bad)) ∧
        exec (.headFrameRejected (.source src)) s = .next (raise .malformed (.source src) (s.setHeadPort bad)) ∧
        exec (.headFrameRejected (.length src)) s = .next (raise .malformed (.source src) (s.setHeadPort bad))) ∧
      (∀ h : HeadNo,
        exec (.headFrameRejected (.traceFields h)) s =
          .next (raise .malformed (.source (BitVec.ofNat 8 h.val))
            (s.setHeadPort { bad with
              heads := tableSet s.headPort.heads h { tableGet s.headPort.heads h with
                received := min 4294967295 ((tableGet s.headPort.heads h).received + 1) } })))) ∧
    (s.mill.link = .up →
      exec (.millFrameRejected .frameCheck) s =
        .next (raise .linkCheck (.link .mill)
          (s.setMill { s.mill with counters := { m with checkFailures := min 4294967295 (m.checkFailures + 1) } })) ∧
      (∀ src : Byte,
        exec (.millFrameRejected (.kind src)) s = .next (raise .malformed (.source src) badMill) ∧
        exec (.millFrameRejected (.source src)) s = .next (raise .malformed (.source src) badMill)) ∧
      exec (.millFrameRejected .length) s = .next (raise .malformed (.source 0x40) badMill))

/-- R27, R28: a TEMPERATURE frame with status OK and a temperature of at most 1600 is held with both times and counted, any
other is refused and counted as a fault; a held temperature is dropped when its age reaches 2^31 µs, the counts kept. The
other channels keep their records. -/
def Obligations.TemperatureRecords : Prop :=
  ∀ s : State,
    (∀ f : TemperatureFrame, s.headPort.link = .up →
      let r := tableGet s.headPort.channels f.channel
      (f.ok = true → f.temperature.toNat ≤ 1600 →
        exec (.temperatureFrame f) s =
          .next (s.setHeadPort { received s with
            channels := tableSet s.headPort.channels f.channel
              { held := some { temperature := f.temperature.toNat, arrival := s.headPort.partTime, reported := f.timestamp },
                received := min 65535 (r.received + 1), faults := r.faults } })) ∧
      (f.ok = false ∨ 1600 < f.temperature.toNat →
        exec (.temperatureFrame f) s =
          .next (s.setHeadPort { received s with
            channels := tableSet s.headPort.channels f.channel { r with faults := min 65535 (r.faults + 1) } }))) ∧
    (∀ (ch : ChannelNo) (x : HeldTemperature), (tableGet s.headPort.channels ch).held = some x →
      2147483648 ≤ (s.headPort.partTime - x.arrival).toNat →
        exec (.tempRecordExpiry ch) s =
          .next (s.setHeadPort { s.headPort with
            channels := tableSet s.headPort.channels ch { tableGet s.headPort.channels ch with held := none } }))

/-- R43 to R46: a POSITION frame out of range or not later than the newest sample is discarded with its count and event; an
accepted one, with no reading pending and both contexts FREE, joins the ring, of which the newest 16 samples stay, and restarts
the silence timer. R57: one that agrees with the presence state resets the presence run; one that disagrees begins it, its time
and travel recorded as the first frame, or makes it one longer, up to 8. A run below presence_count, 2 while the active bank is
EMPTY, stands so; one that reaches it changes the presence state and is reset (R58, R59: no tube starts outside MEASURE, and
none ends where none is ACTIVE). Nothing else changes. -/
def Obligations.PositionFrameIsJudgedAndJoins : Prop :=
  (∀ (p : PoseTracker) (x : Sample),
    (p.presence.agrees x.present = true ↔ (p.presence = .present ↔ x.present = true)) ∧
    (p.presence.agrees x.present = true → p.advanceRun x = { p with runLength := 0, runFirst := none }) ∧
    (p.presence.agrees x.present = false → p.runLength = 0 →
      p.advanceRun x = { p with runLength := 1, runFirst := some { timestamp := x.timestamp, travel := x.travel } }) ∧
    (p.presence.agrees x.present = false → 1 ≤ p.runLength →
      p.advanceRun x = { p with runLength := min 8 (p.runLength + 1) })) ∧
  ∀ (f : PositionFrame) (s : State), s.headPort.link = .up →
    (4095 < f.angle.toNat ∨ 4000000 < f.travel.toNat →
      exec (.positionFrame f) s =
        .next (raise .malformed (.source 0x10)
          ((s.setHeadPort (received s)).setPose { s.pose with rangeDiscards := min 65535 (s.pose.rangeDiscards + 1) }))) ∧
    (∀ y, f.angle.toNat ≤ 4095 → f.travel.toNat ≤ 4000000 → newestSample s = some y →
      laterThan f.timestamp y.timestamp = false →
      exec (.positionFrame f) s =
        .next (raise .positionOrder (.time f.timestamp)
          ((s.setHeadPort (received s)).setPose { s.pose with orderDiscards := min 65535 (s.pose.orderDiscards + 1) }))) ∧
    (f.angle.toNat ≤ 4095 → f.travel.toNat ≤ 4000000 →
      (∀ y, newestSample s = some y → laterThan f.timestamp y.timestamp = true) →
      s.pose.waiting = [] → s.tubes.a = none → s.tubes.b = none → s.drain = none → s.pose.ring.length ≤ 16 →
      let joins := fun (presence : Presence) (length : Nat) (first : Option RunFirst) =>
        exec (.positionFrame f) s =
          .next ((s.setHeadPort (received s)).setPose { s.pose with
            ring := (s.pose.ring ++ [sampleOf f]).drop (s.pose.ring.length - 15),
            accepted := min 65535 (s.pose.accepted + 1), feed := .live, lastAcceptance := some s.headPort.partTime,
            presence := presence, runLength := length, runFirst := first })
      let count := (s.agent.active.map (fun b => b.map.presenceCount.toNat)).getD 2
      let length := if s.pose.runLength = 0 then 1 else min 8 (s.pose.runLength + 1)
      let first := if s.pose.runLength = 0 then some { timestamp := f.timestamp, travel := f.travel.toNat } else s.pose.runFirst
      (s.pose.presence.agrees f.present = true → joins s.pose.presence 0 none) ∧
      (s.pose.presence.agrees f.present = false → length < count → joins s.pose.presence length first) ∧
      (f.present = true → s.pose.presence = .absent → count ≤ length → s.agent.mode ≠ .measure → joins .present 0 none) ∧
      (f.present = false → s.pose.presence = .present → count ≤ length → joins .absent 0 none))

/-- R57, R58, R64, R66: in MEASURE, with no run in progress and no reading waiting, the accepted frame with which the run of
present frames reaches presence_count starts a tube in the context R64 chooses. R132: an apply that is pending is carried out
first when the staged bank passes and the generation is not the last; otherwise RECIPE_REJECTED occurs with the failure; its
flag clears either way. The tube becomes ACTIVE with the next tube id, the first frame's time and travel, the generation, the
map setup and the enabled heads of the bank then active, an empty directory and no retired span; presence becomes PRESENT.
R65: with neither context FREE the older is truncated first: its pages go to the tail of the free list in ascending segment
order, before any that the other context's drain frees in the step, the Drain Engine no longer holds it, and DRAIN_TRUNCATED
occurs with its tube id and context; the frames already in the MAP class queue stay. -/
def Obligations.PresenceRunStartsATube : Prop :=
  ∀ (f : PositionFrame) (s : State) (b : Bank) (rf : RunFirst),
    let run := s.pose.advanceRun (sampleOf f)
    let c := chooseCtx s
    let applied := s.agent.applyPending && (validate s.agent.staged).isNone && s.agent.generation != 4294967295
    let bank := if applied = true then s.agent.staged else b
    let generation := if applied = true then s.agent.generation + 1 else s.agent.generation
    s.headPort.link = .up → f.angle.toNat ≤ 4095 → f.travel.toNat ≤ 4000000 →
    (∀ y, newestSample s = some y → laterThan f.timestamp y.timestamp = true) →
    s.pose.presence = .absent → f.present = true → run.runFirst = some rf → 1 ≤ run.runLength →
    b.map.presenceCount.toNat ≤ run.runLength → s.pose.waiting = [] → s.agent.mode = .measure → s.agent.run = none →
    s.agent.active = some b → PageLaw s → TubeLaw s →
    ∃ (u : State) (x : Tube), exec (.positionFrame f) s = .next u ∧ tubeAt u c = some x ∧ x.stage = .active ∧
      x.id = s.tubes.idCounter + 1 ∧ x.startTime = rf.timestamp ∧ x.startTravel = rf.travel ∧ x.ended = none ∧
      x.generation = generation ∧ x.setup = mapCopyOf bank.map ∧ x.heads = latchHeads bank ∧ x.directory = [] ∧
      u.tubes.idCounter = s.tubes.idCounter + 1 ∧ u.tubes.newest = some c ∧ u.tubes.retired c = none ∧
      u.pose.presence = .present ∧ u.pose.runLength = 0 ∧
      u.agent = { s.agent with
        active := some bank, generation := generation,
        stagedModified := if applied = true then false else s.agent.stagedModified, applyPending := false } ∧
      occurrences u .recipeRejected =
        (if s.agent.applyPending = true ∧ applied = false then min 65535 (occurrences s .recipeRejected + 1)
         else occurrences s .recipeRejected) ∧
      (∀ code argument, s.agent.applyPending = true →
        validate s.agent.staged = some { code := code, argument := argument } ∨
          (validate s.agent.staged = none ∧ s.agent.generation = 4294967295 ∧ code = .busy ∧ argument = 255) →
        (tableGet s.events.records EventKind.recipeRejected.index).flag = false →
        (tableGet s.events.records EventKind.recipeRejected.index).report = true → s.mill.noticeQ.length < 16 →
        ∃ n ∈ u.mill.noticeQ, n.kind = .recipeRejected ∧ n.detail = some (.failure code argument)) ∧
      (tubeAt s c = none → occurrences u .drainTruncated = occurrences s .drainTruncated) ∧
      (∀ o, tubeAt s c = some o →
        (∃ pages frames, u.wall.free = s.wall.free ++ o.directory.map (fun e => e.2.page) ++ pages ∧
          u.mill.mapQ = s.mill.mapQ ++ frames ∧ (4 ≤ s.mill.mapQ.length → pages = [] ∧ frames = [])) ∧
        (∀ g, u.drain = some g → g.ctx = otherCtx c) ∧
        occurrences u .drainTruncated = min 65535 (occurrences s .drainTruncated + 1) ∧
        ((tableGet s.events.records EventKind.drainTruncated.index).flag = false →
          (tableGet s.events.records EventKind.drainTruncated.index).report = true → s.mill.noticeQ.length < 12 →
          ∃ n ∈ u.mill.noticeQ, n.kind = .drainTruncated ∧ n.detail = some (.tubeContext o.id c))) ∧
      (s.tubes.a = none → c = .a) ∧ (s.tubes.a ≠ none → s.tubes.b = none → c = .b) ∧
      (∀ n, s.tubes.a ≠ none → s.tubes.b ≠ none → s.tubes.newest = some n → c = otherCtx n)

/-- R57, R59, R67, R74: the accepted frame with which the run of absent frames reaches presence_count ends the ACTIVE tube at
the run's first frame. While a trace of the tube is still in the Trace Queue the context stays SETTLING, with the end time and
travel, the length, PRESENCE_END and part time now as its settle entry time. -/
def Obligations.AbsenceRunEndsTheTube : Prop :=
  ∀ (f : PositionFrame) (s : State) (b : Bank) (rf : RunFirst) (c : Ctx) (x : Tube) (y : Trace),
    let run := s.pose.advanceRun (sampleOf f)
    s.headPort.link = .up → f.angle.toNat ≤ 4095 → f.travel.toNat ≤ 4000000 →
    (∀ z, newestSample s = some z → laterThan f.timestamp z.timestamp = true) →
    s.pose.presence = .present → f.present = false → run.runFirst = some rf → 1 ≤ run.runLength →
    s.agent.active = some b → b.map.presenceCount.toNat ≤ run.runLength → s.pose.waiting = [] → TubeLaw s → PageLaw s →
    tubeAt s c = some x → x.stage = .active → y ∈ s.traceQueue → laterThan y.timestamp rf.timestamp = false →
    ∃ (u : State) (z : Tube), exec (.positionFrame f) s = .next u ∧ tubeAt u c = some z ∧ z.stage = .settling ∧
      z.ended = some { time := rf.timestamp, travel := rf.travel, length := rf.travel - x.startTravel,
                       reason := .presenceEnd } ∧
      z.settleEntry = some s.headPort.partTime ∧ z.id = x.id ∧ z.directory = x.directory ∧ u.pose.presence = .absent ∧
      u.traceQueue = s.traceQueue

/-! ### Expiries -/

/-- R141, R172: a head whose silence timer is due becomes SILENT, whatever the contexts hold, and no other head changes. SILENT
is compared with the head's snapshot: where they differ HEAD_CHANGE occurs, with the head, the snapshot and SILENT as its
detail. With no context ACTIVE or SETTLING, nothing else happens. With context `c` ACTIVE, the head joins its heads-lost set
and HEAD_LOST occurs; when every enabled head is then SILENT, ALL_HEADS_LOST occurs. No command but READ, RESTART and
POWER_ON_RESET changes a snapshot. -/
def Obligations.HeadSilenceExpires : Prop :=
  (∀ (i : Instr) (s t : State), exec i s = .next t → i ≠ .read → i ≠ .restart → i ≠ .powerOnReset →
    t.events.snapshots = s.events.snapshots) ∧
  ∀ (h : HeadNo) (s : State) (t : Time),
    let r := tableGet s.headPort.heads h
    let silenced := s.setHeadPort { s.headPort with heads := tableSet s.headPort.heads h { r with state := .silent } }
    let count := fun (x : State) (k : EventKind) => (tableGet x.events.records k.index).count
    r.state = .active → r.lastArrival = some t →
    s.agent.timing.headSilence * 1000 ≤ (s.headPort.partTime - t).toNat →
    (∃ u, exec (.headSilenceExpiry h) s = .next u ∧ u.headPort = silenced.headPort) ∧
    (tubeLive s = false → exec (.headSilenceExpiry h) s = .next (withHeadChange h .silent silenced)) ∧
    (∀ (c : Ctx) (x : Tube), PageLaw s → activeCtx s = some c → tubeAt s c = some x →
      ∃ (u : State) (y : Tube), exec (.headSilenceExpiry h) s = .next u ∧ headStateOf u h = .silent ∧
        tubeAt u c = some y ∧ y.stage = .active ∧ y.headsLost = tableSet x.headsLost h true ∧
        count u .headLost = min 65535 (count s .headLost + 1) ∧
        count u .headChange =
          (if snapshotOf s h = .silent then count s .headChange else min 65535 (count s .headChange + 1)) ∧
        ((∀ g : HeadNo, headEnabled s g = true → headStateOf silenced g = .silent) →
          count u .allHeadsLost = min 65535 (count s .allHeadsLost + 1)) ∧
        (∀ g : HeadNo, headEnabled s g = true → headStateOf silenced g ≠ .silent →
          count u .allHeadsLost = count s .allHeadsLost))

/-- R46, R47: the position silence timer, LIVE and due, expires: the feed becomes SILENT, the pending list is empty, the
presence run is reset and the presence state kept. With both contexts FREE and nothing pending, nothing else changes. An ACTIVE
tube is ended, so that no context is ACTIVE any more, and POSITION_LOST occurs: its end time and travel are those of the newest
sample, its length follows and its close reason is POSITION_LOST. It stays SETTLING while a trace of it is queued; and where its
settling completes in the step, with the MAP class queue full, it still stands so. -/
def Obligations.PositionSilenceExpires : Prop :=
  ∀ (s : State) (t : Time),
    let count := fun (x : State) => (tableGet x.events.records EventKind.positionLost.index).count
    s.pose.feed = .live → s.pose.lastAcceptance = some t →
    s.agent.timing.positionSilence * 1000 ≤ (s.headPort.partTime - t).toNat →
    (s.tubes.a = none → s.tubes.b = none → s.pose.waiting = [] →
      exec .positionSilenceExpiry s =
        .next (s.setPose { s.pose with
          feed := .silent, silenceExpiries := min 65535 (s.pose.silenceExpiries + 1), runLength := 0,
          runFirst := none })) ∧
    (∀ (c : Ctx) (y : Sample), TubeLaw s → activeCtx s = some c → newestSample s = some y →
      ∃ u, exec .positionSilenceExpiry s = .next u ∧ u.pose.feed = .silent ∧ u.pose.waiting = [] ∧
        u.pose.silenceExpiries = min 65535 (s.pose.silenceExpiries + 1) ∧ u.pose.runLength = 0 ∧
        u.pose.runFirst = none ∧ u.pose.presence = s.pose.presence ∧ u.pose.ring = s.pose.ring ∧ activeCtx u = none ∧
        count u = min 65535 (count s + 1) ∧
        (∀ x, PageLaw s → tubeAt s c = some x →
          let lost : TubeEnd :=
            { time := y.timestamp, travel := y.travel, length := y.travel - x.startTravel, reason := .positionLost }
          (4 ≤ s.mill.mapQ.length → ∃ z, tubeAt u c = some z ∧ z.id = x.id ∧ z.ended = some lost) ∧
          (∀ tr ∈ s.traceQueue, laterThan tr.timestamp y.timestamp = false →
            ∃ z, tubeAt u c = some z ∧ z.id = x.id ∧ z.stage = .settling ∧ z.settleEntry = some s.headPort.partTime ∧
              z.ended = some lost)))

/-- R79, R80: the TUBE frame carries the figures of the context's record; the tail boundary bin is floor((length - tail_zone) /
bin_len), 0 below tail_zone; the body rings are the digest entries below it. Their number is given, and, where there is one,
the rounded mean of their means and the lowest min and highest max with bin and sector; where one has an eccentricity, the
highest with its bin; the lowest bin where several share an extreme, and a figure absent otherwise. R74: the settle condition
holds when no trace queued or in evaluation and no pending reading is as early as the end time and every latched head that is
ACTIVE has a last timestamp later than it. R75 to R79, R95, R96: a SETTLING context whose settle condition holds queues its
TUBE frame and becomes CLOSED_WAIT, and the free Drain Engine takes it in the same step, waiting where the MAP class queue is
full. R104: where its highest bin with data lies at or above the next ring bin, the `n` rings up to and including that bin are
closed first, in ascending order, their RING frames before the TUBE frame; where no data lies beyond its closed rings, nothing
else changes. At its settle limit SETTLE_TIMEOUT occurs first, and settling completes in the same way whatever the settle
condition says. -/
def Obligations.SettlingCompletes : Prop :=
  (∀ (t : Tube) (e : TubeEnd), (t.digest.map DigestEntry.bin).Pairwise (· < ·) →
    let m := summaryOf t e
    let body := t.digest.filter (fun d => decide (d.bin < m.tailBin))
    (m.tubeId = t.id ∧ m.startTime = t.startTime ∧ m.endTime = e.time ∧ m.length = e.length ∧ m.reason = e.reason ∧
      m.generation = t.generation ∧ m.binsClosed = t.binsClosed ∧ m.outcomes = t.outcomes ∧ m.placements = t.placements ∧
      m.headsLost = t.headsLost ∧ m.pagesUsed = t.pagesUsed ∧ m.pagesTaken = t.pagesTaken ∧ m.worstSeen = t.worstSeen) ∧
    m.tailBin = (if e.length < t.setup.tailZone then 0 else (e.length - t.setup.tailZone) / t.setup.binLen) ∧
    m.body.count = body.length ∧
    (body = [] → m.body.mean = none ∧ m.body.min = none ∧ m.body.max = none) ∧
    (body ≠ [] →
      m.body.mean = some (roundHalfUp (body.map DigestEntry.mean).sum body.length) ∧
      (∃ d ∈ body, m.body.min = some (d.min, d.bin, d.minSector) ∧
        ∀ x ∈ body, d.min ≤ x.min ∧ (x.min = d.min → d.bin ≤ x.bin)) ∧
      (∃ d ∈ body, m.body.max = some (d.max, d.bin, d.maxSector) ∧
        ∀ x ∈ body, x.max ≤ d.max ∧ (x.max = d.max → d.bin ≤ x.bin))) ∧
    ((∀ d ∈ body, d.eccentricity = none) → m.body.maxEccentricity = none) ∧
    ((∃ d ∈ body, d.eccentricity ≠ none) →
      ∃ d ∈ body, ∃ v, d.eccentricity = some v ∧ m.body.maxEccentricity = some (v, d.bin) ∧
        ∀ x ∈ body, ∀ w, x.eccentricity = some w → w ≤ v ∧ (w = v → d.bin ≤ x.bin))) ∧
  (∀ (s : State) (t : Tube) (time : Time),
    settleCondition s t time = true ↔
      (∀ x ∈ s.traceQueue, notLater x.timestamp time = false) ∧
      (∀ ev, s.evaluator = some ev → laterThan ev.trace.timestamp time = true) ∧
      (∀ r ∈ s.pose.waiting, notLater r.timestamp time = false) ∧
      (∀ h ∈ t.heads, headStateOf s h.head = .active →
        ∃ last, (tableGet s.headPort.heads h.head).lastTimestamp = some last ∧ laterThan last time = true)) ∧
  ∀ (s : State) (c : Ctx) (t : Tube) (e : TubeEnd) (n : Nat),
    let closed := fun (u : State) (x : Tube) =>
      tubeAt u c = some x ∧ x.stage = .draining ∧ x.settleEntry = none ∧ x.ended = some e ∧ x.directory = t.directory ∧
      x.nextRing = t.nextRing + n ∧ x.binsClosed = (if n = 0 then t.binsClosed else min 65535 (t.binsClosed + n)) ∧
      u.drain = some { ctx := c, cursor := 0, sent := 0, waiting := true } ∧ u.wall = s.wall ∧
      (s.mill.summaryQ.length + n < 32 → u.mill.summaryQ = s.mill.summaryQ ++
        (List.range' t.nextRing n).map (fun b => .ring (ringRecord s t b e.time)) ++ [.tube (summaryOf x e)])
    tubeAt s c = some t → t.stage = .settling → t.ended = some e → tubeAt s (otherCtx c) = none → s.drain = none →
    s.mill.mapQ.length = 4 → (highestBin s t = none → n = 0) →
    (∀ b, highestBin s t = some b → b < 65536 / t.setup.sectors ∧ n = b + 1 - t.nextRing) →
    (settleCondition s t e.time = true →
      ∃ (u : State) (x : Tube), exec .settleCompletion s = .next u ∧ closed u x) ∧
    (settleCondition s t e.time = true → n = 0 → s.mill.summaryQ.length < 32 →
      exec .settleCompletion s =
        .next (((s.setMill { s.mill with summaryQ := s.mill.summaryQ ++ [.tube (summaryOf t e)] }).setTubes
          (s.tubes.put c (some { t with stage := .draining, settleEntry := none }))).setDrain
            (some { ctx := c, cursor := 0, sent := 0, waiting := true }))) ∧
    (∀ m, t.settleEntry = some m → s.agent.timing.settle * 1000 ≤ (s.headPort.partTime - m).toNat → s.pose.waiting = [] →
      ∃ (u : State) (x : Tube), exec (.settleLimitExpiry c) s = .next u ∧ closed u x ∧
        occurrences u .settleTimeout = min 65535 (occurrences s .settleTimeout + 1))

/-! ### Evaluation -/

/-- R7, R14: the latched chain is the descriptors met from the chain start by following next, at most eight, each taken by
value; it ends early only where a next names no descriptor. R5, R7 to R9, R30: with the evaluator IDLE and the active bank
LOADED, the oldest trace leaves the Trace Queue: evaluated under a slice latched now when its head is enabled, withdrawn as an
idle discard when it is not. The temperature is the channel's while it is held and not older than the stale limit, the fallback
with its flag otherwise; the run in progress gives its own for its head, with the factor 65,536. -/
def Obligations.EvaluationStartLatches : Prop :=
  (∀ (b : Bank) (e : HeadEntry), ∃ path : List (Fin 64),
    let next := fun (i : Fin 64) => (tableGet b.gates i).next.toNat
    latchChain b e = path.map (tableGet b.gates) ∧ path.length ≤ 8 ∧
    (e.chainStart.toNat < 64 → path.head?.map Fin.val = some e.chainStart.toNat) ∧
    (∀ (k : Nat) (i j : Fin 64), path[k]? = some i → path[k + 1]? = some j → next i = j.val) ∧
    (∀ i, path.getLast? = some i → path.length < 8 → 64 ≤ next i)) ∧
  (∀ code : Byte, (code.toNat < 4 → (channelOf code).map Fin.val = some code.toNat) ∧
    (4 ≤ code.toNat → channelOf code = none)) ∧
  ∀ (s : State) (t : Trace) (rest : List Trace) (b : Bank),
    let e := tableGet b.heads t.head
    let fallback := b.map.fallback.toNat
    s.evaluator = none → s.traceQueue = t :: rest → s.agent.active = some b → Quiet s →
    (headEnabled s t.head = false →
      exec .evaluationStart s =
        .next ((s.setTraceQueue rest).setHeadPort { s.headPort with
          heads := tableSet s.headPort.heads t.head { tableGet s.headPort.heads t.head with
            idleDiscards := min 4294967295 ((tableGet s.headPort.heads t.head).idleDiscards + 1) } })) ∧
    (headEnabled s t.head = true →
      ∃ ev : Evaluation, exec .evaluationStart s = .next ((s.setTraceQueue rest).setEvaluator (some ev)) ∧
        ev.trace = t ∧ ev.slice.generation = s.agent.generation ∧
        ev.slice.entry = { chainStart := e.chainStart, pairMode := e.pairMode, minSep := e.minSep, weakPct := e.weakPct,
                           minEnergy := e.minEnergy, channel := e.channel } ∧
        ev.slice.chain = latchChain b e ∧ ev.slice.fallback = fallback ∧
        ev.slice.velocity = b.velocity ∧ ev.slice.velocityCount = b.velocityCount.toNat ∧
        ev.slice.windowLow = b.map.windowLow.toNat ∧ ev.slice.windowHigh = b.map.windowHigh.toNat ∧
        ev.slice.channel = channelOf e.channel ∧
        (∀ r, s.agent.run = some r → r.head = t.head →
          ev.tie = .run ∧ ev.slice.factor = 65536 ∧ ev.slice.temperature = r.temperature ∧
          ev.slice.tempFallback = false) ∧
        (s.agent.run.map CalRun.head ≠ some t.head →
          ev.tie = .ordinary ∧ ev.slice.factor = tableGet s.agent.calib t.head ∧
          (channelOf e.channel = none → ev.slice.temperature = fallback ∧ ev.slice.tempFallback = true) ∧
          (∀ ch, channelOf e.channel = some ch → (tableGet s.headPort.channels ch).held = none →
            ev.slice.temperature = fallback ∧ ev.slice.tempFallback = true) ∧
          (∀ ch x, channelOf e.channel = some ch → (tableGet s.headPort.channels ch).held = some x →
            ((s.headPort.partTime - x.arrival).toNat ≤ s.agent.timing.temperatureStale * 1000 →
              ev.slice.temperature = x.temperature ∧ ev.slice.tempFallback = false) ∧
            (s.agent.timing.temperatureStale * 1000 < (s.headPort.partTime - x.arrival).toNat →
              ev.slice.temperature = fallback ∧ ev.slice.tempFallback = true))))

/-- R19, R25, R31: every completion raises FLAW once when its reading carries that flag and then TEMP_FALLBACK once when it
carries that one. R24, R48, R71: one whose ring holds fewer than two samples, with no tube live at its time, is NO_POSE, in no
tube. R149, R152: with the head's mirror policy OFF exactly its reading policy decides: OFF nothing, ALL a READING frame,
VALID_ONLY one when VALID, EVERY_N the counter's step and a frame at N with the counter back at 0; a frame drops at a full queue
or a DOWN link. R153: with the reading policy OFF the same of the mirror policy, after the events: REJECTED sends a trace whose
outcome is not VALID, FLAWED that or one whose reading carries FLAW. R48, R71, R72: a NO_POSE reading, or with two samples or
more one earlier than the oldest, which is STALE_POSE, is counted in the live tube at its time, whatever its generation, and
carries its id; it is sent without one where no tube is live at its time. (A time exactly 2^31 µs from the oldest sample
counts as earlier by the model's choice: log 29; that the completion of a discarded reading raises its events too is deduced:
log 22.) -/
def Obligations.EvaluationCompletesWithoutAPose : Prop :=
  (∀ (s : State) (ev : Evaluation) (p : Placement),
    let r := evaluate ev
    let idle := s.setEvaluator none
    let sent := fun (u : State) (f : Reading) => u.setMill { u.mill with readingQ := s.mill.readingQ ++ [f] }
    Completing .ordinary ev s → Quiet s → Reporting 1 s →
    (p = .noPose ∧ s.pose.ring.length < 2) ∨ (p = .stalePose ∧ 2 ≤ s.pose.ring.length ∧
      ∃ o, s.pose.ring.head? = some o ∧ laterThan o.timestamp r.timestamp = true) →
    (∀ c t, spanOf s r.timestamp = some (.live c) → tubeAt s c = some t →
      exec .evaluationCompletion s =
        .next (withFlagEvents ev (sent (idle.setTubes (s.tubes.put c (some { t with
            outcomes := tableSet t.outcomes r.outcome.code (min 4294967295 (tableGet t.outcomes r.outcome.code + 1)),
            placements := tableSet t.placements p.code (min 4294967295 (tableGet t.placements p.code + 1)) })))
          { r with placement := some p, tubeId := some t.id }))) ∧
    ((∀ c, spanOf s r.timestamp ≠ some (.live c)) →
      exec .evaluationCompletion s = .next (withFlagEvents ev (sent idle { r with placement := some p })))) ∧
  (∀ (s : State) (ev : Evaluation),
    let r := evaluate ev
    let h := ev.trace.head
    let o := outputOf s h
    let d := decimationOf s h
    let idle := s.setEvaluator none
    let m := s.mill
    let drop := fun (k : Fin 6) (c : MillCounters) => { c with
      dropped := tableSet c.dropped k (min 4294967295 (tableGet c.dropped k + 1)) }
    let sent : Reading := { r with placement := some .noPose }
    let mirror : MirrorFrame := { trace := ev.trace, reading := r }
    let ends := fun (u : State) => exec .evaluationCompletion s = .next (withFlagEvents ev u)
    let raised := withFlagEvents ev idle
    let x := raised.mill
    let mirrors := fun (y : MillPort) => exec .evaluationCompletion s = .next (raised.setMill y)
    let mirrored := (o.mirror = .rejected ∧ r.outcome ≠ .valid) ∨
      (o.mirror = .flawed ∧ (r.outcome ≠ .valid ∨ r.flags.flaw = true))
    s.evaluator = some ev → ev.tie = .ordinary → s.pose.ring.length < 2 → s.tubes.a = none → s.tubes.b = none →
    (o.mirror = .off →
      (o.reading = .off ∨ (o.reading = .validOnly ∧ r.outcome ≠ .valid) → ends idle) ∧
      (o.reading = .all ∨ (o.reading = .validOnly ∧ r.outcome = .valid) →
        (m.link = .up → m.readingQ.length < 64 → ends (idle.setMill { m with readingQ := m.readingQ ++ [sent] })) ∧
        (m.link = .down ∨ m.readingQ.length = 64 → ends (idle.setMill { m with counters := drop 4 m.counters }))) ∧
      (o.reading = .everyN →
        (d.reading + 1 < o.readingN →
          ends (idle.setMill { m with decimation := tableSet m.decimation h { d with reading := d.reading + 1 } })) ∧
        (o.readingN ≤ d.reading + 1 →
          (m.link = .up → m.readingQ.length < 64 →
            ends (idle.setMill { m with
              decimation := tableSet m.decimation h { d with reading := 0 }, readingQ := m.readingQ ++ [sent] })) ∧
          (m.link = .down ∨ m.readingQ.length = 64 →
            ends (idle.setMill { m with
              decimation := tableSet m.decimation h { d with reading := 0 }, counters := drop 4 m.counters }))))) ∧
    (o.reading = .off →
      (o.mirror = .rejected ∨ o.mirror = .flawed →
        (¬mirrored → mirrors x) ∧
        (mirrored →
          (m.link = .up → m.mirrorQ.length < 8 → mirrors { x with mirrorQ := m.mirrorQ ++ [mirror] }) ∧
          (m.link = .down ∨ m.mirrorQ.length = 8 → mirrors { x with counters := drop 5 x.counters }))) ∧
      (o.mirror = .everyN →
        (d.mirror + 1 < o.mirrorN →
          mirrors { x with decimation := tableSet m.decimation h { d with mirror := d.mirror + 1 } }) ∧
        (o.mirrorN ≤ d.mirror + 1 →
          (m.link = .up → m.mirrorQ.length < 8 →
            mirrors { x with
              decimation := tableSet m.decimation h { d with mirror := 0 }, mirrorQ := m.mirrorQ ++ [mirror] }) ∧
          (m.link = .down ∨ m.mirrorQ.length = 8 →
            mirrors { x with
              decimation := tableSet m.decimation h { d with mirror := 0 }, counters := drop 5 x.counters }))))) ∧
  (∀ (s : State) (ev : Evaluation), s.evaluator = some ev →
    let flags := (evaluate ev).flags
    ∃ u, exec .evaluationCompletion s = .next u ∧ u.evaluator = none ∧
      occurrences u .flaw =
        (if flags.flaw = true then min 65535 (occurrences s .flaw + 1) else occurrences s .flaw) ∧
      occurrences u .tempFallback =
        (if flags.tempFallback = true then min 65535 (occurrences s .tempFallback + 1) else occurrences s .tempFallback))

/-- R47 to R53, for readings that fall in a live tube of their generation, every head sending all its readings. A reading later
than the newest sample waits while the feed is LIVE, the oldest of 32 leaving by extrapolation; while it is SILENT it is
extrapolated at once. An accepted frame interpolates, between the two newest samples and oldest first, the waiting readings
that it covers; the settle limit extrapolates those up to the tube's end time; position silence extrapolates all. The others
keep their places. -/
def Obligations.PendingReadingsAreResolved : Prop :=
  ∀ (s : State) (c : Ctx) (t : Tube),
    let w := s.pose.waiting
    (∀ (f : PositionFrame) (y : Sample),
      let covered := w.filter (fun r => notLater r.timestamp f.timestamp)
      s.headPort.link = .up → f.angle.toNat ≤ 4095 → f.travel.toNat ≤ 4000000 → newestSample s = some y →
      laterThan f.timestamp y.timestamp = true → s.pose.presence.agrees f.present = true → OfTube c t covered s →
      Reporting covered.length s →
      ∃ u q, exec (.positionFrame f) s = .next u ∧
        u.pose.waiting = w.filter (fun r => laterThan r.timestamp f.timestamp) ∧ u.mill.readingQ = s.mill.readingQ ++ q ∧
        q.map Reading.unplaced = covered.map (fun r => placedOn t (poseAt y (sampleOf f) r.timestamp) r)) ∧
    (∀ a b, lastTwo s.pose.ring = some (a, b) →
      (positionSilenceDue s = true → OfTube c t w s → Reporting w.length s →
        ∃ u q, exec .positionSilenceExpiry s = .next u ∧ u.pose.waiting = [] ∧ u.mill.readingQ = s.mill.readingQ ++ q ∧
          q.map Reading.unplaced = w.map (extrapolatedOn s t a b)) ∧
      (∀ e,
        let covered := w.filter (fun r => notLater r.timestamp e.time)
        settleDue s c = true → t.ended = some e → OfTube c t covered s → Reporting covered.length s →
        ∃ u q, exec (.settleLimitExpiry c) s = .next u ∧
          u.pose.waiting = w.filter (fun r => laterThan r.timestamp e.time) ∧ u.mill.readingQ = s.mill.readingQ ++ q ∧
          q.map Reading.unplaced = covered.map (extrapolatedOn s t a b)) ∧
      (∀ (ev : Evaluation) (oldest : Sample),
        let r := evaluate ev
        s.evaluator = some ev → ev.tie = .ordinary → s.pose.ring.head? = some oldest →
        laterThan oldest.timestamp r.timestamp = false → laterThan r.timestamp b.timestamp = true → Quiet s →
        (s.pose.feed = .live → w.length < 32 →
          ∃ u, exec .evaluationCompletion s = .next u ∧ u.pose = { s.pose with waiting := w ++ [r] } ∧
            u.mill.readingQ = s.mill.readingQ ∧ u.wall = s.wall) ∧
        (∀ x l, s.pose.feed = .live → w = x :: l → l.length = 31 → OfTube c t [x] s → Reporting 1 s →
          ∃ u q, exec .evaluationCompletion s = .next u ∧ u.pose = { s.pose with waiting := l ++ [r] } ∧
            u.mill.readingQ = s.mill.readingQ ++ [q] ∧ q.unplaced = extrapolatedOn s t a b x) ∧
        (s.pose.feed = .silent → OfTube c t [r] s → Reporting 1 s →
          ∃ u q, exec .evaluationCompletion s = .next u ∧ u.pose = s.pose ∧
            u.mill.readingQ = s.mill.readingQ ++ [q] ∧ q.unplaced = extrapolatedOn s t a b r)))

/-! ### The Drain Engine (R78, R95 to R99) -/

/-- R78, R95 to R97, R99: the older CLOSED_WAIT context becomes DRAINING, the engine WAITING on a full MAP class queue, and
with room queues as many of its segments, and then its MAP_END, as the room allows in that same step; after a MAP_END the other
context, if it is CLOSED_WAIT, has its turn in the same way (`DrainsOn`). One frame at a time: with room, the MAP frame of the
lowest present segment is queued, its page goes to the tail of the free list and the cursor past it; with no present segment
left, MAP_END is queued and the context becomes FREE with its retired span. -/
def Obligations.DrainProceedsInSegmentOrder : Prop :=
  ∀ (s : State) (c : Ctx) (t : Tube), tubeAt s c = some t →
    (s.drain = none → t.stage = .closedWait → t.directoryOk = true →
      (stageIs s (otherCtx c) .closedWait = true → s.tubes.newest = some (otherCtx c)) →
      ∃ u, exec .drainBegin s = .next u ∧
        DrainsOn { ctx := c, cursor := 0, sent := 0, waiting := false } { t with stage := .draining } s u) ∧
    (∀ d : Drain, s.drain = some d → d.ctx = c → t.directory = [] → s.mill.mapQ.length < 4 →
      ∃ u, exec .mapEndQueued s = .next u ∧ DrainsOn d t s u) ∧
    (s.drain = none → t.stage = .closedWait → s.mill.mapQ.length = 4 →
      (stageIs s (otherCtx c) .closedWait = true → s.tubes.newest = some (otherCtx c)) →
      exec .drainBegin s =
        .next ((s.setTubes (s.tubes.put c (some { t with stage := .draining }))).setDrain
          (some { ctx := c, cursor := 0, sent := 0, waiting := true }))) ∧
    (∀ (d : Drain) (n : Nat) (e : DirEntry) (l : List (Nat × DirEntry)),
      s.drain = some d → d.ctx = c → t.directory = (n, e) :: l → d.cursor ≤ n → s.mill.mapQ.length < 4 →
      exec .mapFrameQueued s =
        .next ((((s.setMill { s.mill with mapQ := s.mill.mapQ ++
              [.page { tubeId := t.id, segment := n, firstBin := firstBinOf t.setup.sectors n, sectors := t.setup.sectors,
                       readings := e.readings,
                       cells := (List.range 256).map (fun i => readCell s.wall.pool (e.page * 256 + i)) }] }).setWall
            { s.wall with free := s.wall.free ++ [e.page] }).setTubes
              (s.tubes.put c (some { t with directory := l }))).setDrain
                (some { ctx := c, cursor := n + 1, sent := d.sent + 1, waiting := decide (s.mill.mapQ.length = 3) }))) ∧
    (∀ (d : Drain) (e : TubeEnd),
      s.drain = some d → d.ctx = c → t.directory = [] → t.ended = some e → s.mill.mapQ.length < 4 →
      stageIs s (otherCtx c) .closedWait = false →
      exec .mapEndQueued s =
        .next (((s.setMill { s.mill with mapQ := s.mill.mapQ ++ [.finish t.id d.sent t.pagesLost] }).setTubes
          ((s.tubes.put c none).putRetired c
            (some { id := t.id, startTime := t.startTime, endTime := e.time }))).setDrain none))

/-! ### The mill link (chapter 10) -/

/-- R148, R154, R155: a REQUEST whose entry data has the length its codes require joins the tail of a request queue that holds
fewer than 4; at 4 it is dropped with its count and REQUEST_DROPPED; one of another length is counted as malformed. Its codes
are not judged. (That such a command is treated as the frame R154 discards is deduced, log 18; so is that an operation which
names no table has its own length under an undefined table code, log 21.) -/
def Obligations.RequestJoinsTheQueue : Prop :=
  ∀ (r : Request) (s : State),
    let k := { s.mill.counters with received := min 4294967295 (s.mill.counters.received + 1) }
    s.mill.link = .up →
    (requestLengthOk r = true → s.mill.requestQ.length < 4 →
      exec (.requestFrame r) s =
        .next (s.setMill { s.mill with counters := k, requestQ := s.mill.requestQ ++ [r] })) ∧
    (requestLengthOk r = true → s.mill.requestQ.length = 4 →
      exec (.requestFrame r) s =
        .next (raise .requestDropped (.tag r.tag)
          (s.setMill { s.mill with counters := { k with requestDrops := min 4294967295 (k.requestDrops + 1) } }))) ∧
    (requestLengthOk r = false →
      exec (.requestFrame r) s =
        .next (raise .malformed (.source 0x40)
          (s.setMill { s.mill with counters := { k with malformed := min 4294967295 (k.malformed + 1) } })))

/-- R149, R150, R155: with the link UP and the transmitter IDLE, the head frame of the highest-priority class queue that is not
empty leaves it and is in transmission; a departure from the RESPONSE class lets a held RESPONSE join and ends its request; a
departure from the MAP class lets the Drain Engine go on: it queues its next frame, and as many more as the room allows. R148,
R151, R155: at transmission completion the frame's class counts one more frame sent and the transmitter is IDLE. A held
RESPONSE joins the RESPONSE class queue once it has room, and its request ends. A RESPONSE offered joins a queue that holds
fewer than 2; at 2 it is held and its request stays in processing, so that no further request is taken. -/
def Obligations.FramesAreSentByClass : Prop :=
  (∀ s : State, s.mill.link = .up → s.mill.transmitter = none →
    (∀ f l, s.mill.responseQ = f :: l → s.agent.processing = none →
      exec .transmissionStart s =
        .next (s.setMill { s.mill with transmitter := some (.response f), responseQ := l })) ∧
    (∀ f l p, s.mill.responseQ = f :: l → s.agent.processing = some p → l.length < 2 →
      exec .transmissionStart s =
        .next ((s.setMill { s.mill with transmitter := some (.response f), responseQ := l ++ [p.response] }).setAgent
          { s.agent with processing := none })) ∧
    (∀ f l, s.mill.responseQ = [] → s.mill.noticeQ = f :: l →
      exec .transmissionStart s = .next (s.setMill { s.mill with transmitter := some (.notice f), noticeQ := l })) ∧
    (∀ f l, s.mill.responseQ = [] → s.mill.noticeQ = [] → s.mill.summaryQ = f :: l →
      exec .transmissionStart s = .next (s.setMill { s.mill with transmitter := some (.summary f), summaryQ := l })) ∧
    (∀ f l, s.mill.responseQ = [] → s.mill.noticeQ = [] → s.mill.summaryQ = [] → s.mill.mapQ = f :: l →
      (s.drain = none →
        exec .transmissionStart s = .next (s.setMill { s.mill with transmitter := some (.map f), mapQ := l })) ∧
      (∀ d, s.drain = some d →
        exec .transmissionStart s =
          .next (runDrain (s.setMill { s.mill with transmitter := some (.map f), mapQ := l }))) ∧
      (∀ d t, s.drain = some d → tubeAt s d.ctx = some t → PageLaw s →
        ∃ u, exec .transmissionStart s = .next u ∧
          DrainsOn d t (s.setMill { s.mill with transmitter := some (.map f), mapQ := l }) u)) ∧
    (∀ f l, s.mill.responseQ = [] → s.mill.noticeQ = [] → s.mill.summaryQ = [] → s.mill.mapQ = [] →
      s.mill.readingQ = f :: l →
      exec .transmissionStart s = .next (s.setMill { s.mill with transmitter := some (.reading f), readingQ := l })) ∧
    (∀ f l, s.mill.responseQ = [] → s.mill.noticeQ = [] → s.mill.summaryQ = [] → s.mill.mapQ = [] →
      s.mill.readingQ = [] → s.mill.mirrorQ = f :: l →
      exec .transmissionStart s = .next (s.setMill { s.mill with transmitter := some (.mirror f), mirrorQ := l }))) ∧
  (∀ (s : State) (f : Frame), s.mill.transmitter = some f →
    exec .transmissionCompletion s =
      .next (s.setMill { s.mill with
        transmitter := none,
        counters := { s.mill.counters with
          sent := tableSet s.mill.counters.sent f.cls (min 4294967295 (tableGet s.mill.counters.sent f.cls + 1)) } })) ∧
  (∀ (s : State) (p : Processing), s.agent.processing = some p → s.mill.responseQ.length < 2 →
    exec .responseHeldRelease s =
      .next ((s.setMill { s.mill with responseQ := s.mill.responseQ ++ [p.response] }).setAgent
        { s.agent with processing := none })) ∧
  (∀ (s : State) (r : Request) (st : Status) (d : RespData),
    (s.mill.responseQ.length < 2 →
      answer r st d s = s.setMill { s.mill with
        responseQ := s.mill.responseQ ++ [{ tag := r.tag, status := st, data := d }] }) ∧
    (s.mill.responseQ.length = 2 →
      answer r st d s = s.setAgent { s.agent with
        processing := some { request := r, response := { tag := r.tag, status := st, data := d } } })) ∧
  (∀ (s : State) (p : Processing), s.agent.processing = some p →
    ∀ i ∈ [Instr.read, .write, .exchange, .clear, .apply, .mode, .calibrate, .abortCal, .restart, .status,
      .undefinedOperation], exec i s = .next s)

/-! ### Management requests (chapters 7, 8 and 11) -/

/-- R158, R159: the checks of a table operation in their order, each status where every earlier check passes, with the index
range of each table; R160: a context selector names a context that is not FREE, or EMPTY_CONTEXT answers. A request that passes
them all reaches the entry at its index: in the bank that the selector names, in the context it names, or in the part. -/
def Obligations.RequestChecksComeInOrder : Prop :=
  ∀ (op : TableOp) (r : Request) (s : State),
    tableOf r.table =
      [TableName.head, .gate, .velocity, .mapSetup, .timing, .output, .calib, .headStatus, .tempChannel, .pose, .context,
        .directory, .mapPage, .event, .fault, .portCounters][r.table.toNat]? ∧
    (tableOf r.table = none → checkRequest op r s = .error .badTable) ∧
    (∀ t, tableOf r.table = some t →
      (t.isRecipe = true → r.selector.toNat ≠ 0 → r.selector.toNat ≠ 1 → checkRequest op r s = .error .badTable) ∧
      (t.isContext = true → (r.selector.toNat < 2 ∨ 5 < r.selector.toNat) → checkRequest op r s = .error .badTable) ∧
      ((t.isRecipe = true → r.selector.toNat ≤ 1) → (t.isContext = true → 2 ≤ r.selector.toNat ∧ r.selector.toNat ≤ 5) →
        (t.isRecipe = true → op = .write ∨ op = .exchange → r.selector.toNat = 1 →
          checkRequest op r s = .error .readOnly) ∧
        (t.isContext = true → op ≠ .read → checkRequest op r s = .error .readOnly) ∧
        (t ∈ [TableName.head, .gate, .velocity, .mapSetup, .timing, .output, .calib] → op = .clear →
          checkRequest op r s = .error .badTable) ∧
        (t = .pose → op = .clear → checkRequest op r s = .error .readOnly) ∧
        (t ∈ [TableName.headStatus, .tempChannel, .pose, .fault, .portCounters] → op = .write ∨ op = .exchange →
          checkRequest op r s = .error .readOnly) ∧
        (CarriedOut op t r.selector →
          (indexCount t ≤ r.index.toNat → checkRequest op r s = .error .badIndex) ∧
          (r.index.toNat < indexCount t →
            (t.isRecipe = true → r.selector.toNat = 1 → s.agent.active = none →
              checkRequest op r s = .error .noRecipe) ∧
            (t.isContext = true → (∀ c, ¬CtxNamed s r.selector c) → checkRequest op r s = .error .emptyContext) ∧
            (∀ c x, t = .mapPage → CtxNamed s r.selector c → tubeAt s c = some x →
              dirLookup x.directory r.index.toNat = none → checkRequest op r s = .error .emptySegment) ∧
            ((t.isRecipe = true → r.selector.toNat = 1 → s.agent.active.isSome = true) →
              (t.isContext = true → ∃ c x, CtxNamed s r.selector c ∧ tubeAt s c = some x ∧
                (t = .mapPage → (dirLookup x.directory r.index.toNat).isSome = true)) →
              ∃ e p, entryAt t r.index.toNat = some e ∧ checkRequest op r s = .ok (e, p) ∧
                (t.isRecipe = true → r.selector.toNat = 0 → p = .bank .staged s.agent.staged) ∧
                (∀ b, t.isRecipe = true → r.selector.toNat = 1 → s.agent.active = some b → p = .bank .active b) ∧
                (∀ c x, t.isContext = true → CtxNamed s r.selector c → tubeAt s c = some x → p = .ctx c x) ∧
                (t.isRecipe = false → t.isContext = false → p = .part))))))

/-- R161, R172: a READ that passes its checks answers OK with the entry as it stands and changes nothing else, but that a
HEAD_STATUS read copies the head's state into its snapshot. Table by table: a recipe table is read in the staged bank under
STAGED and in the active one under ACTIVE; CONTEXT, DIRECTORY and MAP_PAGE in the context that the selector names (R160), with
its letter: its record (R81), a segment's first bin, S and entry (R93), or its frame's contents and page (R94); POSE is R60's.
A CLEAR that passes them answers OK with the entry as it stood and zeroes its counters: the five counts of a head, the two of a
channel, the counters of both ports; it releases the fault capture (R174); and a record of EVENT becomes clear (R170),
HEAD_CHANGE being raised again at once for the lowest head whose state differs from its snapshot. R158: one that fails a check
answers its status and changes nothing; only EMPTY_SEGMENT carries data, the context's letter and tube id (R160; that it does
so is deduced, log 31). -/
def Obligations.ReadAndClearReturnTheEntry : Prop :=
  ∀ (r : Request) (rest : List Request) (s : State) (e : EntryName) (p : Place),
    let s0 := dequeued rest s
    Ready r rest s →
    (operationOf r.operation = some .read → checkRequest .read r s0 = .ok (e, p) →
      (∀ h, e = .headStatus h →
        exec .read s = .next (answer r .ok (.headStatus (tableGet s.headPort.heads h) (silenceLeft s h))
          (s0.setEvents { s.events with snapshots := tableSet s.events.snapshots h (headStateOf s h) }))) ∧
      ((∀ h, e ≠ .headStatus h) → exec .read s = .next (answer r .ok (entryData s0 e p) s0))) ∧
    (let i := r.index.toNat
     let reads := fun (table : Nat) (d : RespData) =>
      operationOf r.operation = some .read → r.table.toNat = table → exec .read s = .next (answer r .ok d s0)
     (∀ b, (r.selector.toNat = 0 ∧ b = s.agent.staged) ∨ (r.selector.toNat = 1 ∧ s.agent.active = some b) →
      (∀ h : HeadNo, i = h.val → reads 0 (.headEntry (tableGet b.heads h))) ∧
      (∀ g : Fin 64, i = g.val → reads 1 (.gateEntry (tableGet b.gates g))) ∧
      (∀ k : Fin 16, i = k.val → reads 2 (.velocityEntry (tableGet b.velocity k))) ∧
      (i = 16 → reads 2 (.velocityCount b.velocityCount)) ∧ (i = 0 → reads 3 (.mapSetup b.map))) ∧
     (∀ h : HeadNo, i = h.val →
      reads 5 (.output (outputOf s h) (decimationOf s h)) ∧ reads 6 (.calib (tableGet s.agent.calib h))) ∧
     (∀ ch : ChannelNo, i = ch.val → reads 8 (.channel (tableGet s.headPort.channels ch))) ∧
     (i = 0 → reads 4 (.timing s.agent.timing) ∧ reads 14 (.fault s.events.capture) ∧
      reads 15 (.portCounters (portEntry rest s)) ∧
      reads 9 (.pose
        { feed := s.pose.feed, lastAcceptance := s.pose.lastAcceptance, ring := s.pose.ring, waiting := s.pose.waiting.length,
          presence := s.pose.presence, runLength := s.pose.runLength, runFirst := s.pose.runFirst,
          accepted := s.pose.accepted, orderDiscards := s.pose.orderDiscards, rangeDiscards := s.pose.rangeDiscards,
          silenceExpiries := s.pose.silenceExpiries })) ∧
     (∀ k : EventKind, i = k.index.val → reads 13 (.event (tableGet s.events.records k.index))) ∧
     (∀ c x, CtxNamed s r.selector c → tubeAt s c = some x →
      (i = 0 → reads 10 (.context c x)) ∧
      (i < 256 →
        reads 11 (.directory c x.id (firstBinOf x.setup.sectors i) x.setup.sectors (dirLookup x.directory i)) ∧
        (∀ d, dirLookup x.directory i = some d →
          reads 12 (.mapPage c d.page
            { tubeId := x.id, segment := i, firstBin := firstBinOf x.setup.sectors i, sectors := x.setup.sectors,
              readings := d.readings, cells := (List.range 256).map (fun n => readCell s.wall.pool (d.page * 256 + n)) })))) ∧
     (∀ h : HeadNo,
      (∀ t, headStateOf s h = .active → (tableGet s.headPort.heads h).lastArrival = some t →
        silenceLeft s h = some (s.agent.timing.headSilence * 1000 - (s.headPort.partTime - t).toNat)) ∧
      (headStateOf s h ≠ .active → silenceLeft s h = none) ∧
      (operationOf r.operation = some .read → r.table.toNat = 7 → i = h.val →
        ∃ u, exec .read s = .next (answer r .ok (.headStatus (tableGet s.headPort.heads h) (silenceLeft s h)) u) ∧
          snapshotOf u h = headStateOf s h))) ∧
    (∀ st, operationOf r.operation = some .read → checkRequest .read r s0 = .error st →
      (st ≠ .emptySegment → exec .read s = .next (answer r st .none s0)) ∧
      (∀ c t, st = .emptySegment → CtxNamed s r.selector c → tubeAt s c = some t →
        exec .read s = .next (answer r st (.segmentAbsent c t.id) s0))) ∧
    (∀ st, operationOf r.operation = some .clear → checkRequest .clear r s0 = .error st →
      exec .clear s = .next (answer r st .none s0)) ∧
    (operationOf r.operation = some .clear → checkRequest .clear r s0 = .ok (e, p) →
      (∀ h, e = .headStatus h →
        exec .clear s = .next (answer r .ok (.headStatus (tableGet s.headPort.heads h) (silenceLeft s h))
          (s0.setHeadPort { s.headPort with heads := tableSet s.headPort.heads h { tableGet s.headPort.heads h with
            received := 0, gaps := 0, duplicates := 0, queueDrops := 0, idleDiscards := 0 } }))) ∧
      (∀ ch, e = .tempChannel ch →
        exec .clear s = .next (answer r .ok (.channel (tableGet s.headPort.channels ch))
          (s0.setHeadPort { s.headPort with
            channels := tableSet s.headPort.channels ch
              { tableGet s.headPort.channels ch with received := 0, faults := 0 } }))) ∧
      (e = .portCounters →
        exec .clear s = .next (answer r .ok (.portCounters (portEntry rest s))
          ((s0.setHeadPort { s.headPort with counters := HeadCounters.zero }).setMill
            { s0.mill with counters := MillCounters.zero }))) ∧
      (e = .fault →
        exec .clear s = .next (answer r .ok (.fault s.events.capture)
          (s0.setEvents { s.events with capture := none }))) ∧
      (∀ k, e = .event k →
        let cleared := s0.setEvents { s.events with
          records := tableSet s.events.records k.index
            { tableGet s.events.records k.index with
              flag := false, count := 0, firstTime := none, lastTime := none } }
        let ends := fun (u : State) =>
          exec .clear s = .next (answer r .ok (.event (tableGet s.events.records k.index)) u)
        (k ≠ .headChange ∨ (∀ h : HeadNo, headStateOf s h = snapshotOf s h) → ends cleared) ∧
        (∀ h : HeadNo, k = .headChange → headStateOf s h ≠ snapshotOf s h →
          (∀ g : HeadNo, g < h → headStateOf s g = snapshotOf s g) →
          ends (raise .headChange (.headStates h (snapshotOf s h) (headStateOf s h)) cleared))))

/-- R127, R134, R135, R161: a WRITE or EXCHANGE of a staged table stores every field as written, sets the staged-modified flag
and answers OK; one of CALIB stores the factor clamped into 58,982..72,090; one of OUTPUT stores its policies, a code that names
none becoming OFF, and each N clamped into 2..255, and makes both decimation counters 0. A WRITE answers no entry, or the
stored one under OK_CLAMPED; an EXCHANGE answers the entry as it stood. A request that fails a check changes nothing. (TIMING
and EVENT: TimingWriteClamps and EventWriteTakesEffectAtOnce.) -/
def Obligations.WriteAndExchangeStoreTheEntry : Prop :=
  ∀ (r : Request) (rest : List Request) (s : State),
    let s0 := dequeued rest s
    let b := s.agent.staged
    let staged := fun (x : Bank) => s0.setAgent { s.agent with staged := x, stagedModified := true }
    Ready r rest s →
    (∀ st, operationOf r.operation = some .write → checkRequest .write r s0 = .error st →
      exec .write s = .next (answer r st .none s0)) ∧
    (∀ st, operationOf r.operation = some .exchange → checkRequest .exchange r s0 = .error st →
      exec .exchange s = .next (answer r st .none s0)) ∧
    (∀ h, Stores r rest s (.head h) (.headEntry (tableGet b.heads h)) .none false
      (staged { b with heads := tableSet b.heads h (parseHead r.data) })) ∧
    (∀ i, Stores r rest s (.gate i) (.gateEntry (tableGet b.gates i)) .none false
      (staged { b with gates := tableSet b.gates i (parseGate r.data) })) ∧
    (∀ i, Stores r rest s (.velocity i) (.velocityEntry (tableGet b.velocity i)) .none false
      (staged { b with velocity := tableSet b.velocity i (parseVelocity r.data) })) ∧
    Stores r rest s .velocityCount (.velocityCount b.velocityCount) .none false
      (staged { b with velocityCount := wordAt r.data 0 }) ∧
    Stores r rest s .mapSetup (.mapSetup b.map) .none false (staged { b with map := parseMapSetup r.data }) ∧
    (∀ h,
      let k := (longAt r.data 0).toNat
      let x := max 58982 (min 72090 k)
      Stores r rest s (.calib h) (.calib (tableGet s.agent.calib h)) (.calib x) (x != k)
        (s0.setAgent { s.agent with calib := tableSet s.agent.calib h x })) ∧
    (∀ h,
      let rp := readingPolicyOf (byteAt r.data 0)
      let mp := mirrorPolicyOf (byteAt r.data 2)
      let n := fun (i : Nat) => (byteAt r.data i).toNat
      let o : OutputEntry :=
        { reading := rp.getD .off, readingN := max 2 (n 1), mirror := mp.getD .off, mirrorN := max 2 (n 3) }
      Stores r rest s (.output h) (.output (outputOf s h) (decimationOf s h)) (.output o { reading := 0, mirror := 0 })
        (rp.isNone || mp.isNone || decide (n 1 < 2) || decide (n 3 < 2))
        ((s0.setAgent { s.agent with output := tableSet s.agent.output h o }).setMill
          { s0.mill with decimation := tableSet s.mill.decimation h { reading := 0, mirror := 0 } }))

/-- R133, R161: a WRITE or EXCHANGE of TIMING stores the five limits, each clamped into its range, and answers OK, or OK_CLAMPED
when any was clamped; the WRITE then with the entry as stored, the EXCHANGE always with the entry as it stood. With no timer due
under the new limits nothing else changes. R46, R76, R119, R141: where exactly one timer is due under them, it expires in that
step, exactly as at its own expiry. (Which of several due timers expires first is the model's choice, log 7.) -/
def Obligations.TimingWriteClamps : Prop :=
  ∀ (r : Request) (rest : List Request) (s : State),
    let s0 := dequeued rest s
    let w := fun (i : Nat) => (wordAt r.data i).toNat
    let t : Timing :=
      { headSilence := max 1 (min 1000 (w 0)), positionSilence := max 1 (min 1000 (w 2)),
        temperatureStale := max 10 (min 5000 (w 4)), settle := max 5 (min 1000 (w 6)),
        calibration := max 100 (min 60000 (w 8)) }
    let u := s0.setAgent { s.agent with timing := t }
    let kept := t.headSilence = w 0 ∧ t.positionSilence = w 2 ∧ t.temperatureStale = w 4 ∧ t.settle = w 6 ∧
      t.calibration = w 8
    let written := fun (v : State) =>
      (operationOf r.operation = some .write →
        (kept → exec .write s = .next (answer r .ok .none v)) ∧
        (¬kept → exec .write s = .next (answer r .okClamped (.timing t) v))) ∧
      (operationOf r.operation = some .exchange →
        (kept → exec .exchange s = .next (answer r .ok (.timing s.agent.timing) v)) ∧
        (¬kept → exec .exchange s = .next (answer r .okClamped (.timing s.agent.timing) v)))
    Ready r rest s → tableOf r.table = some .timing → r.index = 0 →
    (Quiet s → timersDue u = [] → written u) ∧
    (∀ expiry, timersDue u = [expiry] → (expiry = .calibrationTimeout → Quiet s) →
      ∃ v, exec expiry u = .next v ∧ written v)

/-- R161, R169, R171: a WRITE or EXCHANGE of an EVENT entry stores its severity and report enable, a code that names no value
leaving the old one under OK_CLAMPED, and keeps the hardware's fields; a WRITE answers no entry, or the stored one under
OK_CLAMPED, an EXCHANGE the entry as it stood. Turning report enable on while the flag is set queues a NOTICE with cause ENABLE
and no detail, NOTICE_LOST excepted. -/
def Obligations.EventWriteTakesEffectAtOnce : Prop :=
  ∀ (r : Request) (rest : List Request) (s : State) (k : EventKind),
    let old := tableGet s.events.records k.index
    let sev := (severityOf (byteAt r.data 0)).getD old.severity
    let rep := (yesNoOf (byteAt r.data 1)).getD old.report
    let clamped := (severityOf (byteAt r.data 0)).isNone || (yesNoOf (byteAt r.data 1)).isNone
    let new : EventRecord := { old with severity := sev, report := rep }
    let done := fun (i : Instr) (d : RespData) =>
      ∃ u, exec i s = .next u ∧ u.events.records = tableSet s.events.records k.index new ∧
        u.events.capture = s.events.capture ∧ u.events.snapshots = s.events.snapshots ∧
        u.mill.responseQ = s.mill.responseQ ++
          [{ tag := r.tag, status := if clamped = true then .okClamped else .ok, data := d }] ∧
        (old.report = false → rep = true → old.flag = true → k ≠ .noticeLost →
          u.mill.noticeQ = s.mill.noticeQ ++
            [{ cause := .enable, kind := k, severity := sev, time := old.firstTime, count := old.count,
               worst := u.events.worst, detail := none }]) ∧
        (old.report = true ∨ rep = false ∨ old.flag = false ∨ k = .noticeLost → u.mill.noticeQ = s.mill.noticeQ) ∧
        u.headPort = s.headPort ∧ u.agent = s.agent ∧ u.wall = s.wall ∧ u.pose = s.pose
    Ready r rest s → tableOf r.table = some .event → r.index.toNat = k.index.val → s.mill.responseQ.length < 2 →
    s.mill.noticeQ.length < 16 →
    (operationOf r.operation = some .write → done .write (if clamped = true then .event new else .none)) ∧
    (operationOf r.operation = some .exchange → done .exchange (.event old))

/-- R130, R131: APPLY with a context ACTIVE or SETTLING sets the apply-pending flag and answers PENDING, the staged bank not
judged; otherwise a staged bank that fails validation clears the flag and answers the failure with its argument; one that
passes is copied, raises the generation and answers OK with it, a run in progress ending when its head is disabled by it; at
the last generation the answer is BUSY and nothing changes. R172: HEAD_CHANGE occurs once for each head whose state changes
and then differs from its snapshot. -/
def Obligations.ApplyOutcomes : Prop :=
  ∀ (r : Request) (rest : List Request) (s : State),
    let s0 := dequeued rest s
    Ready r rest s → operationOf r.operation = some .apply →
    (tubeLive s = true →
      exec .apply s = .next (answer r .pending .none (s0.setAgent { s.agent with applyPending := true }))) ∧
    (∀ f, tubeLive s = false → validate s.agent.staged = some f →
      exec .apply s =
        .next (answer r f.code (.argument f.argument) (s0.setAgent { s.agent with applyPending := false }))) ∧
    (tubeLive s = false → validate s.agent.staged = none → s.agent.generation = 4294967295 →
      exec .apply s = .next (answer r .busy .none s0)) ∧
    (tubeLive s = false → validate s.agent.staged = none → s.agent.generation < 4294967295 →
      s.mill.responseQ.length < 2 →
      ∃ u, exec .apply s = .next u ∧ u.agent.active = some s.agent.staged ∧ u.agent.staged = s.agent.staged ∧
        u.agent.generation = s.agent.generation + 1 ∧ u.agent.stagedModified = false ∧ u.agent.applyPending = false ∧
        u.agent.mode = s.agent.mode ∧ u.agent.timing = s.agent.timing ∧ u.agent.calib = s.agent.calib ∧
        u.mill.responseQ = s.mill.responseQ ++
          [{ tag := r.tag, status := .ok, data := .generation (s.agent.generation + 1) }] ∧
        (let n := (allHeads.filter (fun h =>
           decide (headStateOf u h ≠ headStateOf s h ∧ headStateOf u h ≠ snapshotOf s h))).length
         occurrences u .headChange =
          if n = 0 then occurrences s .headChange else min 65535 (occurrences s .headChange + n)) ∧
        u.agent.run = s.agent.run.bind
          (fun x => if isYes (tableGet s.agent.staged.heads x.head).enabled = true then some x else none) ∧
        (∀ h : HeadNo,
          let old := tableGet s.headPort.heads h
          let new := tableGet u.headPort.heads h
          (isYes (tableGet s.agent.staged.heads h).enabled = false → new = { old with state := .disabled }) ∧
          (isYes (tableGet s.agent.staged.heads h).enabled = true → headEnabled s h = true → new = old) ∧
          (isYes (tableGet s.agent.staged.heads h).enabled = true → headEnabled s h = false →
            new = { old with state := .unseen, expected := none, lastTimestamp := none, lastArrival := none })))

/-- R128, R129: validation accepts a bank exactly when some head is enabled, every enabled head passes checks 1 to 6, the
velocity table has 2..16 entries that pass, and all eleven MAP_SETUP fields pass. Otherwise it names the first failure in this
order: NO_HEAD with 255; CHAIN_INVALID with the lowest enabled head that fails; VELOCITY_INVALID with 16 for the entry count, or
with the first entry out of range or not above the one before it; MAP_INVALID with the first field that fails. (That an enabled
byte other than 1 is not yes is deduced: log 10.) -/
def Obligations.ValidationReportsTheFirstFailure : Prop :=
  ∀ b : Bank,
    let on := fun (h : HeadNo) => isYes (tableGet b.heads h).enabled = true
    let heads := (∃ h, on h) ∧ ∀ h, on h → chainOk b (tableGet b.heads h) = true
    let count := b.velocityCount.toNat
    let entryOk := fun (i : Nat) => ∀ e, b.velocity.toList[i]? = some e →
      e.temperature.toNat ≤ 1600 ∧ 3000 ≤ e.velocity.toNat ∧ e.velocity.toNat ≤ 7000 ∧
      ∀ d, 0 < i → b.velocity.toList[i - 1]? = some d → d.temperature.toNat < e.temperature.toNat
    let velocity := 2 ≤ count ∧ count ≤ 16 ∧ ∀ i, i < count → entryOk i
    (∀ e, chainOk b e = true ↔ ChainPasses b e) ∧
    (validate b = none ↔ heads ∧ velocity ∧ ∀ k, mapFieldOk b.map k = true) ∧
    ((∀ h, ¬on h) → validate b = some { code := .noHead, argument := 255 }) ∧
    (∀ h, on h → chainOk b (tableGet b.heads h) = false → (∀ g, g < h → on g → chainOk b (tableGet b.heads g) = true) →
      validate b = some { code := .chainInvalid, argument := h.val }) ∧
    (heads → count < 2 ∨ 16 < count → validate b = some { code := .velocityInvalid, argument := 16 }) ∧
    (∀ i, heads → 2 ≤ count → count ≤ 16 → i < count → ¬entryOk i → (∀ j, j < i → entryOk j) →
      validate b = some { code := .velocityInvalid, argument := i }) ∧
    (∀ k, heads → velocity → mapFieldOk b.map k = false → (∀ j, j < k → mapFieldOk b.map j = true) →
      validate b = some { code := .mapInvalid, argument := k })

/-- R162, R163, R68: a MODE with an undefined code or the current mode changes nothing and answers OK with the current mode;
MEASURE with an EMPTY bank is refused NO_RECIPE, CALIBRATE with a live tube BUSY (that a refused MODE carries no data is
deduced: log 32); otherwise the mode is changed and answered,
a run in progress being ended on leaving CALIBRATE and an ACTIVE tube on a change from MEASURE to STANDBY. -/
def Obligations.ModeRequests : Prop :=
  ∀ (r : Request) (rest : List Request) (s : State),
    let s0 := dequeued rest s
    let asked := modeOf (byteAt r.data 0)
    Ready r rest s → operationOf r.operation = some .mode →
    (asked = none ∨ asked = some s.agent.mode → exec .mode s = .next (answer r .ok (.mode s.agent.mode) s0)) ∧
    (asked = some .measure → s.agent.mode ≠ .measure → s.agent.active = none →
      exec .mode s = .next (answer r .noRecipe .none s0)) ∧
    (asked = some .calibrate → s.agent.mode ≠ .calibrate → tubeLive s = true →
      exec .mode s = .next (answer r .busy .none s0)) ∧
    (∀ m, asked = some m → m ≠ s.agent.mode → (m = .measure → s.agent.active.isSome = true) →
      (m = .calibrate → tubeLive s = false) → s.mill.responseQ.length < 2 →
      ∃ u, exec .mode s = .next u ∧ u.agent.mode = m ∧
        u.mill.responseQ = s.mill.responseQ ++ [{ tag := r.tag, status := .ok, data := .mode m }]) ∧
    (∀ m, asked = some m → m ≠ s.agent.mode → (m = .measure → s.agent.active.isSome = true) →
      (m = .calibrate → tubeLive s = false) → s.agent.run = none → tubeLive s = false →
      exec .mode s = .next (answer r .ok (.mode m) (s0.setAgent { s.agent with mode := m }))) ∧
    (∀ m x, asked = some m → s.agent.mode = .calibrate → m ≠ .calibrate →
      (m = .measure → s.agent.active.isSome = true) → s.agent.run = some x → tubeLive s = false →
      ∃ u, exec .mode s = .next u ∧ u.agent.mode = m ∧ u.agent.run = none ∧ u.agent.calib = s.agent.calib ∧
        (tableGet u.events.records EventKind.calDone.index).count =
          min 65535 ((tableGet s.events.records EventKind.calDone.index).count + 1)) ∧
    (∀ (y : Sample) (c : Ctx) (x : Tube), asked = some .standby → s.agent.mode = .measure → newestSample s = some y →
      activeCtx s = some c → tubeAt s c = some x → TubeLaw s → PageLaw s →
      ∃ u, exec .mode s = .next u ∧ u.agent.mode = .standby ∧ activeCtx u = none ∧ u.traceQueue = s.traceQueue ∧
        u.pose = s.pose ∧
        (∀ tr ∈ s.traceQueue, laterThan tr.timestamp y.timestamp = false →
          ∃ z, tubeAt u c = some z ∧ z.stage = .settling ∧ z.settleEntry = some s.headPort.partTime ∧
            z.ended = some { time := y.timestamp, travel := y.travel, length := y.travel - x.startTravel,
                             reason := .modeChange }))

/-- R115: the checks of a CALIBRATE in their order, each refusal changing nothing; when all pass, the run record is RUNNING
with the head, the four fields clamped and part time now, and the answer is ACCEPTED with the five fields as stored. -/
def Obligations.CalibrateStartsARun : Prop :=
  ∀ (r : Request) (rest : List Request) (s : State),
    let s0 := dequeued rest s
    Ready r rest s → operationOf r.operation = some .calibrate →
    (8 ≤ (byteAt r.data 0).toNat → exec .calibrate s = .next (answer r .badIndex .none s0)) ∧
    (∀ h : HeadNo, (byteAt r.data 0).toNat = h.val →
      (s.agent.mode ≠ .calibrate → exec .calibrate s = .next (answer r .refusedMode .none s0)) ∧
      (∀ x, s.agent.mode = .calibrate → s.agent.run = some x →
        exec .calibrate s = .next (answer r .busy .none s0)) ∧
      (s.agent.mode = .calibrate → s.agent.run = none → headEnabled s h = false →
        exec .calibrate s = .next (answer r .noHead .none s0)) ∧
      (s.agent.mode = .calibrate → s.agent.run = none → headEnabled s h = true →
        let d := max 1000 (min 65000 (wordAt r.data 1).toNat)
        let t := min 1600 (wordAt r.data 3).toNat
        let k := max 4 (min 64 (byteAt r.data 5).toNat)
        let w := max 1 (min 5000 (wordAt r.data 6).toNat)
        exec .calibrate s =
          .next (answer r .accepted
            (.calibration { head := h, reference := d, temperature := t, traces := k, tolerance := w })
            (s0.setAgent { s.agent with
              run := some { head := h, reference := d, temperature := t, traces := k, tolerance := w,
                            startTime := s.headPort.partTime, counted := 0, sum := 0, min := none, max := none,
                            notCounted := 0 } }))))

/-- R119 to R121: a run ends TIMEOUT at its limit and ABORTED at an ABORT_CAL: its CAL_RESULT is queued, CAL_DONE occurs, the
record returns to NONE and no factor changes. An ABORT_CAL with no run changes nothing and answers OK with NONE. -/
def Obligations.CalibrationRunEnds : Prop :=
  ∀ s : State,
    (∀ x, s.agent.run = some x → s.agent.timing.calibration * 1000 ≤ (s.headPort.partTime - x.startTime).toNat →
      s.mill.summaryQ.length < 32 → s.mill.noticeQ.length < 16 →
      ∃ u, exec .calibrationTimeout s = .next u ∧ u.agent = { s.agent with run := none } ∧
        u.mill.summaryQ = s.mill.summaryQ ++
          [.calResult { head := x.head, outcome := .timeout, oldFactor := tableGet s.agent.calib x.head,
                        newFactor := none, measured := x.measured, counted := x.counted, spread := x.spread,
                        duration := (s.headPort.partTime - x.startTime).toNat }] ∧
        (tableGet u.events.records EventKind.calDone.index).count =
          min 65535 ((tableGet s.events.records EventKind.calDone.index).count + 1) ∧
        u.headPort = s.headPort ∧ u.traceQueue = s.traceQueue ∧ u.pose = s.pose ∧ u.wall = s.wall) ∧
    (∀ (r : Request) (rest : List Request), Ready r rest s → operationOf r.operation = some .abortCal →
      (s.agent.run = none → exec .abortCal s = .next (answer r .ok (.runState false) (dequeued rest s))) ∧
      (∀ x, s.agent.run = some x → s.mill.responseQ.length < 2 → s.mill.summaryQ.length < 32 →
        ∃ u, exec .abortCal s = .next u ∧ u.agent = { s.agent with run := none } ∧
          u.mill.summaryQ = s.mill.summaryQ ++
            [.calResult { head := x.head, outcome := .aborted, oldFactor := tableGet s.agent.calib x.head,
                          newFactor := none, measured := x.measured, counted := x.counted, spread := x.spread,
                          duration := (s.headPort.partTime - x.startTime).toNat }] ∧
          u.mill.responseQ = s.mill.responseQ ++ [{ tag := r.tag, status := .ok, data := .runState false }] ∧
          (tableGet u.events.records EventKind.calDone.index).count =
            min 65535 ((tableGet s.events.records EventKind.calDone.index).count + 1)))

/-- R117: a reading of the run in progress that lies within the band is counted with its figures, any other, or one without a
thickness, as not counted; below K nothing else changes but the reading offered with the placement CALIBRATION and the events of
its flags. R118, R121: the completion that brings the counted number to K ends the run: its outcome is UNSTABLE where the spread
exceeds the tolerance, OUT_OF_RANGE where the new factor lies outside 58,982..72,090, APPLIED otherwise, and the factor is
written exactly then; the CAL_RESULT carries the figures, CAL_DONE occurs and the record returns to NONE. R24: the reading of an
evaluation whose run has ended is discarded (that its events are still raised is deduced: log 22). -/
def Obligations.CalibrationRunCompletes : Prop :=
  (∀ (s : State) (ev : Evaluation) (x : CalRun) (d : Nat),
    let mn := min (x.min.getD d) d
    let mx := max (x.max.getD d) d
    let measured := roundHalfUp (x.sum + d) x.traces
    let k := roundHalfUp (65536 * x.reference) measured
    let stable := mx - mn ≤ x.tolerance
    let fits := 58982 ≤ k ∧ k ≤ 72090
    s.evaluator = some ev → ev.tie = .run → s.agent.run = some x → (evaluate ev).thickness = some d →
    x.reference * 4 ≤ d * 5 → d * 5 ≤ x.reference * 6 → x.counted + 1 = x.traces →
    ∃ u, exec .evaluationCompletion s = .next u ∧ u.evaluator = none ∧ u.agent.run = none ∧
      u.agent.calib = (if stable ∧ fits then tableSet s.agent.calib x.head k else s.agent.calib) ∧
      (tableGet u.events.records EventKind.calDone.index).count =
        min 65535 ((tableGet s.events.records EventKind.calDone.index).count + 1) ∧
      (s.mill.summaryQ.length < 32 → Quiet s →
        u.mill.summaryQ = s.mill.summaryQ ++
          [.calResult { head := x.head,
                        outcome := if ¬stable then .unstable else if fits then .applied else .outOfRange,
                        oldFactor := tableGet s.agent.calib x.head, newFactor := if stable then some k else none,
                        measured := some measured, counted := x.traces, spread := some (mx - mn),
                        duration := (s.headPort.partTime - x.startTime).toNat }]) ∧
      (Reporting 1 s → Quiet s →
        u.mill.readingQ = s.mill.readingQ ++ [{ evaluate ev with placement := some .calibration }])) ∧
  (∀ (s : State) (ev : Evaluation) (x : CalRun),
    let r := evaluate ev
    let idle := s.setEvaluator none
    let taken := fun (y : CalRun) =>
      exec .evaluationCompletion s =
        .next (withFlagEvents ev (offeredByRun r (idle.setAgent { s.agent with run := some y })))
    Completing .run ev s → s.agent.run = some x → Quiet s → (outputOf s r.head).reading ≠ .everyN →
    s.mill.link = .up → s.mill.readingQ.length < 64 →
    (∀ d, r.thickness = some d → x.reference * 4 ≤ d * 5 → d * 5 ≤ x.reference * 6 → x.counted + 1 ≠ x.traces →
      taken { x with counted := x.counted + 1, sum := x.sum + d, min := some (min (x.min.getD d) d),
                     max := some (max (x.max.getD d) d) }) ∧
    (r.thickness = none ∨ (∃ d, r.thickness = some d ∧ (d * 5 < x.reference * 4 ∨ x.reference * 6 < d * 5)) →
      taken { x with notCounted := min 65535 (x.notCounted + 1) })) ∧
  (∀ (s : State) (ev : Evaluation), Completing .runEnded ev s → Quiet s →
    exec .evaluationCompletion s = .next (withFlagEvents ev (s.setEvaluator none)))

/-- R164: RESTART empties the measuring state, zeroes the counters, clears the events, makes the mode STANDBY and answers OK
last; part time, both links, the recipe banks, the immediate tables, the tube id counter, the held temperatures and the queues
of requests and responses stay. -/
def Obligations.RestartKeepsWhatItNames : Prop :=
  ∀ (r : Request) (rest : List Request) (s : State),
    Ready r rest s → operationOf r.operation = some .restart → s.mill.responseQ.length < 2 →
    ∃ u, exec .restart s = .next u ∧ u.evaluator = none ∧ u.traceQueue = [] ∧ u.pose = State.reset.pose ∧
      u.tubes = { State.reset.tubes with idCounter := s.tubes.idCounter } ∧ u.drain = none ∧
      u.wall.free = List.range 384 ∧
      u.agent = { s.agent with run := none, applyPending := false, mode := .standby } ∧
      u.mill = { s.mill with
        requestQ := rest, responseQ := s.mill.responseQ ++ [{ tag := r.tag, status := .ok, data := .none }],
        noticeQ := [], summaryQ := [], mapQ := [], readingQ := [], mirrorQ := [], counters := State.reset.mill.counters,
        decimation := State.reset.mill.decimation } ∧
      u.headPort.link = s.headPort.link ∧ u.headPort.partTime = s.headPort.partTime ∧
      u.headPort.lastMark = s.headPort.lastMark ∧ u.headPort.markInFlight = s.headPort.markInFlight ∧
      u.headPort.counters = State.reset.headPort.counters ∧
      (∀ h : HeadNo, tableGet u.headPort.heads h =
          { tableGet State.reset.headPort.heads h with state := if headEnabled s h = true then .unseen else .disabled } ∧
        snapshotOf u h = headStateOf u h) ∧
      (∀ ch : ChannelNo, tableGet u.headPort.channels ch =
        { tableGet s.headPort.channels ch with received := 0, faults := 0 }) ∧
      (∀ i : Fin 22, tableGet u.events.records i =
        { tableGet s.events.records i with flag := false, count := 0, firstTime := none, lastTime := none }) ∧
      u.events.capture = none ∧ u.events.worst = .clear

/-- R123, R157, R158, R165: STATUS answers OK with the record as it stands, its request no longer counted, and changes nothing
else; where the pages keep their law, its free pages and the pages that the two directories hold make 384; a request that names
an undefined operation, or a table operation on an undefined table, is answered BAD_TABLE. (That the row UNDEFINED_OPERATION
takes a table operation on an undefined table too is deduced: log 27.) -/
def Obligations.StatusAndUndefinedRequests : Prop :=
  ∀ (r : Request) (rest : List Request) (s : State), Ready r rest s →
    operationOf r.operation =
      [Operation.read, .write, .exchange, .clear, .apply, .mode, .calibrate, .abortCal, .restart,
        .status][r.operation.toNat]? ∧
    (operationOf r.operation = some .status →
      exec .status s =
        .next (answer r .ok
          (.status
            { partTime := s.headPort.partTime, mode := s.agent.mode, loaded := s.agent.active.isSome,
              generation := s.agent.generation, stagedModified := s.agent.stagedModified,
              applyPending := s.agent.applyPending, contextA := s.tubes.a.map (fun t => (t.stage, t.id)),
              contextB := s.tubes.b.map (fun t => (t.stage, t.id)), queueDepth := s.traceQueue.length,
              waitingDepth := s.pose.waiting.length, requestDepth := rest.length, freePages := s.wall.free.length,
              run := s.agent.run.map (fun x =>
                { head := x.head, traces := x.traces, counted := x.counted, notCounted := x.notCounted,
                  elapsed := (s.headPort.partTime - x.startTime).toNat }),
              worst := s.events.worst })
          (dequeued rest s))) ∧
    (PageLaw s →
      s.wall.free.length + ((pagesHeld s.tubes.a).length + (pagesHeld s.tubes.b).length) = 384) ∧
    (9 < r.operation.toNat → exec .undefinedOperation s = .next (answer r .badTable .none (dequeued rest s))) ∧
    (r.operation.toNat < 4 → 15 < r.table.toNat →
      exec .undefinedOperation s = .next (answer r .badTable .none (dequeued rest s)))

/-- The model's own choices. With no command waiting a step is one microsecond of part time (log 2), which wraps (R144). A
command whose condition does not hold leaves the state as it is: a timer or limit not due, a temperature below its age, an idle
engine, a link already in the state named, a frame while its link is DOWN, a request row that the oldest request does not name
(log 1, log 5, log 17). -/
def Obligations.IdleStepsAndCommandsNotDue : Prop :=
  ∀ s : State,
    (s.pending = [] →
      step s = .next (s.setHeadPort { s.headPort with
        partTime := BitVec.ofNat 32 ((s.headPort.partTime.toNat + 1) % 4294967296) })) ∧
    (s.headPort.link = .up → exec .headLinkUp s = .next s) ∧
    (s.headPort.link = .down →
      (∀ c, exec (.headLinkDown c) s = .next s) ∧ (∀ t, exec (.traceFrame t) s = .next s) ∧
      (∀ f, exec (.positionFrame f) s = .next s) ∧ (∀ f, exec (.temperatureFrame f) s = .next s) ∧
      (∀ r, exec (.headFrameRejected r) s = .next s) ∧ exec .timeMark s = .next s) ∧
    (s.mill.link = .up → exec .millLinkUp s = .next s) ∧
    (s.mill.link = .down →
      (∀ c, exec (.millLinkDown c) s = .next s) ∧ (∀ r, exec (.requestFrame r) s = .next s) ∧
      (∀ r, exec (.millFrameRejected r) s = .next s) ∧ exec .transmissionStart s = .next s) ∧
    (∀ h, headSilenceDue s h = false → exec (.headSilenceExpiry h) s = .next s) ∧
    (positionSilenceDue s = false → exec .positionSilenceExpiry s = .next s) ∧
    (∀ c, settleDue s c = false → exec (.settleLimitExpiry c) s = .next s) ∧
    (s.agent.run = none → exec .calibrationTimeout s = .next s) ∧
    (∀ x, s.agent.run = some x → (s.headPort.partTime - x.startTime).toNat < s.agent.timing.calibration * 1000 →
      exec .calibrationTimeout s = .next s) ∧
    (∀ m, s.headPort.lastMark = some m → (s.headPort.partTime - m).toNat < 1000 → exec .timeMark s = .next s) ∧
    (∀ m, s.headPort.markInFlight = some m → exec .timeMark s = .next s) ∧
    (s.headPort.markInFlight = none → exec .timeMarkSent s = .next s) ∧
    (∀ ch, (tableGet s.headPort.channels ch).held = none → exec (.tempRecordExpiry ch) s = .next s) ∧
    (∀ ch x, (tableGet s.headPort.channels ch).held = some x → (s.headPort.partTime - x.arrival).toNat < 2147483648 →
      exec (.tempRecordExpiry ch) s = .next s) ∧
    (s.evaluator = none → exec .evaluationCompletion s = .next s) ∧
    (s.traceQueue = [] → exec .evaluationStart s = .next s) ∧
    (s.drain = none → exec .mapFrameQueued s = .next s ∧ exec .mapEndQueued s = .next s) ∧
    (s.mill.transmitter = none → exec .transmissionCompletion s = .next s) ∧
    (s.agent.processing = none → exec .responseHeldRelease s = .next s) ∧
    (s.mill.requestQ = [] → ∀ i ∈ [Instr.read, .write, .exchange, .clear, .apply, .mode, .calibrate, .abortCal, .restart,
      .status, .undefinedOperation], exec i s = .next s) ∧
    (∀ r rest, s.mill.requestQ = r :: rest →
      (∀ x ∈ [(Operation.read, Instr.read), (.write, .write), (.exchange, .exchange), (.clear, .clear), (.apply, .apply),
        (.mode, .mode), (.calibrate, .calibrate), (.abortCal, .abortCal), (.restart, .restart), (.status, .status)],
        operationOf r.operation ≠ some x.1 → exec x.2 s = .next s) ∧
      (∀ op, operationOf r.operation = some op →
        (op ∈ [Operation.read, .write, .exchange, .clear] → (tableOf r.table).isSome = true) →
        exec .undefinedOperation s = .next s))
end

