-- ==== Sys2Proof/Laws/State.lean ====
section
/-! SUPPORT. Each block's update seen from each field of the state: one lemma per field and update, true by unfolding. -/

namespace Sys2Proof.Machine

@[simp] theorem State.setHeadPort_headPort (s : State) (x : HeadPort) : (s.setHeadPort x).headPort = x := rfl
@[simp] theorem State.setHeadPort_traceQueue (s : State) (x : HeadPort) : (s.setHeadPort x).traceQueue = s.traceQueue := rfl
@[simp] theorem State.setHeadPort_evaluator (s : State) (x : HeadPort) : (s.setHeadPort x).evaluator = s.evaluator := rfl
@[simp] theorem State.setHeadPort_pose (s : State) (x : HeadPort) : (s.setHeadPort x).pose = s.pose := rfl
@[simp] theorem State.setHeadPort_tubes (s : State) (x : HeadPort) : (s.setHeadPort x).tubes = s.tubes := rfl
@[simp] theorem State.setHeadPort_wall (s : State) (x : HeadPort) : (s.setHeadPort x).wall = s.wall := rfl
@[simp] theorem State.setHeadPort_drain (s : State) (x : HeadPort) : (s.setHeadPort x).drain = s.drain := rfl
@[simp] theorem State.setHeadPort_mill (s : State) (x : HeadPort) : (s.setHeadPort x).mill = s.mill := rfl
@[simp] theorem State.setHeadPort_agent (s : State) (x : HeadPort) : (s.setHeadPort x).agent = s.agent := rfl
@[simp] theorem State.setHeadPort_events (s : State) (x : HeadPort) : (s.setHeadPort x).events = s.events := rfl
@[simp] theorem State.setHeadPort_pending (s : State) (x : HeadPort) : (s.setHeadPort x).pending = s.pending := rfl

@[simp] theorem State.setTraceQueue_headPort (s : State) (x : List Trace) : (s.setTraceQueue x).headPort = s.headPort := rfl
@[simp] theorem State.setTraceQueue_traceQueue (s : State) (x : List Trace) : (s.setTraceQueue x).traceQueue = x := rfl
@[simp] theorem State.setTraceQueue_evaluator (s : State) (x : List Trace) : (s.setTraceQueue x).evaluator = s.evaluator := rfl
@[simp] theorem State.setTraceQueue_pose (s : State) (x : List Trace) : (s.setTraceQueue x).pose = s.pose := rfl
@[simp] theorem State.setTraceQueue_tubes (s : State) (x : List Trace) : (s.setTraceQueue x).tubes = s.tubes := rfl
@[simp] theorem State.setTraceQueue_wall (s : State) (x : List Trace) : (s.setTraceQueue x).wall = s.wall := rfl
@[simp] theorem State.setTraceQueue_drain (s : State) (x : List Trace) : (s.setTraceQueue x).drain = s.drain := rfl
@[simp] theorem State.setTraceQueue_mill (s : State) (x : List Trace) : (s.setTraceQueue x).mill = s.mill := rfl
@[simp] theorem State.setTraceQueue_agent (s : State) (x : List Trace) : (s.setTraceQueue x).agent = s.agent := rfl
@[simp] theorem State.setTraceQueue_events (s : State) (x : List Trace) : (s.setTraceQueue x).events = s.events := rfl
@[simp] theorem State.setTraceQueue_pending (s : State) (x : List Trace) : (s.setTraceQueue x).pending = s.pending := rfl

@[simp] theorem State.setEvaluator_headPort (s : State) (x : Option Evaluation) : (s.setEvaluator x).headPort = s.headPort := rfl
@[simp] theorem State.setEvaluator_traceQueue (s : State) (x : Option Evaluation) : (s.setEvaluator x).traceQueue = s.traceQueue := rfl
@[simp] theorem State.setEvaluator_evaluator (s : State) (x : Option Evaluation) : (s.setEvaluator x).evaluator = x := rfl
@[simp] theorem State.setEvaluator_pose (s : State) (x : Option Evaluation) : (s.setEvaluator x).pose = s.pose := rfl
@[simp] theorem State.setEvaluator_tubes (s : State) (x : Option Evaluation) : (s.setEvaluator x).tubes = s.tubes := rfl
@[simp] theorem State.setEvaluator_wall (s : State) (x : Option Evaluation) : (s.setEvaluator x).wall = s.wall := rfl
@[simp] theorem State.setEvaluator_drain (s : State) (x : Option Evaluation) : (s.setEvaluator x).drain = s.drain := rfl
@[simp] theorem State.setEvaluator_mill (s : State) (x : Option Evaluation) : (s.setEvaluator x).mill = s.mill := rfl
@[simp] theorem State.setEvaluator_agent (s : State) (x : Option Evaluation) : (s.setEvaluator x).agent = s.agent := rfl
@[simp] theorem State.setEvaluator_events (s : State) (x : Option Evaluation) : (s.setEvaluator x).events = s.events := rfl
@[simp] theorem State.setEvaluator_pending (s : State) (x : Option Evaluation) : (s.setEvaluator x).pending = s.pending := rfl

@[simp] theorem State.setPose_headPort (s : State) (x : PoseTracker) : (s.setPose x).headPort = s.headPort := rfl
@[simp] theorem State.setPose_traceQueue (s : State) (x : PoseTracker) : (s.setPose x).traceQueue = s.traceQueue := rfl
@[simp] theorem State.setPose_evaluator (s : State) (x : PoseTracker) : (s.setPose x).evaluator = s.evaluator := rfl
@[simp] theorem State.setPose_pose (s : State) (x : PoseTracker) : (s.setPose x).pose = x := rfl
@[simp] theorem State.setPose_tubes (s : State) (x : PoseTracker) : (s.setPose x).tubes = s.tubes := rfl
@[simp] theorem State.setPose_wall (s : State) (x : PoseTracker) : (s.setPose x).wall = s.wall := rfl
@[simp] theorem State.setPose_drain (s : State) (x : PoseTracker) : (s.setPose x).drain = s.drain := rfl
@[simp] theorem State.setPose_mill (s : State) (x : PoseTracker) : (s.setPose x).mill = s.mill := rfl
@[simp] theorem State.setPose_agent (s : State) (x : PoseTracker) : (s.setPose x).agent = s.agent := rfl
@[simp] theorem State.setPose_events (s : State) (x : PoseTracker) : (s.setPose x).events = s.events := rfl
@[simp] theorem State.setPose_pending (s : State) (x : PoseTracker) : (s.setPose x).pending = s.pending := rfl

@[simp] theorem State.setTubes_headPort (s : State) (x : TubeTracker) : (s.setTubes x).headPort = s.headPort := rfl
@[simp] theorem State.setTubes_traceQueue (s : State) (x : TubeTracker) : (s.setTubes x).traceQueue = s.traceQueue := rfl
@[simp] theorem State.setTubes_evaluator (s : State) (x : TubeTracker) : (s.setTubes x).evaluator = s.evaluator := rfl
@[simp] theorem State.setTubes_pose (s : State) (x : TubeTracker) : (s.setTubes x).pose = s.pose := rfl
@[simp] theorem State.setTubes_tubes (s : State) (x : TubeTracker) : (s.setTubes x).tubes = x := rfl
@[simp] theorem State.setTubes_wall (s : State) (x : TubeTracker) : (s.setTubes x).wall = s.wall := rfl
@[simp] theorem State.setTubes_drain (s : State) (x : TubeTracker) : (s.setTubes x).drain = s.drain := rfl
@[simp] theorem State.setTubes_mill (s : State) (x : TubeTracker) : (s.setTubes x).mill = s.mill := rfl
@[simp] theorem State.setTubes_agent (s : State) (x : TubeTracker) : (s.setTubes x).agent = s.agent := rfl
@[simp] theorem State.setTubes_events (s : State) (x : TubeTracker) : (s.setTubes x).events = s.events := rfl
@[simp] theorem State.setTubes_pending (s : State) (x : TubeTracker) : (s.setTubes x).pending = s.pending := rfl

@[simp] theorem State.setWall_headPort (s : State) (x : WallMap) : (s.setWall x).headPort = s.headPort := rfl
@[simp] theorem State.setWall_traceQueue (s : State) (x : WallMap) : (s.setWall x).traceQueue = s.traceQueue := rfl
@[simp] theorem State.setWall_evaluator (s : State) (x : WallMap) : (s.setWall x).evaluator = s.evaluator := rfl
@[simp] theorem State.setWall_pose (s : State) (x : WallMap) : (s.setWall x).pose = s.pose := rfl
@[simp] theorem State.setWall_tubes (s : State) (x : WallMap) : (s.setWall x).tubes = s.tubes := rfl
@[simp] theorem State.setWall_wall (s : State) (x : WallMap) : (s.setWall x).wall = x := rfl
@[simp] theorem State.setWall_drain (s : State) (x : WallMap) : (s.setWall x).drain = s.drain := rfl
@[simp] theorem State.setWall_mill (s : State) (x : WallMap) : (s.setWall x).mill = s.mill := rfl
@[simp] theorem State.setWall_agent (s : State) (x : WallMap) : (s.setWall x).agent = s.agent := rfl
@[simp] theorem State.setWall_events (s : State) (x : WallMap) : (s.setWall x).events = s.events := rfl
@[simp] theorem State.setWall_pending (s : State) (x : WallMap) : (s.setWall x).pending = s.pending := rfl

@[simp] theorem State.setDrain_headPort (s : State) (x : Option Drain) : (s.setDrain x).headPort = s.headPort := rfl
@[simp] theorem State.setDrain_traceQueue (s : State) (x : Option Drain) : (s.setDrain x).traceQueue = s.traceQueue := rfl
@[simp] theorem State.setDrain_evaluator (s : State) (x : Option Drain) : (s.setDrain x).evaluator = s.evaluator := rfl
@[simp] theorem State.setDrain_pose (s : State) (x : Option Drain) : (s.setDrain x).pose = s.pose := rfl
@[simp] theorem State.setDrain_tubes (s : State) (x : Option Drain) : (s.setDrain x).tubes = s.tubes := rfl
@[simp] theorem State.setDrain_wall (s : State) (x : Option Drain) : (s.setDrain x).wall = s.wall := rfl
@[simp] theorem State.setDrain_drain (s : State) (x : Option Drain) : (s.setDrain x).drain = x := rfl
@[simp] theorem State.setDrain_mill (s : State) (x : Option Drain) : (s.setDrain x).mill = s.mill := rfl
@[simp] theorem State.setDrain_agent (s : State) (x : Option Drain) : (s.setDrain x).agent = s.agent := rfl
@[simp] theorem State.setDrain_events (s : State) (x : Option Drain) : (s.setDrain x).events = s.events := rfl
@[simp] theorem State.setDrain_pending (s : State) (x : Option Drain) : (s.setDrain x).pending = s.pending := rfl

@[simp] theorem State.setMill_headPort (s : State) (x : MillPort) : (s.setMill x).headPort = s.headPort := rfl
@[simp] theorem State.setMill_traceQueue (s : State) (x : MillPort) : (s.setMill x).traceQueue = s.traceQueue := rfl
@[simp] theorem State.setMill_evaluator (s : State) (x : MillPort) : (s.setMill x).evaluator = s.evaluator := rfl
@[simp] theorem State.setMill_pose (s : State) (x : MillPort) : (s.setMill x).pose = s.pose := rfl
@[simp] theorem State.setMill_tubes (s : State) (x : MillPort) : (s.setMill x).tubes = s.tubes := rfl
@[simp] theorem State.setMill_wall (s : State) (x : MillPort) : (s.setMill x).wall = s.wall := rfl
@[simp] theorem State.setMill_drain (s : State) (x : MillPort) : (s.setMill x).drain = s.drain := rfl
@[simp] theorem State.setMill_mill (s : State) (x : MillPort) : (s.setMill x).mill = x := rfl
@[simp] theorem State.setMill_agent (s : State) (x : MillPort) : (s.setMill x).agent = s.agent := rfl
@[simp] theorem State.setMill_events (s : State) (x : MillPort) : (s.setMill x).events = s.events := rfl
@[simp] theorem State.setMill_pending (s : State) (x : MillPort) : (s.setMill x).pending = s.pending := rfl

@[simp] theorem State.setAgent_headPort (s : State) (x : Agent) : (s.setAgent x).headPort = s.headPort := rfl
@[simp] theorem State.setAgent_traceQueue (s : State) (x : Agent) : (s.setAgent x).traceQueue = s.traceQueue := rfl
@[simp] theorem State.setAgent_evaluator (s : State) (x : Agent) : (s.setAgent x).evaluator = s.evaluator := rfl
@[simp] theorem State.setAgent_pose (s : State) (x : Agent) : (s.setAgent x).pose = s.pose := rfl
@[simp] theorem State.setAgent_tubes (s : State) (x : Agent) : (s.setAgent x).tubes = s.tubes := rfl
@[simp] theorem State.setAgent_wall (s : State) (x : Agent) : (s.setAgent x).wall = s.wall := rfl
@[simp] theorem State.setAgent_drain (s : State) (x : Agent) : (s.setAgent x).drain = s.drain := rfl
@[simp] theorem State.setAgent_mill (s : State) (x : Agent) : (s.setAgent x).mill = s.mill := rfl
@[simp] theorem State.setAgent_agent (s : State) (x : Agent) : (s.setAgent x).agent = x := rfl
@[simp] theorem State.setAgent_events (s : State) (x : Agent) : (s.setAgent x).events = s.events := rfl
@[simp] theorem State.setAgent_pending (s : State) (x : Agent) : (s.setAgent x).pending = s.pending := rfl

@[simp] theorem State.setEvents_headPort (s : State) (x : EventUnit) : (s.setEvents x).headPort = s.headPort := rfl
@[simp] theorem State.setEvents_traceQueue (s : State) (x : EventUnit) : (s.setEvents x).traceQueue = s.traceQueue := rfl
@[simp] theorem State.setEvents_evaluator (s : State) (x : EventUnit) : (s.setEvents x).evaluator = s.evaluator := rfl
@[simp] theorem State.setEvents_pose (s : State) (x : EventUnit) : (s.setEvents x).pose = s.pose := rfl
@[simp] theorem State.setEvents_tubes (s : State) (x : EventUnit) : (s.setEvents x).tubes = s.tubes := rfl
@[simp] theorem State.setEvents_wall (s : State) (x : EventUnit) : (s.setEvents x).wall = s.wall := rfl
@[simp] theorem State.setEvents_drain (s : State) (x : EventUnit) : (s.setEvents x).drain = s.drain := rfl
@[simp] theorem State.setEvents_mill (s : State) (x : EventUnit) : (s.setEvents x).mill = s.mill := rfl
@[simp] theorem State.setEvents_agent (s : State) (x : EventUnit) : (s.setEvents x).agent = s.agent := rfl
@[simp] theorem State.setEvents_events (s : State) (x : EventUnit) : (s.setEvents x).events = x := rfl
@[simp] theorem State.setEvents_pending (s : State) (x : EventUnit) : (s.setEvents x).pending = s.pending := rfl

@[simp] theorem tick_traceQueue (s : State) : (tick s).traceQueue = s.traceQueue := rfl
@[simp] theorem tick_evaluator (s : State) : (tick s).evaluator = s.evaluator := rfl
@[simp] theorem tick_pose (s : State) : (tick s).pose = s.pose := rfl
@[simp] theorem tick_tubes (s : State) : (tick s).tubes = s.tubes := rfl
@[simp] theorem tick_wall (s : State) : (tick s).wall = s.wall := rfl
@[simp] theorem tick_drain (s : State) : (tick s).drain = s.drain := rfl
@[simp] theorem tick_mill (s : State) : (tick s).mill = s.mill := rfl
@[simp] theorem tick_agent (s : State) : (tick s).agent = s.agent := rfl
@[simp] theorem tick_events (s : State) : (tick s).events = s.events := rfl
@[simp] theorem tick_pending (s : State) : (tick s).pending = s.pending := rfl
@[simp] theorem tick_headPort (s : State) :
    (tick s).headPort = { s.headPort with partTime := s.headPort.partTime + 1 } := rfl

@[simp] theorem modHead_traceQueue (h : HeadNo) (f : HeadRecord → HeadRecord) (s : State) : (modHead h f s).traceQueue = s.traceQueue := rfl
@[simp] theorem modHead_evaluator (h : HeadNo) (f : HeadRecord → HeadRecord) (s : State) : (modHead h f s).evaluator = s.evaluator := rfl
@[simp] theorem modHead_pose (h : HeadNo) (f : HeadRecord → HeadRecord) (s : State) : (modHead h f s).pose = s.pose := rfl
@[simp] theorem modHead_tubes (h : HeadNo) (f : HeadRecord → HeadRecord) (s : State) : (modHead h f s).tubes = s.tubes := rfl
@[simp] theorem modHead_wall (h : HeadNo) (f : HeadRecord → HeadRecord) (s : State) : (modHead h f s).wall = s.wall := rfl
@[simp] theorem modHead_drain (h : HeadNo) (f : HeadRecord → HeadRecord) (s : State) : (modHead h f s).drain = s.drain := rfl
@[simp] theorem modHead_mill (h : HeadNo) (f : HeadRecord → HeadRecord) (s : State) : (modHead h f s).mill = s.mill := rfl
@[simp] theorem modHead_agent (h : HeadNo) (f : HeadRecord → HeadRecord) (s : State) : (modHead h f s).agent = s.agent := rfl
@[simp] theorem modHead_events (h : HeadNo) (f : HeadRecord → HeadRecord) (s : State) : (modHead h f s).events = s.events := rfl
@[simp] theorem modHead_pending (h : HeadNo) (f : HeadRecord → HeadRecord) (s : State) : (modHead h f s).pending = s.pending := rfl

@[simp] theorem modChannel_traceQueue (ch : ChannelNo) (f : ChannelRecord → ChannelRecord) (s : State) : (modChannel ch f s).traceQueue = s.traceQueue := rfl
@[simp] theorem modChannel_evaluator (ch : ChannelNo) (f : ChannelRecord → ChannelRecord) (s : State) : (modChannel ch f s).evaluator = s.evaluator := rfl
@[simp] theorem modChannel_pose (ch : ChannelNo) (f : ChannelRecord → ChannelRecord) (s : State) : (modChannel ch f s).pose = s.pose := rfl
@[simp] theorem modChannel_tubes (ch : ChannelNo) (f : ChannelRecord → ChannelRecord) (s : State) : (modChannel ch f s).tubes = s.tubes := rfl
@[simp] theorem modChannel_wall (ch : ChannelNo) (f : ChannelRecord → ChannelRecord) (s : State) : (modChannel ch f s).wall = s.wall := rfl
@[simp] theorem modChannel_drain (ch : ChannelNo) (f : ChannelRecord → ChannelRecord) (s : State) : (modChannel ch f s).drain = s.drain := rfl
@[simp] theorem modChannel_mill (ch : ChannelNo) (f : ChannelRecord → ChannelRecord) (s : State) : (modChannel ch f s).mill = s.mill := rfl
@[simp] theorem modChannel_agent (ch : ChannelNo) (f : ChannelRecord → ChannelRecord) (s : State) : (modChannel ch f s).agent = s.agent := rfl
@[simp] theorem modChannel_events (ch : ChannelNo) (f : ChannelRecord → ChannelRecord) (s : State) : (modChannel ch f s).events = s.events := rfl
@[simp] theorem modChannel_pending (ch : ChannelNo) (f : ChannelRecord → ChannelRecord) (s : State) : (modChannel ch f s).pending = s.pending := rfl

@[simp] theorem modHeadCounters_traceQueue (f : HeadCounters → HeadCounters) (s : State) : (modHeadCounters f s).traceQueue = s.traceQueue := rfl
@[simp] theorem modHeadCounters_evaluator (f : HeadCounters → HeadCounters) (s : State) : (modHeadCounters f s).evaluator = s.evaluator := rfl
@[simp] theorem modHeadCounters_pose (f : HeadCounters → HeadCounters) (s : State) : (modHeadCounters f s).pose = s.pose := rfl
@[simp] theorem modHeadCounters_tubes (f : HeadCounters → HeadCounters) (s : State) : (modHeadCounters f s).tubes = s.tubes := rfl
@[simp] theorem modHeadCounters_wall (f : HeadCounters → HeadCounters) (s : State) : (modHeadCounters f s).wall = s.wall := rfl
@[simp] theorem modHeadCounters_drain (f : HeadCounters → HeadCounters) (s : State) : (modHeadCounters f s).drain = s.drain := rfl
@[simp] theorem modHeadCounters_mill (f : HeadCounters → HeadCounters) (s : State) : (modHeadCounters f s).mill = s.mill := rfl
@[simp] theorem modHeadCounters_agent (f : HeadCounters → HeadCounters) (s : State) : (modHeadCounters f s).agent = s.agent := rfl
@[simp] theorem modHeadCounters_events (f : HeadCounters → HeadCounters) (s : State) : (modHeadCounters f s).events = s.events := rfl
@[simp] theorem modHeadCounters_pending (f : HeadCounters → HeadCounters) (s : State) : (modHeadCounters f s).pending = s.pending := rfl

@[simp] theorem modMillCounters_headPort (f : MillCounters → MillCounters) (s : State) : (modMillCounters f s).headPort = s.headPort := rfl
@[simp] theorem modMillCounters_traceQueue (f : MillCounters → MillCounters) (s : State) : (modMillCounters f s).traceQueue = s.traceQueue := rfl
@[simp] theorem modMillCounters_evaluator (f : MillCounters → MillCounters) (s : State) : (modMillCounters f s).evaluator = s.evaluator := rfl
@[simp] theorem modMillCounters_pose (f : MillCounters → MillCounters) (s : State) : (modMillCounters f s).pose = s.pose := rfl
@[simp] theorem modMillCounters_tubes (f : MillCounters → MillCounters) (s : State) : (modMillCounters f s).tubes = s.tubes := rfl
@[simp] theorem modMillCounters_wall (f : MillCounters → MillCounters) (s : State) : (modMillCounters f s).wall = s.wall := rfl
@[simp] theorem modMillCounters_drain (f : MillCounters → MillCounters) (s : State) : (modMillCounters f s).drain = s.drain := rfl
@[simp] theorem modMillCounters_agent (f : MillCounters → MillCounters) (s : State) : (modMillCounters f s).agent = s.agent := rfl
@[simp] theorem modMillCounters_events (f : MillCounters → MillCounters) (s : State) : (modMillCounters f s).events = s.events := rfl
@[simp] theorem modMillCounters_pending (f : MillCounters → MillCounters) (s : State) : (modMillCounters f s).pending = s.pending := rfl

@[simp] theorem putTube_headPort (c : Ctx) (x : Option Tube) (s : State) : (putTube c x s).headPort = s.headPort := rfl
@[simp] theorem putTube_traceQueue (c : Ctx) (x : Option Tube) (s : State) : (putTube c x s).traceQueue = s.traceQueue := rfl
@[simp] theorem putTube_evaluator (c : Ctx) (x : Option Tube) (s : State) : (putTube c x s).evaluator = s.evaluator := rfl
@[simp] theorem putTube_pose (c : Ctx) (x : Option Tube) (s : State) : (putTube c x s).pose = s.pose := rfl
@[simp] theorem putTube_wall (c : Ctx) (x : Option Tube) (s : State) : (putTube c x s).wall = s.wall := rfl
@[simp] theorem putTube_drain (c : Ctx) (x : Option Tube) (s : State) : (putTube c x s).drain = s.drain := rfl
@[simp] theorem putTube_mill (c : Ctx) (x : Option Tube) (s : State) : (putTube c x s).mill = s.mill := rfl
@[simp] theorem putTube_agent (c : Ctx) (x : Option Tube) (s : State) : (putTube c x s).agent = s.agent := rfl
@[simp] theorem putTube_events (c : Ctx) (x : Option Tube) (s : State) : (putTube c x s).events = s.events := rfl
@[simp] theorem putTube_pending (c : Ctx) (x : Option Tube) (s : State) : (putTube c x s).pending = s.pending := rfl

@[simp] theorem modTube_headPort (c : Ctx) (f : Tube → Tube) (s : State) : (modTube c f s).headPort = s.headPort := by
  unfold modTube; split <;> rfl
@[simp] theorem modTube_traceQueue (c : Ctx) (f : Tube → Tube) (s : State) : (modTube c f s).traceQueue = s.traceQueue := by
  unfold modTube; split <;> rfl
@[simp] theorem modTube_evaluator (c : Ctx) (f : Tube → Tube) (s : State) : (modTube c f s).evaluator = s.evaluator := by
  unfold modTube; split <;> rfl
@[simp] theorem modTube_pose (c : Ctx) (f : Tube → Tube) (s : State) : (modTube c f s).pose = s.pose := by
  unfold modTube; split <;> rfl
@[simp] theorem modTube_wall (c : Ctx) (f : Tube → Tube) (s : State) : (modTube c f s).wall = s.wall := by
  unfold modTube; split <;> rfl
@[simp] theorem modTube_drain (c : Ctx) (f : Tube → Tube) (s : State) : (modTube c f s).drain = s.drain := by
  unfold modTube; split <;> rfl
@[simp] theorem modTube_mill (c : Ctx) (f : Tube → Tube) (s : State) : (modTube c f s).mill = s.mill := by
  unfold modTube; split <;> rfl
@[simp] theorem modTube_agent (c : Ctx) (f : Tube → Tube) (s : State) : (modTube c f s).agent = s.agent := by
  unfold modTube; split <;> rfl
@[simp] theorem modTube_events (c : Ctx) (f : Tube → Tube) (s : State) : (modTube c f s).events = s.events := by
  unfold modTube; split <;> rfl
@[simp] theorem modTube_pending (c : Ctx) (f : Tube → Tube) (s : State) : (modTube c f s).pending = s.pending := by
  unfold modTube; split <;> rfl

end Sys2Proof.Machine
end

