-- ==== Sys2Proof/Laws/Tables.lean ====
section
/-! SUPPORT. Fixed tables, saturating counts and clamps, and the two contexts: what each operation on them answers. -/

namespace Sys2Proof.Machine

@[simp] theorem tableGet_tableSet_same {α : Type} {n : Nat} (v : Vector α n) (i : Fin n) (x : α) :
    tableGet (tableSet v i x) i = x := by
  simp [tableGet, tableSet]

theorem tableGet_tableSet_other {α : Type} {n : Nat} (v : Vector α n) {i j : Fin n} (x : α) (h : j ≠ i) :
    tableGet (tableSet v i x) j = tableGet v j := by
  have hv : i.val ≠ j.val := fun e => h (Fin.ext e.symm)
  simp [tableGet, tableSet, hv]

@[simp] theorem tableGet_tableMod_same {α : Type} {n : Nat} (v : Vector α n) (i : Fin n) (f : α → α) :
    tableGet (tableMod v i f) i = f (tableGet v i) := by
  simp [tableMod]

theorem tableGet_tableMod_other {α : Type} {n : Nat} (v : Vector α n) {i j : Fin n} (f : α → α) (h : j ≠ i) :
    tableGet (tableMod v i f) j = tableGet v j := by
  simp [tableMod, tableGet_tableSet_other v _ h]

theorem satAdd_le (cap n k : Nat) : satAdd cap n k ≤ cap := Nat.min_le_left _ _

theorem satInc_le (cap n : Nat) : satInc cap n ≤ cap := satAdd_le cap n 1

theorem satInc_pos {cap n : Nat} (h : 1 ≤ cap) : 1 ≤ satInc cap n := by
  unfold satInc satAdd; omega

theorem clamp_mem {lo hi : Nat} (n : Nat) (h : lo ≤ hi) : lo ≤ clamp lo hi n ∧ clamp lo hi n ≤ hi := by
  unfold clamp; omega

theorem clamp_of_mem {lo hi n : Nat} (h₁ : lo ≤ n) (h₂ : n ≤ hi) : clamp lo hi n = n := by
  unfold clamp; omega

@[simp] theorem otherCtx_otherCtx (c : Ctx) : otherCtx (otherCtx c) = c := by cases c <;> rfl

theorem otherCtx_ne (c : Ctx) : otherCtx c ≠ c := by cases c <;> decide

@[simp] theorem TubeTracker.get_put_same (t : TubeTracker) (c : Ctx) (x : Option Tube) : (t.put c x).get c = x := by
  cases c <;> rfl

@[simp] theorem TubeTracker.get_put_other (t : TubeTracker) (c : Ctx) (x : Option Tube) :
    (t.put c x).get (otherCtx c) = t.get (otherCtx c) := by
  cases c <;> rfl

@[simp] theorem tubeAt_putTube_same (c : Ctx) (x : Option Tube) (s : State) : tubeAt (putTube c x s) c = x := by
  cases c <;> rfl

@[simp] theorem tubeAt_putTube_other (c : Ctx) (x : Option Tube) (s : State) :
    tubeAt (putTube c x s) (otherCtx c) = tubeAt s (otherCtx c) := by
  cases c <;> rfl

/-- A tube record changed by `f`: absent stays absent. -/
theorem tubeAt_modTube_same (c : Ctx) (f : Tube → Tube) (s : State) : tubeAt (modTube c f s) c = (tubeAt s c).map f := by
  unfold modTube
  cases h : tubeAt s c <;> simp [h]

theorem tubeAt_modTube_other (c : Ctx) (f : Tube → Tube) (s : State) :
    tubeAt (modTube c f s) (otherCtx c) = tubeAt s (otherCtx c) := by
  unfold modTube
  cases h : tubeAt s c <;> simp

end Sys2Proof.Machine
end

