-- ==== Sys2Proof/Laws/Events.lean ====
section
/-! SUPPORT. Occurrences, notices, summaries and offers: the parts of the state that each leaves alone, and what it can do. -/

namespace Sys2Proof.Machine

@[simp] theorem noteWorst_headPort  (s : State) : (noteWorst s).headPort = s.headPort := rfl
@[simp] theorem noteWorst_traceQueue  (s : State) : (noteWorst s).traceQueue = s.traceQueue := rfl
@[simp] theorem noteWorst_evaluator  (s : State) : (noteWorst s).evaluator = s.evaluator := rfl
@[simp] theorem noteWorst_pose  (s : State) : (noteWorst s).pose = s.pose := rfl
@[simp] theorem noteWorst_wall  (s : State) : (noteWorst s).wall = s.wall := rfl
@[simp] theorem noteWorst_drain  (s : State) : (noteWorst s).drain = s.drain := rfl
@[simp] theorem noteWorst_agent  (s : State) : (noteWorst s).agent = s.agent := rfl
@[simp] theorem noteWorst_pending  (s : State) : (noteWorst s).pending = s.pending := rfl
@[simp] theorem noteWorst_events  (s : State) : (noteWorst s).events = s.events := rfl
@[simp] theorem noteWorst_mill  (s : State) : (noteWorst s).mill = s.mill := rfl

@[simp] theorem captureFailed_headPort (k : EventKind) (d : Detail) (s : State) : (captureFailed k d s).headPort = s.headPort := by
  unfold captureFailed; split <;> rfl
@[simp] theorem captureFailed_traceQueue (k : EventKind) (d : Detail) (s : State) : (captureFailed k d s).traceQueue = s.traceQueue := by
  unfold captureFailed; split <;> rfl
@[simp] theorem captureFailed_evaluator (k : EventKind) (d : Detail) (s : State) : (captureFailed k d s).evaluator = s.evaluator := by
  unfold captureFailed; split <;> rfl
@[simp] theorem captureFailed_pose (k : EventKind) (d : Detail) (s : State) : (captureFailed k d s).pose = s.pose := by
  unfold captureFailed; split <;> rfl
@[simp] theorem captureFailed_wall (k : EventKind) (d : Detail) (s : State) : (captureFailed k d s).wall = s.wall := by
  unfold captureFailed; split <;> rfl
@[simp] theorem captureFailed_drain (k : EventKind) (d : Detail) (s : State) : (captureFailed k d s).drain = s.drain := by
  unfold captureFailed; split <;> rfl
@[simp] theorem captureFailed_agent (k : EventKind) (d : Detail) (s : State) : (captureFailed k d s).agent = s.agent := by
  unfold captureFailed; split <;> rfl
@[simp] theorem captureFailed_pending (k : EventKind) (d : Detail) (s : State) : (captureFailed k d s).pending = s.pending := by
  unfold captureFailed; split <;> rfl
@[simp] theorem captureFailed_mill (k : EventKind) (d : Detail) (s : State) : (captureFailed k d s).mill = s.mill := by
  unfold captureFailed; split <;> rfl
@[simp] theorem captureFailed_tubes (k : EventKind) (d : Detail) (s : State) : (captureFailed k d s).tubes = s.tubes := by
  unfold captureFailed; split <;> rfl

@[simp] theorem countOccurrence_headPort (k : EventKind) (d : Detail) (s : State) : (countOccurrence k d s).headPort = s.headPort := by
  simp only [countOccurrence]; split <;> simp
@[simp] theorem countOccurrence_traceQueue (k : EventKind) (d : Detail) (s : State) : (countOccurrence k d s).traceQueue = s.traceQueue := by
  simp only [countOccurrence]; split <;> simp
@[simp] theorem countOccurrence_evaluator (k : EventKind) (d : Detail) (s : State) : (countOccurrence k d s).evaluator = s.evaluator := by
  simp only [countOccurrence]; split <;> simp
@[simp] theorem countOccurrence_pose (k : EventKind) (d : Detail) (s : State) : (countOccurrence k d s).pose = s.pose := by
  simp only [countOccurrence]; split <;> simp
@[simp] theorem countOccurrence_wall (k : EventKind) (d : Detail) (s : State) : (countOccurrence k d s).wall = s.wall := by
  simp only [countOccurrence]; split <;> simp
@[simp] theorem countOccurrence_drain (k : EventKind) (d : Detail) (s : State) : (countOccurrence k d s).drain = s.drain := by
  simp only [countOccurrence]; split <;> simp
@[simp] theorem countOccurrence_agent (k : EventKind) (d : Detail) (s : State) : (countOccurrence k d s).agent = s.agent := by
  simp only [countOccurrence]; split <;> simp
@[simp] theorem countOccurrence_pending (k : EventKind) (d : Detail) (s : State) : (countOccurrence k d s).pending = s.pending := by
  simp only [countOccurrence]; split <;> simp
@[simp] theorem countOccurrence_mill (k : EventKind) (d : Detail) (s : State) : (countOccurrence k d s).mill = s.mill := by
  simp only [countOccurrence]; split <;> simp

@[simp] theorem countDropped_headPort (cl : Fin 6) (s : State) : (countDropped cl s).headPort = s.headPort := rfl
@[simp] theorem countDropped_traceQueue (cl : Fin 6) (s : State) : (countDropped cl s).traceQueue = s.traceQueue := rfl
@[simp] theorem countDropped_evaluator (cl : Fin 6) (s : State) : (countDropped cl s).evaluator = s.evaluator := rfl
@[simp] theorem countDropped_pose (cl : Fin 6) (s : State) : (countDropped cl s).pose = s.pose := rfl
@[simp] theorem countDropped_wall (cl : Fin 6) (s : State) : (countDropped cl s).wall = s.wall := rfl
@[simp] theorem countDropped_drain (cl : Fin 6) (s : State) : (countDropped cl s).drain = s.drain := rfl
@[simp] theorem countDropped_agent (cl : Fin 6) (s : State) : (countDropped cl s).agent = s.agent := rfl
@[simp] theorem countDropped_pending (cl : Fin 6) (s : State) : (countDropped cl s).pending = s.pending := rfl
@[simp] theorem countDropped_tubes (cl : Fin 6) (s : State) : (countDropped cl s).tubes = s.tubes := rfl
@[simp] theorem countDropped_events (cl : Fin 6) (s : State) : (countDropped cl s).events = s.events := rfl

@[simp] theorem offerNotice_headPort (n : Notice) (s : State) : (offerNotice n s).headPort = s.headPort := by
  unfold offerNotice; split <;> simp
@[simp] theorem offerNotice_traceQueue (n : Notice) (s : State) : (offerNotice n s).traceQueue = s.traceQueue := by
  unfold offerNotice; split <;> simp
@[simp] theorem offerNotice_evaluator (n : Notice) (s : State) : (offerNotice n s).evaluator = s.evaluator := by
  unfold offerNotice; split <;> simp
@[simp] theorem offerNotice_pose (n : Notice) (s : State) : (offerNotice n s).pose = s.pose := by
  unfold offerNotice; split <;> simp
@[simp] theorem offerNotice_wall (n : Notice) (s : State) : (offerNotice n s).wall = s.wall := by
  unfold offerNotice; split <;> simp
@[simp] theorem offerNotice_drain (n : Notice) (s : State) : (offerNotice n s).drain = s.drain := by
  unfold offerNotice; split <;> simp
@[simp] theorem offerNotice_agent (n : Notice) (s : State) : (offerNotice n s).agent = s.agent := by
  unfold offerNotice; split <;> simp
@[simp] theorem offerNotice_pending (n : Notice) (s : State) : (offerNotice n s).pending = s.pending := by
  unfold offerNotice; split <;> simp

@[simp] theorem raise_headPort (k : EventKind) (d : Detail) (s : State) : (raise k d s).headPort = s.headPort := by
  simp only [raise]; split <;> simp
@[simp] theorem raise_traceQueue (k : EventKind) (d : Detail) (s : State) : (raise k d s).traceQueue = s.traceQueue := by
  simp only [raise]; split <;> simp
@[simp] theorem raise_evaluator (k : EventKind) (d : Detail) (s : State) : (raise k d s).evaluator = s.evaluator := by
  simp only [raise]; split <;> simp
@[simp] theorem raise_pose (k : EventKind) (d : Detail) (s : State) : (raise k d s).pose = s.pose := by
  simp only [raise]; split <;> simp
@[simp] theorem raise_wall (k : EventKind) (d : Detail) (s : State) : (raise k d s).wall = s.wall := by
  simp only [raise]; split <;> simp
@[simp] theorem raise_drain (k : EventKind) (d : Detail) (s : State) : (raise k d s).drain = s.drain := by
  simp only [raise]; split <;> simp
@[simp] theorem raise_agent (k : EventKind) (d : Detail) (s : State) : (raise k d s).agent = s.agent := by
  simp only [raise]; split <;> simp
@[simp] theorem raise_pending (k : EventKind) (d : Detail) (s : State) : (raise k d s).pending = s.pending := by
  simp only [raise]; split <;> simp

@[simp] theorem offerSummary_headPort (f : SummaryFrame) (s : State) : (offerSummary f s).headPort = s.headPort := by
  unfold offerSummary; split <;> simp
@[simp] theorem offerSummary_traceQueue (f : SummaryFrame) (s : State) : (offerSummary f s).traceQueue = s.traceQueue := by
  unfold offerSummary; split <;> simp
@[simp] theorem offerSummary_evaluator (f : SummaryFrame) (s : State) : (offerSummary f s).evaluator = s.evaluator := by
  unfold offerSummary; split <;> simp
@[simp] theorem offerSummary_pose (f : SummaryFrame) (s : State) : (offerSummary f s).pose = s.pose := by
  unfold offerSummary; split <;> simp
@[simp] theorem offerSummary_wall (f : SummaryFrame) (s : State) : (offerSummary f s).wall = s.wall := by
  unfold offerSummary; split <;> simp
@[simp] theorem offerSummary_drain (f : SummaryFrame) (s : State) : (offerSummary f s).drain = s.drain := by
  unfold offerSummary; split <;> simp
@[simp] theorem offerSummary_agent (f : SummaryFrame) (s : State) : (offerSummary f s).agent = s.agent := by
  unfold offerSummary; split <;> simp
@[simp] theorem offerSummary_pending (f : SummaryFrame) (s : State) : (offerSummary f s).pending = s.pending := by
  unfold offerSummary; split <;> simp

@[simp] theorem modDecimation_headPort (h : HeadNo) (f : Decimation → Decimation) (s : State) : (modDecimation h f s).headPort = s.headPort := rfl
@[simp] theorem modDecimation_traceQueue (h : HeadNo) (f : Decimation → Decimation) (s : State) : (modDecimation h f s).traceQueue = s.traceQueue := rfl
@[simp] theorem modDecimation_evaluator (h : HeadNo) (f : Decimation → Decimation) (s : State) : (modDecimation h f s).evaluator = s.evaluator := rfl
@[simp] theorem modDecimation_pose (h : HeadNo) (f : Decimation → Decimation) (s : State) : (modDecimation h f s).pose = s.pose := rfl
@[simp] theorem modDecimation_wall (h : HeadNo) (f : Decimation → Decimation) (s : State) : (modDecimation h f s).wall = s.wall := rfl
@[simp] theorem modDecimation_drain (h : HeadNo) (f : Decimation → Decimation) (s : State) : (modDecimation h f s).drain = s.drain := rfl
@[simp] theorem modDecimation_agent (h : HeadNo) (f : Decimation → Decimation) (s : State) : (modDecimation h f s).agent = s.agent := rfl
@[simp] theorem modDecimation_pending (h : HeadNo) (f : Decimation → Decimation) (s : State) : (modDecimation h f s).pending = s.pending := rfl
@[simp] theorem modDecimation_tubes (h : HeadNo) (f : Decimation → Decimation) (s : State) : (modDecimation h f s).tubes = s.tubes := rfl
@[simp] theorem modDecimation_events (h : HeadNo) (f : Decimation → Decimation) (s : State) : (modDecimation h f s).events = s.events := rfl

@[simp] theorem offerReading_headPort (r : Reading) (s : State) : (offerReading r s).headPort = s.headPort := by
  unfold offerReading; split <;> simp
@[simp] theorem offerReading_traceQueue (r : Reading) (s : State) : (offerReading r s).traceQueue = s.traceQueue := by
  unfold offerReading; split <;> simp
@[simp] theorem offerReading_evaluator (r : Reading) (s : State) : (offerReading r s).evaluator = s.evaluator := by
  unfold offerReading; split <;> simp
@[simp] theorem offerReading_pose (r : Reading) (s : State) : (offerReading r s).pose = s.pose := by
  unfold offerReading; split <;> simp
@[simp] theorem offerReading_wall (r : Reading) (s : State) : (offerReading r s).wall = s.wall := by
  unfold offerReading; split <;> simp
@[simp] theorem offerReading_drain (r : Reading) (s : State) : (offerReading r s).drain = s.drain := by
  unfold offerReading; split <;> simp
@[simp] theorem offerReading_agent (r : Reading) (s : State) : (offerReading r s).agent = s.agent := by
  unfold offerReading; split <;> simp
@[simp] theorem offerReading_pending (r : Reading) (s : State) : (offerReading r s).pending = s.pending := by
  unfold offerReading; split <;> simp
@[simp] theorem offerReading_tubes (r : Reading) (s : State) : (offerReading r s).tubes = s.tubes := by
  unfold offerReading; split <;> simp
@[simp] theorem offerReading_events (r : Reading) (s : State) : (offerReading r s).events = s.events := by
  unfold offerReading; split <;> simp

@[simp] theorem offerMirror_headPort (m : MirrorFrame) (s : State) : (offerMirror m s).headPort = s.headPort := by
  unfold offerMirror; split <;> simp
@[simp] theorem offerMirror_traceQueue (m : MirrorFrame) (s : State) : (offerMirror m s).traceQueue = s.traceQueue := by
  unfold offerMirror; split <;> simp
@[simp] theorem offerMirror_evaluator (m : MirrorFrame) (s : State) : (offerMirror m s).evaluator = s.evaluator := by
  unfold offerMirror; split <;> simp
@[simp] theorem offerMirror_pose (m : MirrorFrame) (s : State) : (offerMirror m s).pose = s.pose := by
  unfold offerMirror; split <;> simp
@[simp] theorem offerMirror_wall (m : MirrorFrame) (s : State) : (offerMirror m s).wall = s.wall := by
  unfold offerMirror; split <;> simp
@[simp] theorem offerMirror_drain (m : MirrorFrame) (s : State) : (offerMirror m s).drain = s.drain := by
  unfold offerMirror; split <;> simp
@[simp] theorem offerMirror_agent (m : MirrorFrame) (s : State) : (offerMirror m s).agent = s.agent := by
  unfold offerMirror; split <;> simp
@[simp] theorem offerMirror_pending (m : MirrorFrame) (s : State) : (offerMirror m s).pending = s.pending := by
  unfold offerMirror; split <;> simp
@[simp] theorem offerMirror_tubes (m : MirrorFrame) (s : State) : (offerMirror m s).tubes = s.tubes := by
  unfold offerMirror; split <;> simp
@[simp] theorem offerMirror_events (m : MirrorFrame) (s : State) : (offerMirror m s).events = s.events := by
  unfold offerMirror; split <;> simp

@[simp] theorem decideReading_headPort (r : Reading) (s : State) : (decideReading r s).headPort = s.headPort := by
  simp only [decideReading]; split <;> (try split) <;> simp
@[simp] theorem decideReading_traceQueue (r : Reading) (s : State) : (decideReading r s).traceQueue = s.traceQueue := by
  simp only [decideReading]; split <;> (try split) <;> simp
@[simp] theorem decideReading_evaluator (r : Reading) (s : State) : (decideReading r s).evaluator = s.evaluator := by
  simp only [decideReading]; split <;> (try split) <;> simp
@[simp] theorem decideReading_pose (r : Reading) (s : State) : (decideReading r s).pose = s.pose := by
  simp only [decideReading]; split <;> (try split) <;> simp
@[simp] theorem decideReading_wall (r : Reading) (s : State) : (decideReading r s).wall = s.wall := by
  simp only [decideReading]; split <;> (try split) <;> simp
@[simp] theorem decideReading_drain (r : Reading) (s : State) : (decideReading r s).drain = s.drain := by
  simp only [decideReading]; split <;> (try split) <;> simp
@[simp] theorem decideReading_agent (r : Reading) (s : State) : (decideReading r s).agent = s.agent := by
  simp only [decideReading]; split <;> (try split) <;> simp
@[simp] theorem decideReading_pending (r : Reading) (s : State) : (decideReading r s).pending = s.pending := by
  simp only [decideReading]; split <;> (try split) <;> simp
@[simp] theorem decideReading_tubes (r : Reading) (s : State) : (decideReading r s).tubes = s.tubes := by
  simp only [decideReading]; split <;> (try split) <;> simp
@[simp] theorem decideReading_events (r : Reading) (s : State) : (decideReading r s).events = s.events := by
  simp only [decideReading]; split <;> (try split) <;> simp

@[simp] theorem decideMirror_headPort (m : MirrorFrame) (s : State) : (decideMirror m s).headPort = s.headPort := by
  simp only [decideMirror]; split <;> (try split) <;> simp
@[simp] theorem decideMirror_traceQueue (m : MirrorFrame) (s : State) : (decideMirror m s).traceQueue = s.traceQueue := by
  simp only [decideMirror]; split <;> (try split) <;> simp
@[simp] theorem decideMirror_evaluator (m : MirrorFrame) (s : State) : (decideMirror m s).evaluator = s.evaluator := by
  simp only [decideMirror]; split <;> (try split) <;> simp
@[simp] theorem decideMirror_pose (m : MirrorFrame) (s : State) : (decideMirror m s).pose = s.pose := by
  simp only [decideMirror]; split <;> (try split) <;> simp
@[simp] theorem decideMirror_wall (m : MirrorFrame) (s : State) : (decideMirror m s).wall = s.wall := by
  simp only [decideMirror]; split <;> (try split) <;> simp
@[simp] theorem decideMirror_drain (m : MirrorFrame) (s : State) : (decideMirror m s).drain = s.drain := by
  simp only [decideMirror]; split <;> (try split) <;> simp
@[simp] theorem decideMirror_agent (m : MirrorFrame) (s : State) : (decideMirror m s).agent = s.agent := by
  simp only [decideMirror]; split <;> (try split) <;> simp
@[simp] theorem decideMirror_pending (m : MirrorFrame) (s : State) : (decideMirror m s).pending = s.pending := by
  simp only [decideMirror]; split <;> (try split) <;> simp
@[simp] theorem decideMirror_tubes (m : MirrorFrame) (s : State) : (decideMirror m s).tubes = s.tubes := by
  simp only [decideMirror]; split <;> (try split) <;> simp
@[simp] theorem decideMirror_events (m : MirrorFrame) (s : State) : (decideMirror m s).events = s.events := by
  simp only [decideMirror]; split <;> (try split) <;> simp

@[simp] theorem compareSnapshot_headPort (h : HeadNo) (s : State) : (compareSnapshot h s).headPort = s.headPort := by
  unfold compareSnapshot; split <;> simp
@[simp] theorem compareSnapshot_traceQueue (h : HeadNo) (s : State) : (compareSnapshot h s).traceQueue = s.traceQueue := by
  unfold compareSnapshot; split <;> simp
@[simp] theorem compareSnapshot_evaluator (h : HeadNo) (s : State) : (compareSnapshot h s).evaluator = s.evaluator := by
  unfold compareSnapshot; split <;> simp
@[simp] theorem compareSnapshot_pose (h : HeadNo) (s : State) : (compareSnapshot h s).pose = s.pose := by
  unfold compareSnapshot; split <;> simp
@[simp] theorem compareSnapshot_wall (h : HeadNo) (s : State) : (compareSnapshot h s).wall = s.wall := by
  unfold compareSnapshot; split <;> simp
@[simp] theorem compareSnapshot_drain (h : HeadNo) (s : State) : (compareSnapshot h s).drain = s.drain := by
  unfold compareSnapshot; split <;> simp
@[simp] theorem compareSnapshot_agent (h : HeadNo) (s : State) : (compareSnapshot h s).agent = s.agent := by
  unfold compareSnapshot; split <;> simp
@[simp] theorem compareSnapshot_pending (h : HeadNo) (s : State) : (compareSnapshot h s).pending = s.pending := by
  unfold compareSnapshot; split <;> simp

/-! ### What an occurrence does to the records -/

@[simp] theorem captureFailed_records (k : EventKind) (d : Detail) (s : State) :
    (captureFailed k d s).events.records = s.events.records := by
  unfold captureFailed; split <;> rfl

@[simp] theorem captureFailed_snapshots (k : EventKind) (d : Detail) (s : State) :
    (captureFailed k d s).events.snapshots = s.events.snapshots := by
  unfold captureFailed; split <;> rfl

/-- An occurrence changes one record, by `EventRecord.occur`. -/
@[simp] theorem countOccurrence_records (k : EventKind) (d : Detail) (s : State) :
    (countOccurrence k d s).events.records = tableMod s.events.records k.index (EventRecord.occur s.now) := by
  simp only [countOccurrence]; split <;> simp

@[simp] theorem countOccurrence_snapshots (k : EventKind) (d : Detail) (s : State) :
    (countOccurrence k d s).events.snapshots = s.events.snapshots := by
  simp only [countOccurrence]; split <;> simp

/-- A NOTICE offered joins its queue, or is dropped, counted, and NOTICE_LOST occurs. -/
theorem offerNotice_cases (n : Notice) (s : State) :
    (s.mill.noticeQ.length < noticeCap ∧ offerNotice n s = s.setMill { s.mill with noticeQ := s.mill.noticeQ ++ [n] }) ∨
    (noticeCap ≤ s.mill.noticeQ.length ∧
      offerNotice n s = countOccurrence .noticeLost (.kind n.kind) (countDropped noticeClass s)) := by
  unfold offerNotice
  split
  · exact Or.inl ⟨‹_›, rfl⟩
  · exact Or.inr ⟨by omega, rfl⟩

/-- An occurrence is counted, and a NOTICE of it offered when it sets the flag of a record that reports. -/
theorem raise_cases (k : EventKind) (d : Detail) (s : State) :
    raise k d s = countOccurrence k d s ∨
    ((tableGet s.events.records k.index).flag = false ∧ (tableGet s.events.records k.index).report = true ∧
      k ≠ .noticeLost ∧
      raise k d s = offerNotice (noticeOf .occurrence k (some d) (countOccurrence k d s)) (countOccurrence k d s)) := by
  simp only [raise]
  split
  · rename_i h
    simp only [Bool.and_eq_true, Bool.not_eq_true', bne_iff_ne, ne_eq] at h
    exact Or.inr ⟨h.1.1, h.1.2, h.2, rfl⟩
  · exact Or.inl rfl

/-- A SUMMARY frame offered joins its queue, or is dropped, counted, and SUMMARY_LOST occurs. -/
theorem offerSummary_cases (f : SummaryFrame) (s : State) :
    (s.mill.summaryQ.length < summaryCap ∧
      offerSummary f s = s.setMill { s.mill with summaryQ := s.mill.summaryQ ++ [f] }) ∨
    (summaryCap ≤ s.mill.summaryQ.length ∧
      offerSummary f s = raise .summaryLost f.lostDetail (countDropped summaryClass s)) := by
  unfold offerSummary
  split
  · exact Or.inl ⟨‹_›, rfl⟩
  · exact Or.inr ⟨by omega, rfl⟩

/-- A RESPONSE offered joins its queue, or is held with its request. -/
theorem respond_cases (request : Request) (response : Response) (s : State) :
    (s.mill.responseQ.length < responseCap ∧
      respond request response s = s.setMill { s.mill with responseQ := s.mill.responseQ ++ [response] }) ∨
    (responseCap ≤ s.mill.responseQ.length ∧
      respond request response s =
        s.setAgent { s.agent with processing := some { request := request, response := response } }) := by
  unfold respond
  split
  · exact Or.inl ⟨‹_›, rfl⟩
  · exact Or.inr ⟨by omega, rfl⟩

/-- An occurrence sets the flag, raises the count from 0 to 1 or holds it in range, and leaves no time absent. -/
theorem EventRecord.occur_spec (now : Time) (r : EventRecord) :
    (r.occur now).flag = true ∧ (r.occur now).count = min 65535 (r.count + 1) ∧ (r.occur now).lastTime = some now ∧
    (r.occur now).firstTime = (if r.count = 0 then some now else r.firstTime) ∧
    (r.occur now).severity = r.severity ∧ (r.occur now).report = r.report :=
  ⟨rfl, rfl, rfl, rfl, rfl, rfl⟩

end Sys2Proof.Machine
end

