-- ==== Sys2Proof/Laws/Pool.lean ====
section
/-! SUPPORT. The page pool: a read after a write, a page cleared, and the canonical form that every pool operation keeps. -/

namespace Sys2Proof.Machine

@[simp] theorem readCell_dropCell_same (pool : List (Nat × Cell)) (a : Nat) : readCell (dropCell pool a) a = clearedCell := by
  induction pool with
  | nil => rfl
  | cons e rest ih =>
    obtain ⟨k, x⟩ := e
    by_cases h : k = a
    · simp [dropCell, h, ih]
    · simp [dropCell, h, readCell, ih]

theorem readCell_dropCell_other (pool : List (Nat × Cell)) {a b : Nat} (h : b ≠ a) :
    readCell (dropCell pool a) b = readCell pool b := by
  induction pool with
  | nil => rfl
  | cons e rest ih =>
    obtain ⟨k, x⟩ := e
    by_cases hk : k = a
    · have : k ≠ b := fun e => h (e ▸ hk)
      simp [dropCell, hk, readCell, ih, hk ▸ this]
    · simp [dropCell, hk, readCell, ih]

theorem readCell_listCell (pool : List (Nat × Cell)) (a b : Nat) (x : Cell) (h : b ≠ a) :
    readCell (listCell pool a x) b = readCell pool b := by
  induction pool with
  | nil => simp [listCell, readCell, Ne.symm h]
  | cons e rest ih =>
    obtain ⟨k, y⟩ := e
    by_cases hk : a < k
    · simp [listCell, hk, readCell, Ne.symm h]
    · by_cases hb : k = b
      · subst hb; simp [listCell, hk, readCell]
      · simp [listCell, hk, readCell, hb, ih]

/-- No entry of the pool lists address `a`. -/
def unlisted (pool : List (Nat × Cell)) (a : Nat) : Prop := ∀ e ∈ pool, e.1 ≠ a

theorem unlisted_dropCell (pool : List (Nat × Cell)) (a : Nat) : unlisted (dropCell pool a) a := by
  induction pool with
  | nil => intro e he; cases he
  | cons e rest ih =>
    obtain ⟨k, x⟩ := e
    by_cases h : k = a
    · simpa [dropCell, h] using ih
    · intro e he
      simp only [dropCell, h, if_false, List.mem_cons] at he
      rcases he with rfl | he
      · exact h
      · exact ih e he

theorem readCell_listCell_same (pool : List (Nat × Cell)) (a : Nat) (x : Cell) (h : unlisted pool a) :
    readCell (listCell pool a x) a = x := by
  induction pool with
  | nil => simp [listCell, readCell]
  | cons e rest ih =>
    obtain ⟨k, y⟩ := e
    have hk : k ≠ a := h (k, y) (List.mem_cons_self ..)
    by_cases hl : a < k
    · simp [listCell, hl, readCell]
    · simp [listCell, hl, readCell, hk, ih (fun e he => h e (List.mem_cons_of_mem _ he))]

/-- A read of the cell just written gives it. -/
@[simp] theorem readCell_writeCell_same (pool : List (Nat × Cell)) (a : Nat) (x : Cell) :
    readCell (writeCell pool a x) a = x := by
  unfold writeCell
  by_cases h : x = clearedCell
  · simp [h]
  · simp [h, readCell_listCell_same _ a x (unlisted_dropCell pool a)]

/-- A write leaves every other cell alone. -/
theorem readCell_writeCell_other (pool : List (Nat × Cell)) {a b : Nat} (x : Cell) (h : b ≠ a) :
    readCell (writeCell pool a x) b = readCell pool b := by
  unfold writeCell
  by_cases hx : x = clearedCell
  · simp [hx, readCell_dropCell_other pool h]
  · simp [hx, readCell_listCell _ a b x h, readCell_dropCell_other pool h]

/-- Every cell of a cleared page reads as cleared; every other cell as before. -/
theorem readCell_clearPage (pool : List (Nat × Cell)) (page a : Nat) :
    readCell (clearPage pool page) a = if a / 256 = page then clearedCell else readCell pool a := by
  induction pool with
  | nil => simp [clearPage, readCell]
  | cons e rest ih =>
    obtain ⟨k, x⟩ := e
    unfold clearPage at ih ⊢
    by_cases hk : k / 256 = page
    · by_cases ha : k = a
      · subst ha; simp [hk, ih]
      · simp [hk, ih, readCell, ha]
    · by_cases ha : k = a
      · subst ha; simp [hk, readCell]
      · simp [hk, readCell, ha, ih]

/-! ### The canonical form -/

/-- The canonical form in terms of bounds: above `low`, rising, nothing cleared. -/
theorem poolFrom_cons (low : Option Nat) (k : Nat) (x : Cell) (rest : List (Nat × Cell)) :
    poolFrom low ((k, x) :: rest) = true ↔ (∀ l, low = some l → l < k) ∧ x ≠ clearedCell ∧ poolFrom (some k) rest = true := by
  cases low <;> simp [poolFrom, and_assoc]

theorem poolFrom_weaken {low low' : Option Nat} {pool : List (Nat × Cell)}
    (h : ∀ l', low' = some l' → ∃ l, low = some l ∧ l' ≤ l) (hp : poolFrom low pool = true) : poolFrom low' pool = true := by
  cases pool with
  | nil => cases low' <;> rfl
  | cons e rest =>
    obtain ⟨k, x⟩ := e
    rw [poolFrom_cons] at hp ⊢
    refine ⟨fun l' hl' => ?_, hp.2⟩
    obtain ⟨l, hl, hle⟩ := h l' hl'
    have := hp.1 l hl
    omega

theorem poolFrom_dropCell {low : Option Nat} {pool : List (Nat × Cell)} (a : Nat) (hp : poolFrom low pool = true) :
    poolFrom low (dropCell pool a) = true := by
  induction pool generalizing low with
  | nil => cases low <;> rfl
  | cons e rest ih =>
    obtain ⟨k, x⟩ := e
    rw [poolFrom_cons] at hp
    by_cases h : k = a
    · simp only [dropCell, h, if_true]
      refine ih (poolFrom_weaken (low := some k) ?_ hp.2.2)
      intro l' hl'
      exact ⟨k, rfl, Nat.le_of_lt (hp.1 l' hl')⟩
    · simp only [dropCell, h, if_false, poolFrom_cons]
      exact ⟨hp.1, hp.2.1, ih hp.2.2⟩

theorem poolFrom_listCell {low : Option Nat} {pool : List (Nat × Cell)} {a : Nat} {x : Cell}
    (hp : poolFrom low pool = true) (hu : unlisted pool a) (hl : ∀ l, low = some l → l < a) (hx : x ≠ clearedCell) :
    poolFrom low (listCell pool a x) = true := by
  induction pool generalizing low with
  | nil => rw [listCell, poolFrom_cons]; exact ⟨hl, hx, rfl⟩
  | cons e rest ih =>
    obtain ⟨k, y⟩ := e
    have hp' := (poolFrom_cons low k y rest).1 hp
    have hk : k ≠ a := hu (k, y) (List.mem_cons_self ..)
    by_cases h : a < k
    · simp only [listCell, h, if_true, poolFrom_cons]
      exact ⟨hl, hx, fun l hl' => by cases hl'; exact h, hp'.2.1, hp'.2.2⟩
    · simp only [listCell, h, if_false, poolFrom_cons]
      refine ⟨hp'.1, hp'.2.1, ih hp'.2.2 (fun e he => hu e (List.mem_cons_of_mem _ he)) ?_⟩
      intro l hl'
      cases hl'
      omega

/-- A write keeps the canonical form. -/
theorem poolWf_writeCell {pool : List (Nat × Cell)} (a : Nat) (x : Cell) (hp : poolWf pool = true) :
    poolWf (writeCell pool a x) = true := by
  unfold writeCell
  by_cases h : x = clearedCell
  · simp only [h, if_true]; exact poolFrom_dropCell a hp
  · simp only [h, if_false]
    exact poolFrom_listCell (poolFrom_dropCell a hp) (unlisted_dropCell pool a) (by simp) h

theorem poolFrom_clearPage {low : Option Nat} {pool : List (Nat × Cell)} (page : Nat) (hp : poolFrom low pool = true) :
    poolFrom low (clearPage pool page) = true := by
  induction pool generalizing low with
  | nil => cases low <;> rfl
  | cons e rest ih =>
    obtain ⟨k, x⟩ := e
    rw [poolFrom_cons] at hp
    unfold clearPage at ih ⊢
    by_cases h : k / 256 = page
    · simp only [List.filter_cons, h, bne_self_eq_false, Bool.false_eq_true, if_false]
      refine ih (poolFrom_weaken (low := some k) ?_ hp.2.2)
      intro l' hl'
      exact ⟨k, rfl, Nat.le_of_lt (hp.1 l' hl')⟩
    · have hb : (k / 256 != page) = true := by simpa using h
      simp only [List.filter_cons, hb, if_true, poolFrom_cons]
      exact ⟨hp.1, hp.2.1, ih hp.2.2⟩

/-- Clearing a page keeps the canonical form. -/
theorem poolWf_clearPage {pool : List (Nat × Cell)} (page : Nat) (hp : poolWf pool = true) :
    poolWf (clearPage pool page) = true := poolFrom_clearPage page hp

/-- The pool after power-on reset is in canonical form. -/
theorem poolWf_reset : poolWf State.reset.wall.pool = true := rfl

end Sys2Proof.Machine
end

