-- ==== Sys2Proof/Laws/Requests.lean ====
section
/-! SUPPORT. Processing the oldest request: the three things it can do, and what refusing one leaves. -/

namespace Sys2Proof.Machine

/-- With a request in processing none is taken (R155). -/
theorem takeOldest_busy {want : Request → Bool} {work : Request → State → Answer} {s : State} {p : Processing}
    (h : s.agent.processing = some p) : takeOldest want work s = s := by
  simp [takeOldest, h]

/-- With an empty request queue none is taken. -/
theorem takeOldest_empty {want : Request → Bool} {work : Request → State → Answer} {s : State}
    (h : s.mill.requestQ = []) : takeOldest want work s = s := by
  unfold takeOldest
  rw [h]
  cases s.agent.processing <;> rfl

/-- A row that the oldest request does not name leaves the state as it is. -/
theorem takeOldest_unwanted {want : Request → Bool} {work : Request → State → Answer} {s : State} {r : Request}
    {rest : List Request} (h : s.mill.requestQ = r :: rest) (hw : want r = false) : takeOldest want work s = s := by
  unfold takeOldest
  rw [h]
  cases s.agent.processing <;> simp [hw]

/-- The oldest request, when the row names it, leaves the queue, its work is done and its RESPONSE offered. -/
theorem takeOldest_taken {want : Request → Bool} {work : Request → State → Answer} {s : State} {r : Request}
    {rest : List Request} (hp : s.agent.processing = none) (h : s.mill.requestQ = r :: rest) (hw : want r = true) :
    takeOldest want work s =
      let a := work r (s.setMill { s.mill with requestQ := rest })
      respond r { tag := r.tag, status := a.status, data := a.data } a.state := by
  simp [takeOldest, hp, h, hw]

/-- Everything that processing the oldest request can do: nothing, or that request's work and its RESPONSE. -/
theorem takeOldest_cases (want : Request → Bool) (work : Request → State → Answer) (s : State) :
    takeOldest want work s = s ∨
    ∃ r rest, s.agent.processing = none ∧ s.mill.requestQ = r :: rest ∧ want r = true ∧
      takeOldest want work s =
        let a := work r (s.setMill { s.mill with requestQ := rest })
        respond r { tag := r.tag, status := a.status, data := a.data } a.state := by
  cases hp : s.agent.processing with
  | some p => exact .inl (takeOldest_busy hp)
  | none =>
    cases hq : s.mill.requestQ with
    | nil => exact .inl (takeOldest_empty hq)
    | cons r rest =>
      cases hw : want r with
      | false => exact .inl (takeOldest_unwanted hq hw)
      | true => exact .inr ⟨r, rest, rfl, rfl, hw, takeOldest_taken hp hq hw⟩

@[simp] theorem refuse_state (st : Status) (s : State) : (refuse st s).state = s := rfl
@[simp] theorem refuse_status (st : Status) (s : State) : (refuse st s).status = st := rfl
@[simp] theorem refuse_data (st : Status) (s : State) : (refuse st s).data = .none := rfl

end Sys2Proof.Machine
end

