-- ==== Sys2Proof/Tests/Slice0.lean ====
section
/-! SUPPORT. Tests: the manual's worked sequences (each test names its section), one step on a small state each; the frames of
chapter 13 written out byte by byte; and a witness for the hypotheses of each statement. Expected figures come from the
manual, or from hand calculation by its rules, never from the model. -/

namespace Sys2Proof.Tests

set_option Elab.async false

open Sys2Proof.Machine

/-! ### Small states -/

/-- The state that a step answers. -/
def after (o : Host.Outcome State Fault Refusal) : State :=
  match o with
  | .next t => t
  | .fault f => nomatch f
  | .refused _ => State.reset

/-- Heads 2 and 5 as section 3.9 sets them up. -/
def head2 : HeadEntry :=
  { HeadEntry.default with enabled := 1, chainStart := 5, minSep := 100, minEnergy := 40, weakPct := 50, channel := 1,
                           angleOffset := 1024, axialOffset := 65236 }

def head5 : HeadEntry := { head2 with angleOffset := 3072, axialOffset := 400 }

/-- The gates of section 1.15: 5, 9 and 12; ABSOLUTE starts are 400 samples lower here, to keep the traces short. -/
def gate5 : GateEntry :=
  { kind := 0, enabled := 1, placement := 0, anchor := 0, offset := 0, width := 120, threshold := 600, next := 9 }

def gate9 : GateEntry :=
  { kind := 3, enabled := 0, placement := 0, anchor := 0, offset := 500, width := 400, threshold := 900, next := 12 }

def gate12 : GateEntry :=
  { kind := 1, enabled := 1, placement := 1, anchor := 0, offset := 560, width := 100, threshold := 400, next := 255 }

/-- The velocity table of section 2.9. -/
def speeds : Vector VelocityEntry 16 :=
  tableSet (tableSet Bank.default.velocity 0 { temperature := 1100, velocity := 5020 }) 1
    { temperature := 1200, velocity := 4960 }

/-- The recipe of the worked sequences, generation 7: S 16, bin_len 500, window 25,000..35,000. -/
def bank : Bank :=
  { heads := tableSet (tableSet Bank.default.heads 2 head2) 5 head5,
    gates := tableSet (tableSet (tableSet Bank.default.gates 5 gate5) 9 gate9) 12 gate12,
    velocityCount := 2, velocity := speeds,
    map := { MapSetup.default with windowLow := 25000, windowHigh := 35000, nominal := 29000 } }

/-- An intake record in this state. -/
def record (state : HeadState) (expected : Seq) (last arrival : Time) : HeadRecord :=
  { HeadRecord.reset with state := state, expected := some expected, lastTimestamp := some last, lastArrival := some arrival }

/-- In MEASURE under generation 7 with both links UP, heads 2 and 5 ACTIVE, at this part time. -/
def measuring (now : Time) : State :=
  { State.reset with
    headPort := { HeadPort.reset with
      link := .up, partTime := now,
      heads := tableSet (tableSet HeadPort.reset.heads 2 (record .active 12004 (now - 1000) (now - 500))) 5
        (record .active 100 (now - 1000) (now - 500)) },
    mill := { MillPort.reset with link := .up },
    agent := { Agent.reset with active := some bank, staged := bank, generation := 7, mode := .measure } }

/-- A tube of generation 7 in its first instant. -/
def tube (id : TubeId) (start : Time) (travel : Nat) : Tube := freshTube id start travel 7 bank .clear

/-- That tube ended at this time and travel, in this stage. -/
def ended (g : Stage) (t : Tube) (time : Time) (travel : Nat) (settle : Option Time) : Tube :=
  { t with
    stage := g, settleEntry := settle,
    ended := some { time := time, travel := travel, length := travel - t.startTravel, reason := .presenceEnd } }

/-- The state with these contexts; the newest-start mark names A. -/
def withTubes (s : State) (a b : Option Tube) : State :=
  s.setTubes { s.tubes with a := a, b := b, idCounter := 41, newest := some .a }

/-- The state with this request the oldest and only one. -/
def asking (s : State) (r : Request) : State := s.setMill { s.mill with requestQ := [r] }

/-- A request with tag 1. -/
def request (op table selector : Byte) (index : BitVec 16) (data : List Byte) : Request :=
  { tag := 1, operation := op, table := table, selector := selector, index := index, data := data }

/-- Status and data of the last RESPONSE queued. -/
def lastAnswer (s : State) : Option (Status × RespData) := s.mill.responseQ.getLast?.map (fun r => (r.status, r.data))

/-- How often a kind has occurred. -/
def countOf (s : State) (k : EventKind) : Nat := (tableGet s.events.records k.index).count

/-! ### Section 1.15 and 2.9: the head-3 trace; section 1.16: its short fellow -/

/-- An envelope with these values at these indices and 0 elsewhere. -/
def samples (n : Nat) (l : List (Nat × Nat)) : List (BitVec 16) :=
  (List.range n).map (fun i => BitVec.ofNat 16 (((l.find? (fun p => p.1 == i)).map Prod.snd).getD 0))

/-- The echoes of section 1.15, 400 samples lower: the peaks at 12 and 603 give the same time of flight. -/
def firstEcho : List (Nat × Nat) := [(8, 420), (9, 610), (10, 780), (11, 900), (12, 1500), (13, 1300), (14, 950)]
def secondEcho : List (Nat × Nat) := [(600, 310), (601, 450), (602, 700), (603, 1100), (604, 600)]

def trace3 (n : Nat) (l : List (Nat × Nat)) : Trace :=
  { head := 3, interval := .ns20, sequence := 41002, timestamp := 88100400, energy := 180, samples := samples n l }

def slice3 (temperature factor : Nat) : Slice :=
  { generation := 7, entry := { head2 with minEnergy := 40 }.latched, chain := latchChain bank head2, velocityCount := 2,
    velocity := speeds, windowLow := 25000, windowHigh := 35000, fallback := 1150, factor := factor, temperature := temperature,
    tempFallback := false, channel := some 1 }

def evaluation3 : Evaluation :=
  { trace := trace3 620 (firstEcho ++ secondEcho), slice := slice3 1180 65536, tie := .ordinary }

theorem test_chapter1_trace :
    let r := evaluate evaluation3
    r.delta = some 151218 ∧ r.echo1 = some 1500 ∧ r.echo2 = some 1100 ∧ r.echo3 = none ∧ r.velocity = 4972 ∧
    r.thickness = some 29369 ∧ r.outcome = .valid ∧ r.flags.weak = false ∧ r.flags.edge = false := by decide +kernel

/-- The first echo crosses 600 at 9 (610) and peaks at 12; the second crosses 400 at 601 and peaks at 603. -/
theorem test_gate_results :
    let w := walkChain (envelope evaluation3.trace.samples) Walk.start evaluation3.slice.chain
    w.echo1.echo?.map (fun e => (e.crossing, e.peak, e.amplitude)) = some (9, 12, 1500) ∧
    w.echo2.echo?.map (fun e => (e.crossing, e.peak, e.amplitude)) = some (601, 603, 1100) := by decide +kernel

theorem test_short_trace :
    let r := evaluate { evaluation3 with trace := trace3 500 firstEcho }
    r.outcome = .noEcho2 ∧ r.echo1 = some 1500 ∧ r.echo2 = none ∧ r.delta = none ∧ r.thickness = none := by decide +kernel

/-- Section 2.4's rounding, and section 2.10: k 66,031 at 1150 and at 1265 degrees. -/
theorem test_velocity_and_thickness :
    (velocityAt [⟨1100, 5020⟩, ⟨1200, 4961⟩] 1150).1 = 4990 ∧ effectiveVelocity 4990 66031 = 5028 ∧
    rawThickness 5028 151218 .ns20 = 29700 ∧ velocityAt [⟨1100, 5020⟩, ⟨1200, 4960⟩] 1265 = (4960, true) ∧
    effectiveVelocity 4960 66031 = 4997 ∧ rawThickness 4997 30000 .ns20 = 5856 := by decide +kernel

/-- Section 2.9: the evaluation starts at 88,103,000 with channel 1 at 1180 since 87,950,000; 500,001 µs old it is stale. -/
def starting (arrival : Time) : State :=
  let s := measuring 88103000
  (s.setHeadPort { s.headPort with
    channels := tableSet s.headPort.channels 1
      { held := some { temperature := 1180, arrival := arrival, reported := 87949700 }, received := 2417, faults := 3 }
    }).setTraceQueue [{ trace3 64 [] with head := 2 }]

theorem test_evaluationStart :
    ((after (exec .evaluationStart (starting 87950000))).evaluator.map (fun e => (e.slice.temperature, e.slice.tempFallback))) =
      some (1180, false) ∧
    ((after (exec .evaluationStart (starting 87602999))).evaluator.map (fun e => (e.slice.temperature, e.slice.tempFallback))) =
      some (1150, true) := by decide +kernel

/-- Section 1.16: the trace of a head that the active bank disables is withdrawn. -/
theorem test_evaluationStart_withdrawn :
    let s := after (exec .evaluationStart ((measuring 5).setTraceQueue [{ trace3 64 [] with head := 6 }]))
    s.evaluator = none ∧ s.traceQueue = [] ∧ (tableGet s.headPort.heads 6).idleDiscards = 1 := by decide +kernel

/-- Section 2.9: the TEMPERATURE frame during the evaluation. -/
theorem test_temperatureFrame :
    tableGet (after (exec (.temperatureFrame { channel := 1, timestamp := 88103720, ok := true, temperature := 1176 })
      ((starting 87950000).setHeadPort { (starting 87950000).headPort with partTime := 88104000 }))).headPort.channels 1 =
      { held := some { temperature := 1176, arrival := 88104000, reported := 88103720 }, received := 2418, faults := 3 } := by
  decide +kernel

/-- R28: at an age of 2^31 µs the record returns to NONE and keeps its counts. -/
theorem test_tempRecordExpiry :
    tableGet (after (exec (.tempRecordExpiry 1) (starting (88103000 - 2147483648)))).headPort.channels 1 =
      { held := none, received := 2417, faults := 3 } ∧
    (tableGet (after (exec (.tempRecordExpiry 1) (starting (88103000 - 2147483647)))).headPort.channels 1).held.isSome = true := by
  decide +kernel

/-! ### Section 3.9: start, pending readings, loss of the feed -/

def frameOf (time : Time) (angle : BitVec 16) (travel : BitVec 32) (present : Bool) : PositionFrame :=
  { sequence := 0, timestamp := time, angle := angle, travel := travel, present := present }

def f1 : Sample := sampleOf (frameOf 49996000 3886 120360 false)
def f2 : Sample := sampleOf (frameOf 49998000 3968 120380 true)
def f3 : Sample := sampleOf (frameOf 50000000 4050 120400 true)
def f4 : Sample := sampleOf (frameOf 50002000 36 120420 true)
def f5 : Sample := sampleOf (frameOf 50004000 118 120440 true)

/-- A feed that is LIVE since this time with these samples. -/
def feeding (s : State) (ring : List Sample) (waiting : List Reading) (presence : Presence) (last : Time) : State :=
  s.setPose { PoseTracker.reset with
    ring := ring, feed := .live, lastAcceptance := some last, waiting := waiting, presence := presence }

/-- A VALID reading of a head at a time, of generation 7. -/
def reading (h : HeadNo) (time : Time) (d : Nat) : Reading :=
  { head := h, sequence := 41002, timestamp := time, generation := 7, outcome := .valid,
    flags := { edge := false, weak := false, flaw := false, fallbackPair := false, tempClamp := false, tempFallback := false,
               saturated := false, extrapolated := false },
    delta := some 151218, echo1 := some 1500, echo2 := some 1100, echo3 := none, temperature := 1180, velocity := 4972,
    thickness := some d, placement := none, sector := none, bin := none, tubeId := none }

/-- F2 has been accepted: the run is at 1. -/
def beforeF3 : State :=
  let s := feeding (measuring 50000080) [f1, f2] [] .absent 49998080
  s.setPose { s.pose with runLength := 1, runFirst := some { timestamp := 49998000, travel := 120380 } }

theorem test_positionFrame_starts_a_tube :
    let s := after (exec (.positionFrame (frameOf 50000000 4050 120400 true)) beforeF3)
    s.pose.presence = .present ∧ s.pose.runLength = 0 ∧
    s.tubes.a.map (fun t => (t.stage, t.startTime, t.startTravel, t.generation)) = some (.active, 49998000, 120380, 7) := by
  decide +kernel

/-- Where a reading was placed, as its READING frame says. -/
def where_ (r : Reading) : Option Placement × Option Nat × Option Nat × Bool :=
  (r.placement, r.sector, r.bin, r.flags.extrapolated)

/-- Every head sends all its readings. -/
def reporting (s : State) : State :=
  s.setAgent { s.agent with output := Vector.replicate 8 { OutputEntry.default with reading := .all } }

/-- Rb and Rc wait on the pending list when F5 arrives. -/
def beforeF5 : State :=
  reporting (withTubes (feeding (measuring 50004080) [f1, f2, f3, f4]
    [reading 2 50002500 29000, reading 5 50003200 29000] .present 50002080) (some (tube 41 49998000 120380)) none)

theorem test_positionFrame_resolves :
    (after (exec (.positionFrame (frameOf 50004000 118 120440 true)) beforeF5)).mill.readingQ.map where_ =
      [(some .mapped, some 4, some 0, false), (some .beforeStart, none, none, false)] := by decide +kernel

/-- The state of section 3.9 after F4, with an evaluation whose reading has this timestamp. -/
def placing (time : Time) : State :=
  (reporting (withTubes (feeding (measuring 50002900) [f1, f2, f3, f4] [] .present 50002080)
    (some (tube 41 49998000 120380)) none)).setEvaluator
      (some { evaluation3 with trace := { evaluation3.trace with head := 2, timestamp := time } })

/-- Ra is interpolated at once; Rb joins the pending list. -/
theorem test_evaluationCompletion :
    (after (exec .evaluationCompletion (placing 50001000))).mill.readingQ.map where_ =
      [(some .mapped, some 3, some 0, false)] ∧
    (after (exec .evaluationCompletion (placing 50002500))).pose.waiting.length = 1 := by decide +kernel

/-- Rd waits when the feed falls silent. -/
def beforeSilence : State :=
  let s := reporting (withTubes (feeding (measuring 50014080) [f1, f2, f3, f4, f5] [reading 2 50009000 29000] .present 50004080)
    (some (tube 41 49998000 120380)) none)
  s.setHeadPort { s.headPort with heads := tableSet s.headPort.heads 2 (record .active 1 50003000 50003500) }

theorem test_positionSilenceExpiry :
    let s := after (exec .positionSilenceExpiry beforeSilence)
    s.pose.feed = .silent ∧ s.pose.silenceExpiries = 1 ∧ s.pose.presence = .present ∧ s.pose.waiting = [] ∧
    s.mill.readingQ.map where_ = [(some .mapped, some 5, some 0, true)] ∧ countOf s .positionLost = 1 ∧
    s.tubes.a.map (fun t => t.ended.map (fun e => (e.time, e.reason))) = some (some (50004000, .positionLost)) := by
  decide +kernel

/-! ### Section 4.10: settling and the tail boundary; section 5: cells and pages -/

/-- Tube 41 settles with nothing left to wait for but a full MAP class queue. -/
def settling : State :=
  let s := withTubes (measuring 62405100) (some (ended .settling (tube 41 60000000 200000) 62400000 263800 (some 62404080))) none
  (s.setMill { s.mill with mapQ := List.replicate 4 (.finish 40 0 0) }).setHeadPort { s.headPort with
    heads := tableSet (tableSet s.headPort.heads 2 (record .active 1 62403000 62403000)) 5 (record .active 1 62403500 62403500) }

theorem test_settleCompletion :
    let s := after (exec .settleCompletion settling)
    s.tubes.a.map Tube.stage = some .draining ∧ s.drain.map Drain.waiting = some true ∧
    s.mill.summaryQ.map (fun f => match f with | .tube t => (t.length, t.tailBin) | _ => (0, 0)) = [(63800, 117)] ∧
    countOf s .settleTimeout = 0 := by decide +kernel

/-- A digest of four rings: three of the body below bin 10 and one beyond; the figures by R80 by hand, 87,004 / 3 rounded. -/
def digested : Tube :=
  { tube 41 60000000 200000 with
    setup := { (tube 41 0 0).setup with binLen := 100, tailZone := 200 }, nextRing := 11,
    digest := [⟨3, 29000, 28000, 1, 30000, 2, some 300⟩, ⟨7, 29001, 28000, 4, 30100, 5, none⟩,
      ⟨9, 29003, 28100, 0, 30100, 6, some 300⟩, ⟨10, 29900, 20000, 0, 40000, 6, some 900⟩] }

def endAt (length : Nat) : TubeEnd := { time := 62400000, travel := 200000 + length, length := length, reason := .presenceEnd }

theorem test_summary :
    (summaryOf digested (endAt 1200)).tailBin = 10 ∧
    (summaryOf digested (endAt 1200)).body =
      { count := 3, mean := some 29001, min := some (28000, 3, 1), max := some (30100, 7, 5), maxEccentricity := some (300, 3) } ∧
    (summaryOf digested (endAt 199)).body =
      { count := 0, mean := none, min := none, max := none, maxEccentricity := none } := by decide +kernel

/-- The settle limit of 50 ms, reached exactly while a head is still waited for. -/
def settleLimit : State :=
  settling.setHeadPort { settling.headPort with
    partTime := 62454080, heads := tableSet settling.headPort.heads 2 (record .active 1 62399000 62400000) }

theorem test_settleLimitExpiry :
    let s := after (exec (.settleLimitExpiry .a) settleLimit)
    s.tubes.a.map Tube.stage = some .draining ∧ countOf s .settleTimeout = 1 ∧
    settleCondition settleLimit (tube 41 60000000 200000) 62400000 = false := by decide +kernel

/-- Section 5.8: page 311, bin 23, sector 5, cell index 117. -/
def cellBefore : Cell :=
  { count := 2, sum := some 58760, min := some 29340, max := some 29420, flaws := 0, extrapolated := false }

def mapping : State :=
  let t := { tube 42 60000000 200000 with nextRing := 20, directory := [(1, { page := 311, readings := 57 })] }
  (withTubes (measuring 60010000) none (some t)).setWall { pool := [(311 * 256 + 117, cellBefore)], free := [] }

theorem test_one_cell :
    let t := { tube 42 60000000 200000 with nextRing := 20, directory := [(1, { page := 311, readings := 57 })] }
    let one := placeValid .b t 23 5 (reading 2 0 29388) mapping
    let two := placeValid .b t 23 5 { reading 2 0 29301 with flags := { (reading 2 0 0).flags with flaw := true } } one.2
    let three := placeValid .b t 23 5 { reading 2 0 29455 with flags := { (reading 2 0 0).flags with extrapolated := true } } two.2
    one.1 = .mapped ∧
    readCell three.2.wall.pool (311 * 256 + 117) =
      { count := 5, sum := some 146904, min := some 29301, max := some 29455, flaws := 1, extrapolated := true } ∧
    three.2.tubes.b.map Tube.directory = some [(1, { page := 311, readings := 60 })] := by decide +kernel

/-- Section 5.9, cut down: A drains from its cursor at 123 with segments 123, 254 and 255 present and the MAP class queue
full; the free list is empty; S is 64 in both tubes. -/
def dry : State :=
  let t := fun id => { tube id 60000000 200000 with setup := { (tube id 0 0).setup with sectors := 64 } }
  let a := { ended .draining (t 41) 62400000 263800 none with
    directory := [(123, ⟨140, 9⟩), (254, ⟨18, 3⟩), (255, ⟨19, 4⟩)], pagesUsed := 256 }
  let b := { t 42 with nextRing := 980, pagesUsed := 251 }
  let s := (withTubes (measuring 65000000) (some a) (some b)).setWall { pool := [], free := [] }
  (s.setMill { s.mill with mapQ := List.replicate 4 (.finish 40 0 0) }).setDrain
    (some { ctx := .a, cursor := 123, sent := 123, waiting := true })

/-- Reading 3: segment 251 takes page 19 from segment 255. -/
theorem test_reclaim :
    let t := { tube 42 60000000 200000 with nextRing := 980, setup := { (tube 42 0 0).setup with sectors := 64 } }
    let p := placeValid .b t 1004 3 (reading 2 0 29000) dry
    p.1 = .mapped ∧ p.2.tubes.b.map (fun t => (t.directory, t.pagesTaken, t.pagesUsed)) = some ([(251, ⟨19, 1⟩)], 1, 252) ∧
    p.2.tubes.a.map (fun t => (t.directory.map Prod.fst, t.pagesLost)) = some ([123, 254], 1) ∧
    countOf p.2 .mapReclaim = 1 ∧ (placeValid .b t 1024 0 (reading 2 0 29000) dry).1 = .outOfMap := by decide +kernel

/-- A MAP frame leaves the queue: segment 123 follows, page 140 goes to the free list, the engine waits again at 124. -/
theorem test_transmissionStart :
    let s := after (exec .transmissionStart dry)
    s.mill.transmitter = some (.map (.finish 40 0 0)) ∧ s.mill.mapQ.length = 4 ∧ s.wall.free = [140] ∧
    s.drain = some { ctx := .a, cursor := 124, sent := 124, waiting := true } ∧
    s.tubes.a.map (fun t => t.directory.map Prod.fst) = some [254, 255] := by decide +kernel

/-- The same state with room for one MAP frame. -/
def roomy : State := dry.setMill { dry.mill with mapQ := List.replicate 3 (.finish 40 0 0) }

theorem test_mapFrameQueued :
    let s := after (exec .mapFrameQueued roomy)
    s.wall.free = [140] ∧ s.drain = some { ctx := .a, cursor := 124, sent := 124, waiting := true } ∧
    (s.mill.mapQ.getLast?.map (fun f => match f with | .page p => (p.tubeId, p.segment, p.firstBin, p.readings) | _ => (0, 0, 0, 0))) =
      some (41, 123, 492, 9) := by decide +kernel

/-- The drained context: nothing present any more, 254 sent, 2 reclaimed. -/
def drained : State :=
  let a := { ended .draining (tube 41 60000000 200000) 62400000 263800 none with pagesLost := 2 }
  (withTubes roomy (some a) none).setDrain (some { ctx := .a, cursor := 254, sent := 254, waiting := false })

theorem test_mapEndQueued :
    let s := after (exec .mapEndQueued drained)
    s.mill.mapQ.getLast? = some (.finish 41 254 2) ∧ s.tubes.a = none ∧ s.drain = none ∧
    s.tubes.retiredA = some { id := 41, startTime := 60000000, endTime := 62400000 } := by decide +kernel

/-- Both contexts wait; the older tube, which the mark does not name, is drained first. -/
def waiting : State :=
  (withTubes dry (some (ended .closedWait (tube 43 65800000 0) 65900000 5000 none))
    (some (ended .closedWait (tube 42 63000000 0) 65100000 5000 none))).setDrain none

theorem test_drainBegin :
    (after (exec .drainBegin waiting)).drain = some { ctx := .b, cursor := 0, sent := 0, waiting := true } := by decide +kernel

/-- R95 to R99 by hand, with an empty MAP class queue: B's two segments and its MAP_END are queued in one step, B is FREE, and A
has its turn with the room that is left, for one of its two segments. -/
def twoDrains : State :=
  let b := { ended .closedWait (tube 40 1000 0) 2000 5000 none with directory := [(7, ⟨12, 1⟩), (9, ⟨3, 1⟩)] }
  let a := { ended .closedWait (tube 41 3000 0) 4000 5000 none with directory := [(0, ⟨5, 1⟩), (2, ⟨6, 1⟩)] }
  (withTubes (measuring 9) (some a) (some b)).setWall
    { WallMap.reset with free := (List.range 384).filter (fun p => p != 12 && p != 3 && p != 5 && p != 6) }

theorem test_drain_on :
    let s := after (exec .drainBegin twoDrains)
    s.mill.mapQ.map (fun f => match f with | .page p => (p.tubeId, p.segment) | .finish id _ _ => (id, 256)) =
      [(40, 7), (40, 9), (40, 256), (41, 0)] ∧
    s.tubes.b = none ∧ s.drain = some { ctx := .a, cursor := 1, sent := 1, waiting := true } ∧
    s.wall.free.drop 380 = [12, 3, 5] ∧ s.tubes.retiredB.map RetiredSpan.id = some 40 := by decide +kernel

/-- Section 12.8: neither context FREE; the older, B, is truncated and the capture filled. -/
def truncating : State :=
  let b := { ended .draining (tube 40 1000 0) 2000 5000 none with directory := [(7, ⟨12, 1⟩), (9, ⟨3, 1⟩)] }
  let s := (withTubes beforeF3 (some (ended .closedWait (tube 41 3000 0) 4000 5000 none)) (some b)).setDrain
    (some { ctx := .b, cursor := 5, sent := 5, waiting := true })
  (s.setMill { s.mill with mapQ := List.replicate 4 (.finish 39 0 0) }).setWall
    { s.wall with free := (List.range 384).filter (fun p => p != 12 && p != 3) }

theorem test_truncation :
    let s := after (exec (.positionFrame (frameOf 50000000 4050 120400 true)) truncating)
    s.wall.free.drop 382 = [12, 3] ∧ s.tubes.b.map Tube.id = some 42 ∧ s.drain.map Drain.ctx = some .a ∧
    s.tubes.retiredB = none ∧ s.events.worst = .failed ∧
    s.events.capture = some { kind := .drainTruncated, time := 50000080, tubeId := some 40, head := none,
                              stageA := some .closedWait, stageB := none, mode := .measure, queueDepth := 0, overflow := 0 } := by
  decide +kernel

/-- R173 with section 8.7: a RECIPE_REJECTED of severity FAILED, "CHAIN_INVALID, head 6", captures head 6. -/
theorem test_capture_head :
    let s := (measuring 9).setEvents { (measuring 9).events with
      records := tableMod (measuring 9).events.records 17 (fun r => { r with severity := .failed }) }
    (raise .recipeRejected (.failure .chainInvalid 6) s).events.capture.map Capture.head = some (some 6) ∧
    (raise .recipeRejected (.failure .mapInvalid 6) s).events.capture.map Capture.head = some none := by decide +kernel

/-! ### Sections 6.9 and 6.10: the ring of bin 40 -/

def cellWith (count sum flaws : Nat) : Cell :=
  { count := count, sum := some sum, min := some 20000, max := some 40000, flaws := flaws, extrapolated := false }

/-- Bin 40's cells 64..71 on page 0, with or without the reading of sector 6. -/
def ringState (six : Bool) : State :=
  State.reset.setWall { WallMap.reset with
    pool := [(64, cellWith 3 88501 0), (65, cellWith 2 60401 0), (68, cellWith 2 60200 0), (69, cellWith 3 87600 1)] ++
      (if six then [(70, cellWith 1 28300 0)] else []) ++ [(71, cellWith 2 57199 0)] }

def ringTube : Tube :=
  { tube 57 0 200000 with
    setup := { (tube 57 0 0).setup with sectors := 8 }, directory := [(1, { page := 0, readings := 13 })] }

theorem test_complete_ring :
    let r := ringRecord (ringState true) ringTube 40 221570
    r.means = [.measured 29500, .measured 30201, .filled 30167, .filled 30134, .measured 30100, .measured 29200,
      .measured 28300, .measured 28600] ∧
    r.mean = some 29525 ∧ r.min = some (28300, 6) ∧ r.max = some (30201, 1) ∧ r.eccentricity = some 321 ∧
    r.thinSector = some 6 ∧ r.readings = 13 ∧ r.flaws = 1 ∧ r.zone = .body ∧ r.status = .complete := by decide +kernel

theorem test_partial_ring :
    let r := ringRecord (ringState false) ringTube 40 221570
    r.status = .partialRing ∧ r.mean = some 29520 ∧ r.min = some (28600, 7) ∧ r.max = some (30201, 1) ∧
    r.eccentricity = none ∧ r.thinSector = none ∧ r.readings = 12 ∧ r.flaws = 1 := by decide +kernel

/-- Section 6.9: the lead, and which bin it closes. -/
theorem test_lead :
    lead { ringTube with startTravel := 200000 } 221050 = some 20650 ∧ leadPassed ringTube 40 20650 = false ∧
    lead ringTube 221570 = some 21170 ∧ leadPassed ringTube 40 21170 = true ∧ leadPassed ringTube 41 21170 = false := by
  decide +kernel

/-! ### Section 7.9: calibrating head 3 -/

/-- In CALIBRATE with head 2 enabled and the run after reading 9, or after reading 6. -/
def calibrating (now : Time) (run : Option CalRun) : State :=
  let s := measuring now
  s.setAgent { s.agent with mode := .calibrate, run := run }

def run9 : CalRun :=
  { head := 2, reference := 20000, temperature := 1150, traces := 8, tolerance := 300, startTime := 90000000, counted := 7,
    sum := 138927, min := some 19790, max := some 19903, notCounted := 2 }

def run6 : CalRun := { run9 with counted := 4, sum := 79436, min := some 19811, max := some 19903 }

/-- The SUMMARY class queue after the run of head 2 ended so. -/
def result (o : CalOutcome) (k : Option Nat) (measured counted spread duration : Nat) : List SummaryFrame :=
  [.calResult { head := 2, outcome := o, oldFactor := 65536, newFactor := k, measured := some measured, counted := counted,
                spread := some spread, duration := duration }]

theorem test_run_completes :
    (runTakes (reading 2 0 19873) (calibrating 90412600 (some run9))).mill.summaryQ =
      result .applied (some 66031) 19850 8 113 412600 ∧
    tableGet (runTakes (reading 2 0 19873) (calibrating 90412600 (some run9))).agent.calib 2 = 66031 ∧
    (runTakes (reading 2 0 19873) (calibrating 90412600 (some { run9 with tolerance := 100 }))).mill.summaryQ =
      result .unstable none 19850 8 113 412600 ∧
    ((runTakes (reading 2 0 9925) (calibrating 90412600 (some run6))).agent.run.map CalRun.notCounted) = some 3 := by
  decide +kernel

theorem test_abortCal :
    (after (exec .abortCal (asking (calibrating 90300000 (some run6)) (request 7 0 0 0 [])))).mill.summaryQ =
      result .aborted none 19859 4 92 300000 := by decide +kernel

theorem test_calibrationTimeout :
    (after (exec .calibrationTimeout (calibrating 95000000 (some run6)))).mill.summaryQ = result .timeout none 19859 4 92 5000000 ∧
    (after (exec .calibrationTimeout (calibrating 94999999 (some run6)))).mill.summaryQ = [] := by decide +kernel

/-- The fields are clamped, and ACCEPTED returns them as stored. -/
theorem test_calibrate :
    lastAnswer (after (exec .calibrate (asking (calibrating 1 none) (request 6 0 0 0 [2, 0x4E, 0x20, 0x04, 0x7E, 8, 1, 44])))) =
      some (.accepted, .calibration { head := 2, reference := 20000, temperature := 1150, traces := 8, tolerance := 300 }) ∧
    lastAnswer (after (exec .calibrate (asking (calibrating 1 none) (request 6 0 0 0 [2, 0, 0, 0xFF, 0xFF, 3, 0, 0])))) =
      some (.accepted, .calibration { head := 2, reference := 1000, temperature := 1600, traces := 4, tolerance := 1 }) := by
  decide +kernel

/-! ### Section 8.7 and section 11.7: recipes and requests -/

/-- Head 6 is PAIR13 with ECHO1 and ECHO2 only, on 30 and 31. -/
def badBank : Bank :=
  { bank with
    heads := tableSet bank.heads 6 { head2 with chainStart := 30, pairMode := 1 },
    gates := tableSet (tableSet bank.gates 30 { gate5 with next := 31 }) 31 { gate12 with next := 255 } }

/-- The repair: 31 leads on to an ECHO3 that follows ECHO2. -/
def mendedBank : Bank :=
  { badBank with
    gates := tableSet (tableSet badBank.gates 31 { gate12 with next := 32 }) 32
      { kind := 2, enabled := 1, placement := 1, anchor := 1, offset := 500, width := 300, threshold := 300, next := 255 } }

theorem test_validation :
    validate bank = none ∧ validate badBank = some { code := .chainInvalid, argument := 6 } ∧ validate mendedBank = none ∧
    validate Bank.default = some { code := .noHead, argument := 255 } := by decide +kernel

/-- APPLY with A ACTIVE is PENDING; at the tube start the mended bank becomes generation 8 and head 6 UNSEEN. -/
theorem test_apply :
    lastAnswer (after (exec .apply (asking (withTubes (measuring 9) (some (tube 41 0 0)) none) (request 4 0 0 0 [])))) =
      some (.pending, .none) ∧
    (let s := pendingApply ((measuring 9).setAgent { (measuring 9).agent with staged := mendedBank, applyPending := true })
     s.agent.generation = 8 ∧ s.agent.applyPending = false ∧ headStateOf s 6 = .unseen ∧ headStateOf s 2 = .active) := by
  decide +kernel

/-- Tag 11: the first APPLY after power-on gives generation 1. -/
theorem test_apply_first :
    let s := after (exec .apply (asking (State.reset.setAgent { Agent.reset with staged := bank }) (request 4 0 0 0 [])))
    lastAnswer s = some (.ok, .generation 1) ∧ headStateOf s 2 = .unseen ∧ headStateOf s 3 = .disabled := by decide +kernel

/-- Tags 2, 13: MODE MEASURE on an EMPTY bank; MODE CALIBRATE when no tube is live. -/
theorem test_mode :
    lastAnswer (after (exec .mode (asking State.reset (request 5 0 0 0 [1])))) = some (.noRecipe, .none) ∧
    lastAnswer (after (exec .mode (asking (measuring 9) (request 5 0 0 0 [2])))) = some (.ok, .mode .calibrate) := by
  decide +kernel

/-- Tags 3 and 15: READ HEAD ACTIVE of an EMPTY bank, READ CONTEXT CURRENT with no tube. -/
theorem test_read :
    lastAnswer (after (exec .read (asking State.reset (request 0 0 1 2 [])))) = some (.noRecipe, .none) ∧
    lastAnswer (after (exec .read (asking (measuring 9) (request 0 10 2 0 [])))) = some (.emptyContext, .none) := by
  decide +kernel

/-- R94, R160: a MAP_PAGE of an absent segment carries the context's letter and tube id, and no cells. -/
theorem test_read_absent_segment :
    lastAnswer (after (exec .read (asking (withTubes (measuring 9) (some (tube 41 0 0)) none) (request 0 12 4 255 [])))) =
      some (.emptySegment, .segmentAbsent .a 41) := by decide +kernel

/-- Tag 12: the settle limit 2,000 is stored as 1000. Tag 10: the active bank is read-only. -/
theorem test_write :
    lastAnswer (after (exec .write (asking (measuring 9) (request 1 4 0 0 [0, 20, 0, 10, 1, 0xF4, 7, 0xD0, 0x13, 0x88])))) =
      some (.okClamped, .timing { Timing.default with settle := 1000 }) ∧
    lastAnswer (after (exec .write (asking State.reset (request 1 0 1 2 [0, 0, 0, 0, 0, 0, 0, 0, 0, 0, 0, 0])))) =
      some (.readOnly, .none) := by decide +kernel

/-- R135, R161: an EXCHANGE of CALIB answers the factor as it stood and stores the clamped one. -/
theorem test_exchange :
    let s := after (exec .exchange (asking (measuring 9) (request 2 6 0 4 [0, 2, 0, 0])))
    lastAnswer s = some (.okClamped, .calib 65536) ∧ tableGet s.agent.calib 4 = 72090 := by decide +kernel

/-- Section 12.8: the CLEAR of FAULT returns the capture HELD with overflow 1 and releases it. -/
theorem test_clear :
    let c : Capture := { kind := .drainTruncated, time := 5, tubeId := some 40, head := none, stageA := some .closedWait,
                         stageB := none, mode := .measure, queueDepth := 0, overflow := 1 }
    let s := after (exec .clear (asking ((measuring 9).setEvents { (measuring 9).events with capture := some c })
      (request 3 14 0 0 [])))
    lastAnswer s = some (.ok, .fault (some c)) ∧ s.events.capture = none := by decide +kernel

/-- R170: a CLEAR of HEAD_CHANGE while head 2 differs from its snapshot raises it again at once. -/
theorem test_clear_headChange :
    countOf (after (exec .clear (asking (measuring 9) (request 3 13 0 4 [])))) .headChange = 1 := by decide +kernel

/-- Tags 1 and 16. -/
theorem test_status :
    ((lastAnswer (after (exec .status (asking (measuring 9) (request 9 0 0 0 []))))).map (fun x =>
      match x.2 with
      | .status r => (r.mode, r.generation, r.freePages, r.requestDepth, r.worst)
      | _ => (.standby, 0, 0, 9, .failed))) = some (.measure, 7, 384, 0, .clear) := by decide +kernel

theorem test_undefinedOperation :
    lastAnswer (after (exec .undefinedOperation (asking State.reset (request 10 0 0 0 [])))) = some (.badTable, .none) := by
  decide +kernel

/-- R164: RESTART keeps part time, the generation and the tube id counter; head 2, enabled, becomes UNSEEN. -/
theorem test_restart :
    let s := after (exec .restart (asking beforeSilence (request 8 0 0 0 [])))
    s.agent.mode = .standby ∧ s.tubes.a = none ∧ s.tubes.idCounter = 41 ∧ s.agent.generation = 7 ∧
    s.headPort.partTime = 50014080 ∧ headStateOf s 2 = .unseen ∧ s.pose.ring = [] ∧ lastAnswer s = some (.ok, .none) := by
  decide +kernel

theorem test_powerOnReset :
    let s := after (exec .powerOnReset beforeSilence)
    s.agent.generation = 0 ∧ s.headPort.link = .down ∧ s.headPort.partTime = 0 ∧ s.wall.free.length = 384 := by decide +kernel

/-! ### Section 9.10: one head through gap, repeat, silence and overflow -/

def trace2 (sequence : Seq) : Trace :=
  { head := 2, interval := .ns20, sequence := sequence, timestamp := 70000000, energy := 180, samples := samples 64 [] }

/-- Head 2 expects 12,004; the Trace Queue holds `depth` traces; A holds tube 41. -/
def intake (now : Time) (depth : Nat) : State :=
  (withTubes (measuring now) (some (tube 41 60000000 0)) none).setTraceQueue (List.replicate depth (trace2 0))

/-- Head 2's record after a trace with this sequence. -/
def head2After (sequence : Seq) (s : State) : HeadRecord := tableGet (after (exec (.traceFrame (trace2 sequence)) s)).headPort.heads 2

theorem test_traceFrame :
    (head2After 12007 (intake 70002000 46)).gaps = 3 ∧ (head2After 12007 (intake 70002000 46)).expected = some 12008 ∧
    (head2After 12002 (intake 70002400 46)).duplicates = 1 ∧ (head2After 12002 (intake 70002400 46)).expected = some 12004 ∧
    countOf (after (exec (.traceFrame (trace2 12007)) (intake 70002000 46))) .seqGap = 1 := by decide +kernel

theorem test_traceFrame_overflow :
    let s := after (exec (.traceFrame (trace2 12004)) (intake 70003000 48))
    (tableGet s.headPort.heads 2).queueDrops = 1 ∧ s.traceQueue.length = 48 ∧
    (tableGet s.headPort.heads 2).lastArrival = some 70003000 ∧ countOf s .queueOverflow = 1 := by decide +kernel

theorem test_headLinkDown :
    let s := after (exec (.headLinkDown true) (intake 70003300 0))
    s.headPort.link = .down ∧ s.headPort.counters.partials = 1 ∧ s.headPort.counters.linkDowns = 1 := by decide +kernel

/-- Head 5 is SILENT already; head 2's timer has run 20,000 µs. -/
def silencing (now : Time) : State :=
  let s := intake 70003000 48
  s.setHeadPort { s.headPort with
    partTime := now,
    heads := tableSet (tableSet s.headPort.heads 2 (record .active 12010 70000000 70003000)) 5
      (record .silent 7 70000000 70002800) }

theorem test_headSilenceExpiry :
    let s := after (exec (.headSilenceExpiry 2) (silencing 70023000))
    headStateOf s 2 = .silent ∧ countOf s .headLost = 1 ∧ countOf s .allHeadsLost = 1 ∧
    s.tubes.a.map (fun t => tableGet t.headsLost 2) = some true ∧
    after (exec (.headSilenceExpiry 2) (silencing 70022999)) = silencing 70022999 := by decide +kernel

theorem test_headLinkUp_and_timeMark :
    let s := after (exec .headLinkUp (State.reset.setHeadPort { HeadPort.reset with partTime := 70040000 }))
    let t := s.setHeadPort { (after (exec .timeMarkSent s)).headPort with partTime := 70041000 }
    s.headPort.markInFlight = some 70040000 ∧ t.headPort.counters.marksSent = 1 ∧
    (after (exec .timeMark t)).headPort.markInFlight = some 70041000 ∧
    (after (exec .timeMark (t.setHeadPort { t.headPort with partTime := 70040999 }))).headPort.markInFlight = none := by
  decide +kernel

theorem test_rejected_frames :
    (let s := after (exec (.headFrameRejected (.traceFields 2)) (measuring 9))
     s.headPort.counters.malformed = 1 ∧ (tableGet s.headPort.heads 2).received = 1 ∧ countOf s .malformed = 1) ∧
    (let s := after (exec (.millFrameRejected .frameCheck) (measuring 9))
     s.mill.counters.checkFailures = 1 ∧ countOf s .linkCheck = 1) := by decide +kernel

/-! ### Section 10.8: a break of the mill link -/

/-- A READING frame is in transmission. -/
def sending : State :=
  (measuring 9).setMill { MillPort.reset with
    link := .up, transmitter := some (.reading (reading 2 0 29000)), summaryQ := List.replicate 2 (.tube (summaryOf (tube 40 0 0) ⟨0, 0, 0, .presenceEnd⟩)),
    readingQ := [reading 5 0 29000] }

theorem test_millLinkDown_then_up :
    let s := after (exec (.millLinkDown false) sending)
    tableGet s.mill.counters.lost readingClass = 1 ∧ s.mill.counters.linkDowns = 1 ∧ s.mill.transmitter = none ∧
    s.mill.readingQ.length = 1 ∧ (after (exec .millLinkUp s)).mill.summaryQ.length = 1 := by decide +kernel

theorem test_transmissionCompletion :
    tableGet (after (exec .transmissionCompletion sending)).mill.counters.sent readingClass = 1 := by decide +kernel

/-- Section 10.8: under EVERY_N with N 4 the counter at 3 reaches 4 and returns to 0; the link is DOWN, so the frame drops. -/
theorem test_every_n_while_down :
    let s := (measuring 9).setMill { MillPort.reset with
      decimation := Vector.replicate 8 { reading := 3, mirror := 0 } }
    let t := decideReading (reading 2 0 29000)
      (s.setAgent { s.agent with output := Vector.replicate 8 { OutputEntry.default with reading := .everyN, readingN := 4 } })
    (decimationOf t 2).reading = 0 ∧ tableGet t.mill.counters.dropped readingClass = 1 ∧ t.mill.readingQ = [] := by
  decide +kernel

theorem test_requestFrame :
    let s := (measuring 9).setMill { MillPort.reset with link := .up, requestQ := List.replicate 4 (request 9 0 0 0 []) }
    countOf (after (exec (.requestFrame (request 9 0 0 0 [])) s)) .requestDropped = 1 ∧
    (after (exec (.requestFrame (request 5 0 0 0 [])) (measuring 9))).mill.counters.malformed = 1 := by decide +kernel

/-- A RESPONSE is held while two stand in the queue, and released when there is room. -/
def holding : State :=
  let r : Response := { tag := 1, status := .ok, data := .none }
  let s := (measuring 9).setMill { MillPort.reset with link := .up, responseQ := [r, r] }
  s.setAgent { s.agent with processing := some { request := request 9 0 0 0 [], response := { r with tag := 7 } } }

theorem test_responseHeldRelease :
    after (exec .responseHeldRelease holding) = holding ∧
    (after (exec .transmissionStart holding)).mill.responseQ.map Response.tag = [1, 7] ∧
    (after (exec .transmissionStart holding)).agent.processing = none := by decide +kernel

/-! ### Chapter 13: frames written out byte by byte; ill-formed operands -/

/-- The check string of the cyclic check that R176 describes (its published value). -/
theorem test_frameCheck : frameCheck [0x31, 0x32, 0x33, 0x34, 0x35, 0x36, 0x37, 0x38, 0x39] = 0x29B1#16 := by decide +kernel

theorem test_temperature_bytes :
    headLinkCommand [0x03, 0x21, 0x00, 0x07, 0x05, 0x40, 0x5B, 0x28, 0x00, 0x04, 0x98, 0xAB, 0x27] =
      .temperatureFrame { channel := 1, timestamp := 88103720, ok := true, temperature := 1176 } := by decide +kernel

theorem test_position_bytes :
    headLinkCommand [0x02, 0x10, 0x00, 0x0D, 0x00, 0x09, 0x02, 0xFA, 0xF0, 0x80, 0x0F, 0xD2, 0x00, 0x01, 0xD6, 0x50, 0x01,
      0x4C, 0x7C] = .positionFrame { frameOf 50000000 4050 120400 true with sequence := 9 } := by decide +kernel

/-- R138's tests 4 and 5 and R178 on a frame of 64 zero samples of head 2; and the same payload with an interval code that
names no interval. -/
theorem test_trace_bytes :
    traceCommand 2 ([0x01, 0x02, 0x00, 0x8B, 0x02, 0x01, 0x2E, 0xE4, 0x04, 0x2C, 0xB9, 0xC0, 0xB4, 0x00, 0x40] ++
      List.replicate 128 0 ++ [0x17, 0x28]) = .traceFrame { trace2 12004 with timestamp := 70040000 } ∧
    traceCommand 2 ([0x01, 0x02, 0x00, 0x8B, 0x02, 0x03, 0x2E, 0xE4, 0x04, 0x2C, 0xB9, 0xC0, 0xB4, 0x00, 0x40] ++
      List.replicate 128 0 ++ [0x7C, 0x78]) = .headFrameRejected (.traceFields 2) := by decide +kernel

theorem test_request_bytes :
    millLinkCommand [0x10, 0x40, 0x00, 0x07, 0x03, 0x05, 0x00, 0x00, 0x00, 0x00, 0x01, 0xBF, 0x92] =
      .requestFrame { request 5 0 0 0 [1] with tag := 3 } ∧
    millLinkCommand [0x10, 0x40, 0x00, 0x06, 0x03, 0x05, 0x00, 0x00, 0x00, 0x00, 0x66, 0xE4] = .millFrameRejected .length := by
  decide +kernel

/-- R138's tests 1 to 4, each failed first. -/
theorem test_rejected_bytes :
    headLinkCommand [0x03, 0x24, 0x00, 0x00, 0x45, 0x1B] = .headFrameRejected .frameCheck ∧
    headLinkCommand [0x09, 0x10, 0x00, 0x00, 0x34, 0xD4] = .headFrameRejected (.kind 0x10) ∧
    headLinkCommand [0x03, 0x24, 0x00, 0x00, 0x45, 0x1A] = .headFrameRejected (.source 0x24) ∧
    headLinkCommand [0x02, 0x10, 0x00, 0x0C, 0x00, 0x00, 0x00, 0x00, 0x00, 0x00, 0x00, 0x00, 0x00, 0x00, 0x00, 0x00, 0x6A,
      0x1E] = .headFrameRejected (.length 0x10) := by decide +kernel

/-- Frames with a right check that fail several tests at once, and the test that each fails first: on the head link an unknown
kind under a source and a length that suit none; a wrong source with a wrong length; a length field, and a payload, one short; a
TRACE shorter than 11 bytes, and one whose count asks for another length under a wrong head and code; one with a count of 1. -/
def badOnHead : List (List Byte × HeadReject) :=
  [([0x09, 0x44, 0x00, 0x09, 0x27, 0xF3], .kind 0x44), ([0x02, 0x20, 0x00, 0x09, 0x00, 0xD8, 0x59], .source 0x20),
   ([0x01, 0x08, 0x00, 0x00, 0x5B, 0xD5], .source 0x08),
   ([0x03, 0x21, 0x00, 0x06, 0x00, 0x00, 0x00, 0x00, 0x00, 0x00, 0x00, 0x7A, 0x76], .length 0x21),
   ([0x03, 0x23, 0x00, 0x07, 0x00, 0x00, 0x00, 0x00, 0x00, 0x00, 0xC3, 0x0A], .length 0x23),
   ([0x01, 0x02, 0x00, 0x0A, 0x09, 0x09, 0x09, 0x09, 0x09, 0x09, 0x09, 0x09, 0x09, 0x09, 0x69, 0x2E], .length 0x02),
   ([0x01, 0x02, 0x00, 0x0D, 0x09, 0x09, 0x09, 0x09, 0x09, 0x09, 0x09, 0x09, 0x09, 0x00, 0x02, 0x00, 0x00, 0xCD, 0x02],
    .length 0x02),
   ([0x01, 0x02, 0x00, 0x0D, 0x02, 0x01, 0x00, 0x00, 0x00, 0x00, 0x00, 0x00, 0x00, 0x00, 0x01, 0x00, 0x00, 0x44, 0x4B],
    .traceFields 2)]

/-- On the mill link: a kind with a wrong source, a source with a wrong length, a payload shorter than 6, a length field one
short, and a STATUS request that carries a byte. -/
def badOnMill : List (List Byte × MillReject) :=
  [([0x11, 0x41, 0x00, 0x00, 0xC3, 0x4E], .kind 0x41), ([0x10, 0x41, 0x00, 0x00, 0xB5, 0xFA], .source 0x41),
   ([0x10, 0x40, 0x00, 0x05, 0x00, 0x00, 0x00, 0x00, 0x00, 0xFE, 0x5D], .length),
   ([0x10, 0x40, 0x00, 0x06, 0x00, 0x09, 0x00, 0x00, 0x00, 0x00, 0x00, 0x3B, 0x01], .length),
   ([0x10, 0x40, 0x00, 0x07, 0x00, 0x09, 0x00, 0x00, 0x00, 0x00, 0x00, 0x7C, 0xD2], .length)]

theorem test_rejected_in_order :
    (∀ x ∈ badOnHead, headLinkCommand x.1 = .headFrameRejected x.2) ∧
    (∀ x ∈ badOnMill, millLinkCommand x.1 = .millFrameRejected x.2) := by decide +kernel

/-- R181 by hand: head 2, sequence 41,002, 50,001,000 µs, generation 7, VALID, WEAK and EXTRAPOLATED, all but ECHO3 present,
LATE_RING in sector 3 of bin 258 of tube 41. -/
theorem test_reading_payload :
    (let r := reading 2 50001000 29369
     { r with flags := { r.flags with weak := true, extrapolated := true }, placement := some .lateRing, sector := some 3,
              bin := some 258, tubeId := some 41 }).payload =
      [0x02, 0xA0, 0x2A, 0x02, 0xFA, 0xF4, 0x68, 0x00, 0x00, 0x00, 0x07, 0x00, 0x82, 0xF7, 0x00, 0x02, 0x4E, 0xB2, 0x05, 0xDC,
       0x04, 0x4C, 0x00, 0x00, 0x04, 0x9C, 0x13, 0x6C, 0x72, 0xB9, 0x01, 0x03, 0x00, 0x00, 0x01, 0x02, 0x00, 0x29] := by
  decide +kernel

/-- R181 by hand: bin 40 of tube 41 closed PARTIAL in the body at 60,000,000 µs, its eccentricity and thin sector absent. -/
theorem test_ring_payload :
    RingRecord.payload
      { tubeId := 41, bin := 40, closeTime := 60000000, zone := .body, status := .partialRing, sectors := 8,
        means := [.measured 29500, .filled 28300, .absent, .measured 30100, .absent, .absent, .absent, .absent],
        mean := some 29300, min := some (28300, 1), max := some (30100, 3), eccentricity := none, thinSector := none,
        readings := 13, flaws := 2 } =
      [0x00, 0x29, 0x00, 0x28, 0x03, 0x93, 0x87, 0x00, 0x01, 0x01, 0x08, 0x07, 0x72, 0x74, 0x6E, 0x8C, 0x01, 0x75, 0x94, 0x03,
       0x00, 0x00, 0x00, 0x00, 0x00, 0x00, 0x0D, 0x00, 0x02, 0x00, 0x73, 0x3C, 0x01, 0x6E, 0x8C, 0x02, 0x00, 0x00, 0x00, 0x75,
       0x94, 0x02, 0x00, 0x00, 0x02, 0x00, 0x00, 0x02, 0x00, 0x00, 0x02, 0x00, 0x00] := by decide +kernel

/-- R181, R182 by hand: MAP_RECLAIM of tube 41's segment 17 from tube 40's segment 9; HEAD_LOST of head 2 in tube 41; and the
same record reported on an ENABLE. -/
theorem test_notice_payload :
    Notice.payload { cause := .occurrence, kind := .mapReclaim, severity := .degraded, time := some 60000000, count := 1,
                     worst := .failed, detail := some (.reclaim 41 17 40 9) } =
      [0x00, 0x0D, 0x01, 0x03, 0x93, 0x87, 0x00, 0x00, 0x01, 0x03, 0x00, 0x29, 0x00, 0x11, 0x00, 0x28, 0x00, 0x09] ∧
    Notice.payload { cause := .occurrence, kind := .headLost, severity := .degraded, time := some 60000000, count := 258,
                     worst := .degraded, detail := some (.headTube 2 41) } =
      [0x00, 0x05, 0x01, 0x03, 0x93, 0x87, 0x00, 0x01, 0x02, 0x02, 0x02, 0x00, 0x29, 0x00, 0x00, 0x00, 0x00, 0x00] ∧
    Notice.payload { cause := .enable, kind := .headLost, severity := .note, time := none, count := 0, worst := .clear,
                     detail := none } = [0x01, 0x05] ++ List.replicate 16 0 := by decide +kernel

/-- R121, R181 by hand: head 3 APPLIED, 65,536 to 65,861, 19,850 µm over 8 readings with a spread of 4, after 412,000 µs. -/
theorem test_calResult_payload :
    CalResult.payload { head := 3, outcome := .applied, oldFactor := 65536, newFactor := some 65861, measured := some 19850,
                        counted := 8, spread := some 4, duration := 412000 } =
      [0x03, 0x00, 0x07, 0x00, 0x01, 0x00, 0x00, 0x00, 0x01, 0x01, 0x45, 0x4D, 0x8A, 0x08, 0x00, 0x04, 0x00, 0x06, 0x49,
       0x60] := by decide +kernel

/-- The TIME_MARK of section 9.10. -/
theorem test_timeMark_bytes :
    timeMarkBytes 70040000 = [0x04, 0x30, 0x00, 0x04, 0x04, 0x2C, 0xB9, 0xC0, 0xAA, 0x57] := by decide +kernel

theorem test_illformed :
    (Instr.traceFrame (trace3 63 [])).wellFormed = false ∧ (Instr.traceFrame (trace3 2049 [])).wellFormed = false ∧
    (Instr.headFrameRejected (.length 0x30)).wellFormed = false ∧
    (Instr.requestFrame (request 5 0 0 0 [])).wellFormed = false ∧
    (Instr.requestFrame (request 10 0 0 0 (List.replicate 4140 0))).wellFormed = false ∧
    (Instr.millFrameRejected (.source 0x40)).wellFormed = false ∧ decodeTableWord 8 0 = none := by decide +kernel

/-! ### Witnesses: a state and operands that meet the hypotheses of each statement -/

/-- MEASURE with tube 41 ACTIVE on page 0, one cell counted, one event counted, and a command waiting. -/
def busy : State :=
  let s := withTubes (feeding (measuring 60010000) [f4, f5] [] .present 60009000)
    (some { tube 41 60000000 200000 with directory := [(0, { page := 0, readings := 2 })] }) none
  { (raise .seqGap (.headMissed 2 3) (s.setWall { pool := [(5, cellBefore)], free := (List.range 384).drop 1 })) with
    pending := [.timeMark] }

theorem witness_StepRunsFrontCommand : busy.pending = .timeMark :: [] := rfl

theorem witness_CommandsKeepPartTimeAndTheQueue :
    exec .timeMark busy = .next (after (exec .timeMark busy)) ∧ Instr.timeMark ≠ .powerOnReset := ⟨rfl, by decide⟩

theorem busy_steps : step busy = .next (after (step busy)) := rfl

theorem witness_EventRecordsStayLawful : EventLaw busy ∧ step busy = .next (after (step busy)) :=
  ⟨by decide +kernel, busy_steps⟩

theorem witness_QueuesAndLinksStayLawful : QueueLaw busy ∧ LinkLaw busy ∧ step busy = .next (after (step busy)) :=
  ⟨by decide +kernel, by decide +kernel, busy_steps⟩

theorem witness_PagesAreNeverLostOrShared : PageLaw busy ∧ step busy = .next (after (step busy)) :=
  ⟨by decide +kernel, busy_steps⟩

/-- One tube; a SETTLING tube that still waits for a head; an older tube beside a FREE newest; and two tubes. -/
theorem witness_TubeContextsStayLawful :
    let older := withTubes busy none (some (tube 40 1000 0))
    (TubeLaw busy ∧ SettleLaw busy ∧ IdLaw busy ∧ step busy = .next (after (step busy))) ∧ SettleLaw settleLimit ∧
    (IdLaw older ∧ older.tubes.newest = some .a ∧ tubeAt older .a = none ∧ tubeAt older .b = some (tube 40 1000 0) ∧
      (40 : TubeId) ≠ older.tubes.idCounter + 1) ∧
    IdLaw twoDrains ∧ (tubeAt twoDrains .a).map Tube.id = some 41 ∧ (tubeAt twoDrains .b).map Tube.id = some 40 :=
  ⟨⟨by decide +kernel, by decide +kernel, by decide +kernel, busy_steps⟩, by decide +kernel, by decide +kernel,
    by decide +kernel, by decide +kernel, by decide +kernel⟩

theorem witness_ModeStaysLawful : ModeLaw busy ∧ step busy = .next (after (step busy)) := ⟨by decide +kernel, busy_steps⟩

theorem witness_HeadRecordsStayLawful : HeadLaw busy ∧ step busy = .next (after (step busy)) :=
  ⟨by decide +kernel, busy_steps⟩

/-- A run in progress with an evaluation tied to it. -/
def runBusy : State :=
  { (calibrating 90300000 (some run6)).setEvaluator
      (some { evaluation3 with trace := { evaluation3.trace with head := 2 }, tie := .run }) with pending := [.timeMark] }

theorem witness_TablesAndRunStayInRange :
    RangeLaw runBusy ∧ RunLaw runBusy ∧ step runBusy = .next (after (step runBusy)) :=
  ⟨by decide +kernel, by decide +kernel, rfl⟩

theorem witness_PoolKeepsCanonicalForm : PoolLaw busy ∧ step busy = .next (after (step busy)) :=
  ⟨by decide +kernel, busy_steps⟩

theorem witness_HeadLinkFramesRoundTrip :
    sampleCountOk (trace3 64 []) = true ∧ sampleCountOk (trace3 2048 []) = true := by decide +kernel

theorem witness_MillLinkFramesRoundTrip :
    (Instr.requestFrame (request 5 0 0 0 [1])).wellFormed = true ∧
    (Instr.requestFrame (request 10 0 0 0 (List.replicate 4139 0))).wellFormed = true := by decide +kernel

/-- Frames too short, too long and with another check; and good ones that fail each later test first, or none (section 13's
frames above). -/
theorem witness_ReceivedBytesGiveWellFormedCommands :
    (List.replicate 5 (0 : Byte)).length < 6 ∧ 4151 < (List.replicate 4152 (0 : Byte)).length ∧
    checkOk [0x03, 0x24, 0x00, 0x00, 0x45, 0x1B] = false ∧
    (∀ x ∈ badOnHead.map Prod.fst ++ badOnMill.map Prod.fst ++
        [[0x03, 0x21, 0x00, 0x07, 0x05, 0x40, 0x5B, 0x28, 0x00, 0x04, 0x98, 0xAB, 0x27],
         [0x10, 0x40, 0x00, 0x07, 0x03, 0x05, 0x00, 0x00, 0x00, 0x00, 0x01, 0xBF, 0x92]],
      6 ≤ x.length ∧ x.length ≤ 4151 ∧ checkOk x = true) ∧
    requiredData 9 0 = some 0 ∧ requiredData 5 0 = some 1 ∧ requiredData 1 0 = some 12 := by decide +kernel

/-- A frame that is sealed has a right check. -/
theorem checkOk_sealFrame (kind source : Byte) (payload : List Byte) : checkOk (sealFrame kind source payload) = true := by
  have word : ∀ (l : List Byte) (x y : Byte), wordAt (l ++ [x, y]) l.length = x ++ y := fun l x y => by
    simp [wordAt, byteAt, List.getD]
  have split : ∀ c : BitVec 16, BitVec.ofNat 8 (c.toNat / 256) ++ BitVec.ofNat 8 c.toNat = c := fun c => by
    apply BitVec.eq_of_toNat_eq
    have := c.isLt
    simp only [BitVec.toNat_append, BitVec.toNat_ofNat]
    rw [← Nat.shiftLeft_add_eq_or_of_lt (Nat.mod_lt _ (by decide)), Nat.shiftLeft_eq]
    omega
  have sealed : ∀ l : List Byte,
      let n := (frameCheck l).toNat
      checkOk (l ++ [BitVec.ofNat 8 (n / 256), BitVec.ofNat 8 n]) = true := fun l => by
    intro n
    have : (l ++ [BitVec.ofNat 8 (n / 256), BitVec.ofNat 8 n]).length - 2 = l.length := by simp
    rw [checkOk, this, word, split, List.take_left, beq_self_eq_true]
  have (c : BitVec 16) : bigEndian 2 c.toNat = [BitVec.ofNat 8 (c.toNat / 256), BitVec.ofNat 8 c.toNat] := by
    simp [bigEndian]
  rw [sealFrame, this]
  exact sealed _

/-- TRACE frames of head 2 with 64 samples and the codes 1 and 3: one that passes every test and one that test 5 refuses. -/
theorem witness_trace_fields :
    let payload := fun (code : Nat) =>
      [0x02, BitVec.ofNat 8 code] ++ (tracePayload { trace2 7 with samples := List.replicate 64 0 }).drop 2
    let frame := fun (code : Nat) => sealFrame 0x01 0x02 (payload code)
    (∀ code, checkOk (frame code) = true) ∧
    ∀ code ∈ [1, 3],
      (frame code).length = 145 ∧ byteAt (frame code) 0 = 1 ∧ byteAt (frame code) 1 = 2 ∧ wordAt (frame code) 2 = 139 ∧
      byteAt (payload code) 0 = 2 ∧ (byteAt (payload code) 1).toNat = code ∧ wordAt (payload code) 9 = 64 ∧
      (payload code).length = 11 + 2 * 64 :=
  ⟨fun _ => checkOk_sealFrame _ _ _, by decide +kernel⟩

theorem witness_SentPayloadsFollowTheLayouts :
    (Frame.map (.finish 41 4095 4095)).payload.length < 65536 ∧ 49 + 2 * 2048 < 65536 ∧
    (List.replicate 256 clearedCell).length = 256 ∧ (List.replicate 12 (0 : Byte)).length = 12 ∧
    (List.replicate 11 (0 : Byte)).length = 11 ∧ (List.replicate 4 (0 : Byte)).length = 4 ∧
    (List.replicate 19 (0 : Byte)).length = 19 ∧ 255 < 256 ^ 1 ∧ 65535 < 256 ^ 2 ∧ 4294967295 < 256 ^ 4 ∧
    detailItems (.reclaim 41 17 40 9) ≠ [] ∧ detailItems (.headTube 2 41) ≠ [] := by decide +kernel

/-- A quotient exactly halfway: -59 / 2, of section 2.4. -/
theorem witness_RoundingAndRootAreAsNamed :
    0 < 2 ∧ (2 : Int) ≠ 0 ∧ 2 * ((-59) - roundHalfAway (-59) 2 * 2).natAbs = (2 : Int).natAbs := by decide +kernel

/-- A gate of width 120 that begins the trace, overlaps its first and its last sample alone, and misses it on either side. -/
theorem witness_GateSearchFindsThePeak :
    envelope (samples 620 firstEcho) ≠ [] ∧
    (∀ x ∈ [((0 : Int), 0, 119), (-119, 0, 0), (619, 619, 619)],
      x.1 ≤ 620 - 1 ∧ 0 ≤ x.1 + gate5.width.toNat - 1 ∧ (x.2.1 : Int) = max x.1 0 ∧
      (x.2.2 : Int) = min (x.1 + gate5.width.toNat - 1) (620 - 1)) ∧
    ((620 : Int) - 1 < 620 ∧ (-120 : Int) + gate5.width.toNat - 1 < 0) ∧
    gate5.placement.toNat = 0 ∧ gate12.placement.toNat = 1 ∧ gate12.anchor.toNat = 0 := by decide +kernel

/-- A sample of either sign under set upper bits; gates of each kind, enabled and not; a FLAW gate that finds and one that does
not. R13 by hand: the fields F800H and 07FFH hold -2048 and 2047. -/
theorem witness_walk :
    ([(0xF800 : BitVec 16), 0x07FF])[0]? = some 0xF800 ∧ envelope [0xF800, 0x07FF, 0xFFFF] = [2048, 2047, 1] ∧
    (gate9.enabled.toNat ≠ 1 ∧ gate5.enabled.toNat = 1) ∧
    ([gate5, gate12, { gate12 with kind := 2 }, { gate9 with enabled := 1 }].map (fun g => g.kind.toNat)) = [0, 1, 2, 3] ∧
    (let r := fun env => gateResult env Walk.start { gate9 with enabled := 1 }
     (r (envelope evaluation3.trace.samples)).echo?.isSome = true ∧ (r (envelope (samples 620 firstEcho))).echo? = none) := by
  decide +kernel

theorem witness_LowEnergyEndsTheEvaluation :
    (39 : Byte).toNat < evaluation3.slice.entry.minEnergy.toNat ∧ evaluation3.slice.entry.minEnergy.toNat ≤ (40 : Byte).toNat := by
  decide +kernel

/-- The same trace under a min_sep of 600 samples, and below the window. -/
theorem witness_OutcomeDecidesTheFields :
    (evaluate evaluation3).outcome = .valid ∧ evaluation3.tie = .ordinary ∧ (evaluate evaluation3).thickness = some 29369 ∧
    (evaluate { evaluation3 with slice := { evaluation3.slice with entry := { head2 with minSep := 600 }.latched } }).outcome = .badOrder ∧
    (evaluate { evaluation3 with slice := { evaluation3.slice with windowLow := 29370 } }).outcome = .outOfWindow ∧
    (evaluate { evaluation3 with slice := { evaluation3.slice with windowLow := 29370 }, tie := .run }).outcome = .valid := by
  decide +kernel

/-- The same statement's echoes: an ECHO1 and an ECHO2, with and without an ECHO3; neither; a pair mode of each kind. -/
theorem witness_echoes :
    let w := fun (ev : Evaluation) => walkChain (envelope ev.trace.samples) Walk.start ev.slice.chain
    let pair13 := { evaluation3 with slice := { evaluation3.slice with
      entry := { head2 with pairMode := 1 }.latched, chain := latchChain mendedBank { head2 with chainStart := 30 } } }
    ((w evaluation3).echo1.echo?.isSome = true ∧ (w evaluation3).echo2.echo?.isSome = true ∧
      (w evaluation3).echo3.echo? = none ∧ evaluation3.slice.entry.pairMode.toNat = 0) ∧
    (pair13.slice.entry.pairMode.toNat = 1 ∧ (w pair13).echo1.echo?.isSome = true ∧ (w pair13).echo3.echo? = none) ∧
    (let far := { pair13 with trace := trace3 1200 (firstEcho ++ secondEcho ++ [(1195, 350), (1196, 800)]) }
     (w far).echo3.echo?.isSome = true ∧ (evaluate far).delta = some 151502) ∧
    (w { evaluation3 with trace := trace3 500 firstEcho }).echo2.echo? = none ∧
    evaluation3.slice.entry.minEnergy.toNat ≤ evaluation3.trace.energy.toNat ∧
    256 * (evaluation3.slice.entry.minSep.toNat : Int) ≤ 151218 := by decide +kernel

theorem witness_VelocityFollowsTheTable :
    let l := evaluation3.slice.entries
    (l.map (fun e => e.temperature.toNat)).Pairwise (· < ·) ∧
    (∃ e, l.head? = some e ∧ 1100 ≤ e.temperature.toNat) ∧ (∃ e, l.getLast? = some e ∧ e.temperature.toNat ≤ 1265) ∧
    (∃ a b, l[0]? = some a ∧ l[1]? = some b ∧ a.temperature.toNat ≤ 1150 ∧ 1150 < b.temperature.toNat) ∧
    (∀ e ∈ l, 1099 < e.temperature.toNat) := by
  refine ⟨by decide +kernel, ⟨_, rfl, by decide +kernel⟩, ⟨_, rfl, by decide +kernel⟩, ⟨_, _, rfl, rfl, by decide +kernel⟩, by decide +kernel⟩

theorem witness_InterpolationMeetsTheSamples :
    f4.timestamp ≠ f5.timestamp ∧ f4.angle < 4096 ∧ f5.angle < 4096 ∧
    ((50002500 : Time) - f4.timestamp).toNat ≤ (f5.timestamp - f4.timestamp).toNat ∧
    ((-2048 : Int) ≤ 82 ∧ (82 : Int) ≤ 2047 ∧ (82 : Int) % 4096 = ((f4.angle : Int) - f3.angle) % 4096) := by decide +kernel

theorem witness_CellsOfATubeAreDistinct :
    (8 ∈ [8, 16, 32, 64] ∧ 7 < 8) ∧ (64 ∈ [8, 16, 32, 64] ∧ 63 < 64) ∧
    (segmentOf 16 23 = segmentOf 16 23 ∧ cellIndexOf 16 23 5 = cellIndexOf 16 23 5) := by decide +kernel

/-- The rings of sections 6.9 and 6.10, and bin 41 of a segment that has no page; sector 2 of the first is filled from sector 4,
two up, and sector 1, one down. -/
theorem witness_RingExtremesTakeTheLowestSector :
    ringTube.setup.sectors ∈ [8, 16, 32, 64] ∧
    (dirLookup ringTube.directory (40 * 8 / 256) = some { page := 0, readings := 13 } ∧
      dirLookup ringTube.directory (64 * 8 / 256) = none) ∧
    ((ringRecord (ringState true) ringTube 40 0).status = .complete ∧
      (ringRecord (ringState false) ringTube 40 0).status = .partialRing ∧
      (ringRecord (ringState true) ringTube 64 0).status = .empty ∧
      (ringRecord (ringState true) ringTube 40 0).mean = some 29525) ∧
    (let cells := binCells (ringState true) ringTube 40
     (cells[2]?).map Cell.count = some 0 ∧ (cells[(2 + 2) % 8]?).map Cell.count = some 2 ∧
     (cells[(2 + 1) % 8]?).map Cell.count = some 0 ∧ (cells[(2 + 8 - 1) % 8]?).map Cell.count = some 2) ∧
    (let l := countedFrom 0 [.measured 29500, .absent, .filled 28300, .measured 28300]
     ringMin l = some (28300, 2) ∧ ringMax l = some (29500, 0) ∧ ringMean l = some 28700 ∧ l ≠ [] ∧
     countedFrom 0 [.absent, .absent] = []) := by decide +kernel

/-- Bin 40 of `ringTube` is the next ring; the frame of section 6.9 that passes its end by the margin, and only its. -/
def ringing : State :=
  (withTubes (feeding (measuring 60001000) [f5] [] .present 60000000) (some { ringTube with nextRing := 40 }) none).setWall
    { (ringState true).wall with free := (List.range 384).drop 1 }

def ringFrame : PositionFrame := frameOf 50006000 0 221570 true

theorem witness_RingsCloseInAscendingOrder :
    let t := { ringTube with nextRing := 40 }
    let e : TubeEnd := { time := 60000000, travel := 221570, length := 21570, reason := .presenceEnd }
    let settled := { t with stage := .settling, ended := some e, settleEntry := some 60001000 }
    tubeAt ringing .a = some t ∧ ringing.mill.summaryQ.length < 32 ∧
    ((ringRecord ringing t 40 0).zone = .body ∧ (ringRecord ringing t 40 0).status ≠ .empty ∧
      (ringRecord ringing t 41 0).status = .empty ∧ (ringRecord ringing t 0 0).zone = .headEnd) ∧
    (ringing.setMill { ringing.mill with summaryQ := List.replicate 32 (.tube (summaryOf t e)) }).mill.summaryQ.length = 32 ∧
    (ringing.headPort.link = .up ∧ newestSample ringing = some f5 ∧ laterThan ringFrame.timestamp f5.timestamp = true ∧
      ringing.pose.presence.agrees ringFrame.present = true ∧ ringing.pose.waiting = [] ∧ activeCtx ringing = some .a ∧
      t.heads ≠ [] ∧ tubeAt ringing .b = none ∧ ringing.drain = none) ∧
    (t.setup.sectors ∈ [8, 16, 32, 64] ∧ PageLaw ringing ∧ PoolLaw ringing ∧ highestBin ringing t = some 40) ∧
    (tubeAt (withTubes ringing (some settled) none) .a = some settled ∧ settled.ended = some e) := by decide +kernel

/-- The FLAW gate of section 1.15 enabled, and the fallback temperature: the second echo sets the flag FLAW. -/
def flawed (ev : Evaluation) : Evaluation :=
  { ev with slice := { ev.slice with chain := [gate5, { gate9 with enabled := 1 }, gate12], tempFallback := true } }

/-- A VALID reading of head 2 that falls between F3 and F4, on a tube whose segment 0 stands on page 5. -/
def cellEvaluation : Evaluation :=
  { evaluation3 with trace := { evaluation3.trace with head := 2, timestamp := 50001000 } }

def cellTube : Tube := { tube 41 49998000 120380 with directory := [(0, { page := 5, readings := 7 })] }

def cellOn (ring : List Sample) : State :=
  (withTubes (feeding (measuring 50002900) ring [] .present 50002080) (some cellTube) none).setEvaluator (some cellEvaluation)

def cellState : State := cellOn [f3, f4]

/-- F1 to F5, and a ring of 16 with eleven earlier samples. -/
def fiveSamples : List Sample := [f1, f2, f3, f4, f5]
def wholeRing : List Sample :=
  (List.range 11).map (fun k => { f1 with timestamp := BitVec.ofNat 32 (49974000 + 2000 * k) }) ++ fiveSamples

/-- F3 and F4 stand around each time from the one to the other, in a ring of 2, of 5 and of 16 samples. -/
theorem between_f3_f4 (s : State) (time : Nat) (ht : time ∈ [50000000, 50001000, 50002000])
    (hr : s.pose.ring ∈ [[f3, f4], fiveSamples, wholeRing]) : Between f3 f4 (BitVec.ofNat 32 time) s := by
  have chain : ∀ ring ∈ [[f3, f4], fiveSamples, wholeRing],
      ring.IsChain (fun a b => laterThan b.timestamp a.timestamp = true) := by decide +kernel
  have around : ∀ x ∈ [([], []), ([f1, f2], [f5]), (wholeRing.take 13, [f5])], ∀ u ∈ [50000000, 50001000, 50002000],
      (∀ z ∈ x.1 ++ [f3], notLater z.timestamp (BitVec.ofNat 32 u) = true) ∧
      ∀ z ∈ f4 :: x.2, notLater (BitVec.ofNat 32 u) z.timestamp = true := by decide +kernel
  refine ⟨chain _ hr, ?_⟩
  simp only [List.mem_cons, List.not_mem_nil, or_false] at hr
  obtain h | h | h := hr
  · exact ⟨_, _, h, around ([], []) (by simp) time ht⟩
  · exact ⟨[f1, f2], [f5], h, around ([f1, f2], [f5]) (by simp) time ht⟩
  · exact ⟨wholeRing.take 13, [f5], h, around (wholeRing.take 13, [f5]) (by simp) time ht⟩

/-- `InCell` from what can be evaluated. -/
theorem inCell_of {s : State} {c : Ctx} {t : Tube} {r : Reading} {p : Pose} {d a : Nat} (e : DirEntry)
    (h : let x := shellX t r.head p.travel
      let n := segmentOf t.setup.sectors (binOf t x)
      r.outcome = .valid ∧ r.thickness = some d ∧ spanOf s r.timestamp = some (.live c) ∧ tubeAt s c = some t ∧
      t.generation = r.generation ∧ 0 ≤ x ∧ n < 256 ∧ dirLookup t.directory n = some e ∧
      a = cellAddress e.page (cellIndexOf t.setup.sectors (binOf t x) (sectorOf t r.head p.angle))) :
    InCell s c t r p d a :=
  have ⟨h1, h2, h3, h4, h5, h6, h7, h8⟩ := h
  ⟨h1, h2, h3, h4, h5, h6, h7, e, h8⟩

/-- Cell 3 of page 5, by hand: 120,410 − 120,380 + 300 = 330 lies in bin 0, and (4050 + 41 + 1024) mod 4096 = 1019 in sector 3. -/
theorem witness_ValidReadingUpdatesOneCell :
    let r := evaluate cellEvaluation
    (r.timestamp = 50001000 ∧ ∀ ring ∈ [[f3, f4], fiveSamples, wholeRing], Between f3 f4 50001000 (cellOn ring)) ∧
    (∀ ring, (cellOn ring).evaluator = some cellEvaluation) ∧ cellEvaluation.tie = .ordinary ∧
    InCell (cellOn fiveSamples) .a cellTube r (poseAt f3 f4 r.timestamp) 29369 (5 * 256 + 3) :=
  ⟨⟨by decide +kernel, fun _ h => between_f3_f4 _ 50001000 (by decide) h⟩, fun _ => rfl, rfl,
    inCell_of { page := 5, readings := 7 } (by decide +kernel)⟩

/-- That reading under another outcome (LOW_ENERGY), this tube in A, this one in B, these pages free. -/
def placedOnTube (low : Bool) (t : Tube) (other : Option Tube) (free : List Nat) : State :=
  let ev := if low then { cellEvaluation with trace := { cellEvaluation.trace with energy := 0 } } else cellEvaluation
  ((withTubes (reporting (feeding (measuring 50002900) fiveSamples [] .present 50002080)) (some t) other).setWall
    { pool := [(7 * 256 + 3, cellBefore)], free := free }).setEvaluator (some ev)

/-- Tube 41 with no page; under generation 6; started beyond the reading; with bins of 1; its neighbour, which drains. -/
def bare : Tube := tube 41 49998000 120380
def mismatched : Tube := { bare with generation := 6 }
def startedBeyond : Tube := { bare with startTravel := 130000 }
def beyondMap : Tube := { tube 41 49998000 0 with setup := { bare.setup with binLen := 1 } }
def draining : Tube := { ended .draining (tube 40 1000 0) 2000 5000 none with directory := [(3, ⟨8, 1⟩), (9, ⟨7, 2⟩)] }

/-- Each clause in its turn: MISMATCH, BEFORE_START, COUNTED, OUT_OF_MAP, a page that stands there, a free page, a reclaimed
page, and no page at all. -/
theorem witness_ReadingIsPlacedAndFindsAPage :
    let p := poseAt f3 f4 50001000
    (∀ x ∈ [(false, mismatched, none, [7]), (false, startedBeyond, none, [7]), (true, bare, none, [7]),
        (false, beyondMap, none, [7]), (false, cellTube, none, [7]), (false, bare, none, [7, 9]),
        (false, bare, some draining, []), (false, bare, none, [])],
      let s := placedOnTube x.1 x.2.1 x.2.2.1 x.2.2.2
      s.evaluator.map Evaluation.tie = some .ordinary ∧ s.pose.ring = fiveSamples ∧
      spanOf s 50001000 = some (.live .a) ∧ tubeAt s .a = some x.2.1 ∧ Quiet s ∧ x.2.1.setup.sectors ∈ [8, 16, 32, 64] ∧
      s.evaluator.map (fun ev => (evaluate ev).outcome) = some (if x.1 = true then .lowEnergy else .valid)) ∧
    ((∀ s : State, s.pose.ring = fiveSamples → Between f3 f4 50001000 s) ∧
      (evaluate cellEvaluation).timestamp = 50001000 ∧ (evaluate cellEvaluation).generation = 7 ∧
      (evaluate cellEvaluation).thickness = some 29369) ∧
    (mismatched.generation ≠ 7 ∧ bare.generation = 7 ∧ shellX startedBeyond 2 p.travel < 0 ∧ 0 ≤ shellX bare 2 p.travel ∧
      256 ≤ segmentOf 16 (binOf beyondMap (shellX beyondMap 2 p.travel)) ∧ segmentOf 16 (binOf bare (shellX bare 2 p.travel)) = 0 ∧
      dirLookup cellTube.directory 0 = some { page := 5, readings := 7 } ∧ dirLookup bare.directory 0 = none ∧
      draining.stage = .draining ∧ draining.directory = [(3, ⟨8, 1⟩)] ++ [(9, ⟨7, 2⟩)]) := by
  refine ⟨by decide +kernel, ⟨fun s h => between_f3_f4 s 50001000 (by decide) (by simp [h]), ?_⟩, by decide +kernel⟩
  decide +kernel

/-- The same reading with no tube, and with its tube drained away and its span retired. -/
theorem witness_no_span :
    let s := placedOnTube false bare none [7]
    let gone := s.setTubes { s.tubes with a := none }
    let retired := s.setTubes { s.tubes with
      a := none, retiredA := some { id := 41, startTime := 49998000, endTime := 50002000 } }
    (∀ x ∈ [gone, retired], Completing .ordinary cellEvaluation x ∧ x.pose.ring = fiveSamples ∧ Quiet x ∧ Reporting 1 x) ∧
    (∀ x : State, x.pose.ring = fiveSamples → Between f3 f4 50001000 x) ∧ (evaluate cellEvaluation).timestamp = 50001000 ∧
    spanOf gone (evaluate cellEvaluation).timestamp = none ∧
    spanOf retired (evaluate cellEvaluation).timestamp = some (.late 41) :=
  ⟨by decide +kernel, fun x h => between_f3_f4 x 50001000 (by decide) (by simp [h]), by decide +kernel, by decide +kernel,
    by decide +kernel⟩

/-- The tubes of R69's table: ACTIVE from 1,000; SETTLING and CLOSED_WAIT from 1,000 to 2,000; and that span retired. -/
def spanState (g : Option Stage) : State :=
  match g with
  | some .active => withTubes (measuring 9) (some (tube 41 1000 0)) none
  | some g => withTubes (measuring 9) (some (ended g (tube 41 1000 0) 2000 5000 none)) none
  | none =>
    (measuring 9).setTubes { (measuring 9).tubes with retiredA := some { id := 41, startTime := 1000, endTime := 2000 } }

/-- R69 by hand, at each end of each span and just beyond it. -/
theorem test_span_ends :
    let at4 := fun g => [(999 : Time), 1000, 2000, 2001].map (spanOf (spanState g))
    at4 (some .active) = [none, some (.live .a), some (.live .a), some (.live .a)] ∧
    at4 (some .settling) = [none, some (.live .a), some (.live .a), none] ∧
    at4 (some .closedWait) = [none, some (.late 41), some (.late 41), none] ∧
    at4 (some .draining) = [none, some (.late 41), some (.late 41), none] ∧
    at4 none = [none, some (.late 41), some (.late 41), none] := by decide +kernel

theorem witness_spans :
    (∀ t ∈ [(1000 : Time), 2000],
      FallsIn (spanState (some .active)) t .a (.live .a) ∧ FallsIn (spanState (some .settling)) t .a (.live .a) ∧
      FallsIn (spanState (some .draining)) t .a (.late 41) ∧ FallsIn (spanState none) t .a (.late 41)) ∧
    (∀ g ∈ [some Stage.active, some .settling, some .draining, none], ∀ t ∈ [(1000 : Time), 2000], ∀ y,
      ¬FallsIn (spanState g) t .b y) := by
  constructor
  · intro t ht
    obtain rfl | rfl : t = 1000 ∨ t = 2000 := by simpa using ht
    all_goals exact ⟨.inl ⟨_, rfl, rfl, rfl, rfl⟩, .inr (.inl ⟨_, _, rfl, rfl, rfl, rfl, .inl ⟨rfl, rfl⟩⟩),
      .inr (.inl ⟨_, _, rfl, rfl, rfl, rfl, .inr ⟨.inr rfl, rfl⟩⟩), .inr (.inr ⟨_, rfl, rfl, rfl, rfl, rfl⟩)⟩
  · intro g hg t _ y
    obtain rfl | rfl | rfl | rfl : g = some .active ∨ g = some .settling ∨ g = some .draining ∨ g = none := by simpa using hg
    all_goals rintro (⟨_, h, _⟩ | ⟨_, _, h, _⟩ | ⟨_, _, h, _⟩) <;> cases h

theorem witness_coordinates :
    (∀ l ∈ [(⟨2, 1024, -300⟩ : LatchedHead), ⟨5, 3072, 400⟩], l ∈ bare.heads) ∧ (bare.heads.map LatchedHead.head).Nodup ∧
    1 ≤ bare.setup.sectors ∧ (0 : Int) ≤ 0 := by decide +kernel

theorem witness_OnlyPlacementsChangeCells :
    exec .timeMark busy = .next (after (exec .timeMark busy)) ∧ Instr.timeMark ≠ .powerOnReset ∧
    Instr.timeMark ≠ .evaluationCompletion ∧ Instr.timeMark ≠ .write := ⟨rfl, by decide, by decide, by decide⟩

/-- The first SEQ_GAP and a further one; a FAILED occurrence on a RELEASED capture, and one on a HELD capture; and the same
with the NOTICE class queue full, NOTICE_LOST being FAILED or not. -/
theorem witness_OccurrenceIsCountedAndNotified :
    let before := fun (s : State) (k : EventKind) => tableGet s.events.records k.index
    let full := (measuring 9).setMill { (measuring 9).mill with
      noticeQ := List.replicate 16 (noticeOf .enable .flaw none (measuring 9)) }
    let grave := full.setEvents { full.events with
      records := tableMod full.events.records 16 (fun r => { r with severity := .failed }) }
    ((measuring 9).mill.noticeQ.length < 16 ∧ (before (measuring 9) .seqGap).flag = false ∧
      (before (measuring 9) .seqGap).report = true ∧ (before (measuring 9) .seqGap).severity ≠ .failed) ∧
    (busy.mill.noticeQ.length < 16 ∧ (before busy .seqGap).flag = true) ∧
    ((before busy .drainTruncated).severity = .failed ∧ busy.events.capture = none) ∧
    (raise .summaryLost (.frameTube 0x23 41) busy).events.capture.isSome = true ∧
    (∀ s ∈ [full, grave], 16 ≤ s.mill.noticeQ.length ∧ s.events.capture = none ∧
      ∀ k ∈ [EventKind.seqGap, .drainTruncated], (before s k).flag = false ∧ (before s k).report = true) ∧
    ((before full .noticeLost).severity ≠ .failed ∧ (before grave .noticeLost).severity = .failed ∧
      (before grave .seqGap).severity ≠ .failed ∧ (before grave .drainTruncated).severity = .failed) := by decide +kernel

/-- R149 and R173 by hand: DRAIN_TRUNCATED at a full NOTICE class queue fills the capture with the tube id of its detail, and
the lost notice counts. -/
theorem test_notice_lost :
    let full := busy.setMill { busy.mill with noticeQ := List.replicate 16 (noticeOf .enable .flaw none busy) }
    let s := raise .drainTruncated (.tubeContext 40 .b) full
    countOf s .drainTruncated = 1 ∧ countOf s .noticeLost = 1 ∧ s.mill.noticeQ.length = 16 ∧
    tableGet s.mill.counters.dropped 1 = 1 ∧ s.events.capture.map Capture.tubeId = some (some 40) ∧
    (raise .drainTruncated (.head 2) full).events.capture.map Capture.tubeId = some (some 41) := by decide +kernel

theorem witness_LinksComeAndGo :
    (State.reset.headPort.link = .down ∧ (measuring 9).headPort.link = .up ∧
      (let s := (measuring 9).setHeadPort { (measuring 9).headPort with partTime := 5000, lastMark := some 4000 }
       s.headPort.link = .up ∧ s.headPort.markInFlight = none ∧ s.headPort.lastMark = some 4000 ∧
       1000 ≤ (s.headPort.partTime - 4000).toNat) ∧
      (startMark (measuring 9)).headPort.markInFlight = some 9) ∧
    (State.reset.mill.link = .down ∧ State.reset.mill.transmitter = none ∧ State.reset.mill.responseQ = [] ∧
      State.reset.mill.noticeQ = [] ∧ State.reset.mill.summaryQ = [] ∧ State.reset.mill.mapQ = [] ∧
      State.reset.mill.readingQ = [] ∧ State.reset.mill.mirrorQ = []) ∧
    ((measuring 9).mill.link = .up ∧ (measuring 9).mill.transmitter = none) ∧
    (sending.mill.link = .up ∧ sending.mill.transmitter = some (.reading (reading 2 0 29000))) := by decide +kernel

/-- Head 2 stands in this state and expects 12,004; the Trace Queue has one place left. -/
def head2As (state : HeadState) : State :=
  let s := intake 70002000 47
  s.setHeadPort { s.headPort with heads := tableSet s.headPort.heads 2 (record state 12004 69999000 70000000) }

theorem witness_AcceptedTraceJoinsTheQueue :
    (∀ g ∈ [HeadState.active, .unseen, .silent],
      (head2As g).headPort.link = .up ∧ Admitting 2 (head2As g) ∧ (head2As g).traceQueue.length < 48 ∧ Quiet (head2As g) ∧
      (tableGet (head2As g).headPort.heads 2).state = g ∧ (tableGet (head2As g).headPort.heads 2).expected = some 12004) ∧
    sampleCountOk (trace2 12004) = true ∧ 0 < ((12005 : Seq) - 12004).toNat ∧ ((44771 : Seq) - 12004).toNat = 32767 := by
  decide +kernel

theorem witness_TraceThatIsNotAdmitted :
    ((head2As .active).headPort.link = .up ∧ sampleCountOk (trace2 44772) = true ∧
      (tableGet (head2As .active).headPort.heads 2).expected = some 12004 ∧ 32768 ≤ ((44772 : Seq) - 12004).toNat) ∧
    (tableGet (head2As .disabled).headPort.heads 2).state = .disabled ∧
    (let s := (head2As .active).setAgent { (head2As .active).agent with mode := .standby }
     ¬Admitting 2 s ∧ Quiet s ∧ s.headPort.link = .up ∧ (tableGet s.headPort.heads 2).state = .active) ∧
    (let s := intake 70003000 48
     Admitting 2 s ∧ s.traceQueue.length = 48 ∧ Quiet s ∧ (tableGet s.headPort.heads 2).state = .active ∧
     (tableGet s.headPort.heads 2).expected = some 12004) := by decide +kernel

theorem witness_RejectedFramesAreCounted : busy.headPort.link = .up ∧ busy.mill.link = .up := by decide +kernel

theorem witness_TemperatureRecords :
    busy.headPort.link = .up ∧ (1600 : BitVec 16).toNat ≤ 1600 ∧ 1600 < (1601 : BitVec 16).toNat ∧
    (tableGet (starting 5).headPort.channels 1).held =
      some { temperature := 1180, arrival := 5, reported := 87949700 } ∧
    2147483648 ≤ ((88103000 : Time) - (88103000 - 2147483648)).toNat := by decide +kernel

/-- The feed stands at F5 with no tube. -/
def idleFeed (ring : List Sample) : State := feeding (measuring 50004080) ring [] .present 50004080

theorem witness_PositionFrameIsJudgedAndJoins :
    (idleFeed [f4, f5]).headPort.link = .up ∧ 4095 < (4096 : BitVec 16).toNat ∧ 4000000 < (4000001 : BitVec 32).toNat ∧
    (newestSample (idleFeed [f4, f5]) = some f5 ∧ laterThan 50004000 f5.timestamp = false ∧
      laterThan 50004001 f5.timestamp = true) ∧
    ((4095 : BitVec 16).toNat ≤ 4095 ∧ (4000000 : BitVec 32).toNat ≤ 4000000 ∧
      (idleFeed (List.replicate 16 f5)).pose.presence.agrees true = true ∧ (idleFeed (List.replicate 16 f5)).pose.waiting = [] ∧
      (idleFeed (List.replicate 16 f5)).tubes.a = none ∧ (idleFeed (List.replicate 16 f5)).tubes.b = none ∧
      (idleFeed (List.replicate 16 f5)).drain = none ∧ (idleFeed (List.replicate 16 f5)).pose.ring.length ≤ 16) ∧
    ((idleFeed [f4, f5]).pose.presence.agrees false = false ∧ (idleFeed [f4, f5]).pose.runLength = 0 ∧
      1 < bank.map.presenceCount.toNat ∧ (beforeF3.pose.presence.agrees true = false) ∧ beforeF3.pose.runLength = 1 ∧
      bank.map.presenceCount.toNat ≤ min 8 (1 + 1) ∧ beforeF3.pose.waiting = [] ∧ beforeF3.tubes.a = none ∧
      (beforeF3.setAgent { beforeF3.agent with mode := .standby }).agent.mode ≠ .measure) := by
  decide +kernel

/-- R57 by hand: the second present frame in STANDBY changes the presence state and starts no tube; one absent frame begins a
run. -/
theorem test_presence_run :
    let s := after (exec (.positionFrame (frameOf 50000000 4050 120400 true))
      (beforeF3.setAgent { beforeF3.agent with mode := .standby }))
    let u := after (exec (.positionFrame (frameOf 50006000 200 120460 false)) (idleFeed [f4, f5]))
    s.pose.presence = .present ∧ s.pose.runLength = 0 ∧ s.pose.runFirst = none ∧ s.tubes.a = none ∧
    u.pose.presence = .present ∧ u.pose.runLength = 1 ∧
    u.pose.runFirst = some { timestamp := 50006000, travel := 120460 } := by decide +kernel

/-- F3 with an apply pending of this staged bank, under this generation. -/
def pendingF3 (b : Bank) (generation : Nat) : State :=
  beforeF3.setAgent { beforeF3.agent with staged := b, generation := generation, applyPending := true }

/-- F3 with both contexts FREE, with A taken, and with neither FREE; with an apply pending that succeeds, that fails
validation, and that finds the last generation. -/
theorem witness_PresenceRunStartsATube :
    (∀ s ∈ [beforeF3, withTubes beforeF3 (some (ended .closedWait (tube 41 3000 0) 4000 5000 none)) none, truncating,
        pendingF3 mendedBank 7, pendingF3 badBank 7, pendingF3 mendedBank 4294967295],
      s.headPort.link = .up ∧ newestSample s = some f2 ∧ laterThan 50000000 f2.timestamp = true ∧
      s.pose.presence = .absent ∧ (s.pose.advanceRun f3).runFirst = some { timestamp := 49998000, travel := 120380 } ∧
      1 ≤ (s.pose.advanceRun f3).runLength ∧ bank.map.presenceCount.toNat ≤ (s.pose.advanceRun f3).runLength ∧
      s.pose.waiting = [] ∧ s.agent.mode = .measure ∧ s.agent.run = none ∧ s.agent.active = some bank ∧
      PageLaw s ∧ TubeLaw s ∧ s.mill.noticeQ.length < 16 ∧
      (tableGet s.events.records EventKind.recipeRejected.index).flag = false ∧
      (tableGet s.events.records EventKind.recipeRejected.index).report = true) ∧
    truncating.tubes.newest = some .a ∧ chooseCtx truncating = .b ∧ (tubeAt truncating .b).map Tube.id = some 40 ∧
    4 ≤ truncating.mill.mapQ.length ∧ truncating.mill.noticeQ.length < 12 ∧
    (tableGet truncating.events.records EventKind.drainTruncated.index).flag = false ∧
    (tableGet truncating.events.records EventKind.drainTruncated.index).report = true ∧ validate mendedBank = none ∧
    validate badBank = some { code := .chainInvalid, argument := 6 } := by decide +kernel

/-- One absent frame has been seen at 50,006,000; a trace of the tube still stands in the Trace Queue. -/
def beforeEnd : State :=
  let s := withTubes (feeding (measuring 50008080) [f4, f5] [] .present 50006080) (some (tube 41 49998000 120380)) none
  (s.setPose { s.pose with runLength := 1, runFirst := some { timestamp := 50006000, travel := 120460 } }).setTraceQueue
    [{ trace2 1 with timestamp := 50006000 }]

theorem witness_AbsenceRunEndsTheTube :
    beforeEnd.headPort.link = .up ∧ newestSample beforeEnd = some f5 ∧ laterThan 50008000 f5.timestamp = true ∧
    beforeEnd.pose.presence = .present ∧
    (beforeEnd.pose.advanceRun (sampleOf (frameOf 50008000 0 120480 false))).runFirst =
      some { timestamp := 50006000, travel := 120460 } ∧
    bank.map.presenceCount.toNat ≤ (beforeEnd.pose.advanceRun (sampleOf (frameOf 50008000 0 120480 false))).runLength ∧
    beforeEnd.agent.active = some bank ∧ beforeEnd.pose.waiting = [] ∧ TubeLaw beforeEnd ∧ PageLaw beforeEnd ∧
    tubeAt beforeEnd .a = some (tube 41 49998000 120380) ∧ { trace2 1 with timestamp := 50006000 } ∈ beforeEnd.traceQueue ∧
    laterThan 50006000 50006000 = false := by decide +kernel

theorem witness_HeadSilenceExpires :
    let s := silencing 70023000
    (tableGet s.headPort.heads 2).state = .active ∧ (tableGet s.headPort.heads 2).lastArrival = some 70003000 ∧
    s.agent.timing.headSilence * 1000 ≤ (s.headPort.partTime - 70003000).toNat ∧ activeCtx s = some .a ∧
    PageLaw s ∧ tubeAt s .a = some (tube 41 60000000 0) ∧ tubeLive (withTubes s none none) = false ∧
    (∀ g : HeadNo, headEnabled s g = true → g = 2 ∨ headStateOf s g = .silent) ∧
    (headEnabled busy 5 = true ∧ headStateOf busy 5 ≠ .silent) := by decide +kernel

/-- The tube of section 3.9, with nothing to wait for and a full MAP class queue, and with one of its traces still queued. -/
theorem witness_PositionSilenceExpires :
    let early : Trace := { trace2 1 with timestamp := 50004000 }
    let full := beforeSilence.setMill { beforeSilence.mill with mapQ := List.replicate 4 (.finish 40 0 0) }
    (∀ s ∈ [beforeSilence, full, beforeSilence.setTraceQueue [early],
        withTubes (feeding (measuring 50014080) [] [] .absent 50004080) none none],
      s.pose.feed = .live ∧ s.pose.lastAcceptance = some 50004080 ∧
      s.agent.timing.positionSilence * 1000 ≤ (s.headPort.partTime - 50004080).toNat ∧ TubeLaw s ∧ PageLaw s) ∧
    activeCtx beforeSilence = some .a ∧ newestSample beforeSilence = some f5 ∧
    tubeAt beforeSilence .a = some (tube 41 49998000 120380) ∧ 4 ≤ full.mill.mapQ.length ∧
    laterThan early.timestamp f5.timestamp = false := by decide +kernel

/-- The tube that settles there; with two rings still open, bin 1 holding the highest reading; with its bins all closed. -/
def settlingTube : Tube := ended .settling (tube 41 60000000 200000) 62400000 263800 (some 62404080)
def openRings (nextRing : Nat) (s : State) : State :=
  (withTubes s (some { settlingTube with nextRing := nextRing, directory := [(0, { page := 0, readings := 5 })] }) none).setWall
    { pool := [(3, cellWith 3 88501 0), (18, cellWith 2 60401 0)], free := (List.range 384).drop 1 }

theorem witness_SettlingCompletes :
    (∀ s ∈ [settling, settleLimit, openRings 0 settling, openRings 2 settling, openRings 0 settleLimit],
      tubeAt s .b = none ∧ s.drain = none ∧ s.mill.mapQ.length = 4 ∧ s.pose.waiting = [] ∧ s.mill.summaryQ.length + 2 < 32 ∧
      s.agent.timing.settle * 1000 ≤ 50000) ∧
    (tubeAt settling .a = some settlingTube ∧ settlingTube.stage = .settling ∧
      settlingTube.settleEntry = some 62404080 ∧ highestBin settling settlingTube = none) ∧
    (∀ n ∈ [0, 2],
      (tubeAt (openRings n settling) .a).bind (highestBin (openRings n settling)) = some 1 ∧
      (tubeAt (openRings n settling) .a).map (fun t => (t.stage, t.nextRing, settleCondition (openRings n settling) t 62400000)) =
        some (.settling, n, true)) ∧
    (1 < 65536 / 16 ∧ 2 = 1 + 1 - 0 ∧ 0 = 1 + 1 - 2) ∧ settleCondition settling settlingTube 62400000 = true ∧
    settleLimit.agent.timing.settle * 1000 ≤ (settleLimit.headPort.partTime - 62404080).toNat := by decide +kernel

/-- The digest of `test_summary`, with and without a body, with and without an eccentricity. -/
theorem witness_summary :
    (digested.digest.map DigestEntry.bin).Pairwise (· < ·) ∧
    digested.digest.filter (fun d => decide (d.bin < (summaryOf digested (endAt 1200)).tailBin)) ≠ [] ∧
    digested.digest.filter (fun d => decide (d.bin < (summaryOf digested (endAt 199)).tailBin)) = [] ∧
    (∃ d ∈ digested.digest.take 3, d.eccentricity ≠ none) := by decide +kernel

/-- The chain of section 1.15 begins at 5 and ends early at END; channel codes at the ends of their range. -/
theorem witness_chain :
    (tableGet bank.heads 2).chainStart.toNat < 64 ∧ (latchChain bank head2).length = 3 ∧
    (latchChain bank head2).map (fun g => g.next.toNat) = [9, 12, 255] ∧ (3 : Byte).toNat < 4 ∧ 4 ≤ (4 : Byte).toNat := by
  decide +kernel

/-- Head 6, disabled; head 2, enabled; head 2 under a run; channel 1 held, fresh and stale at the limit's two sides. -/
theorem witness_EvaluationStartLatches :
    (starting 87603000).evaluator = none ∧ (starting 87603000).agent.active = some bank ∧ Quiet (starting 87603000) ∧
    headEnabled (starting 87603000) 6 = false ∧ headEnabled (starting 87603000) 2 = true ∧
    (starting 87603000).agent.run.map CalRun.head ≠ some 2 ∧ (calibrating 9 (some run6)).agent.run = some run6 ∧
    channelOf (tableGet bank.heads 2).channel = some 1 ∧ channelOf HeadEntry.default.channel = none ∧
    ((88103000 : Time) - 87603000).toNat ≤ 500 * 1000 ∧ 500 * 1000 < ((88103000 : Time) - 87602999).toNat := by
  decide +kernel

/-- The evaluation ends while the ring holds one sample and no tube is live; the head's policies, its counters, the link. -/
def unposed (o : OutputEntry) (d : Decimation) (link : LinkState) (n : Nat) : State :=
  let s := feeding (measuring 9) [f1] [] .absent 5
  ((s.setAgent { s.agent with output := Vector.replicate 8 o }).setMill
    { s.mill with
      link := link, decimation := Vector.replicate 8 d, readingQ := List.replicate n (reading 2 0 29000),
      mirrorQ := List.replicate n { trace := trace2 1, reading := reading 2 0 29000 } }).setEvaluator (some cellEvaluation)

theorem witness_EvaluationCompletesWithoutAPose :
    (∀ o ∈ [OutputEntry.default, { OutputEntry.default with reading := .all }, { OutputEntry.default with reading := .validOnly },
        { OutputEntry.default with reading := .everyN, readingN := 4 }, { OutputEntry.default with mirror := .rejected },
        { OutputEntry.default with mirror := .flawed }, { OutputEntry.default with mirror := .everyN, mirrorN := 4 }],
      ∀ d ∈ [(2 : Nat), 3], ∀ l ∈ [LinkState.up, .down], ∀ n ∈ [7, 8, 63, 64],
        let s := unposed o { reading := d, mirror := d } l n
        s.evaluator = some cellEvaluation ∧ s.pose.ring.length < 2 ∧ s.tubes.a = none ∧ s.tubes.b = none ∧
        outputOf s 2 = o ∧ decimationOf s 2 = { reading := d, mirror := d } ∧ s.mill.link = l ∧ s.mill.readingQ.length = n ∧
        s.mill.mirrorQ.length = n) ∧
    cellEvaluation.tie = .ordinary ∧ cellEvaluation.trace.head = 2 ∧ (evaluate cellEvaluation).outcome = .valid ∧
    (evaluate cellEvaluation).flags.flaw = false ∧ (evaluate cellEvaluation).flags.tempFallback = false ∧
    (evaluate (flawed cellEvaluation)).flags.flaw = true ∧ (evaluate (flawed cellEvaluation)).flags.tempFallback = true ∧
    (flawed cellEvaluation).tie = .ordinary ∧
    (evaluate { cellEvaluation with trace := { cellEvaluation.trace with energy := 0 } }).outcome = .lowEnergy ∧
    2 + 1 < 4 ∧ 4 ≤ 3 + 1 := by decide +kernel

/-- R25 by hand: a VALID reading with both flags raises FLAW and then TEMP_FALLBACK, and is mirrored under FLAWED. -/
theorem test_flaw :
    let s := (unposed { OutputEntry.default with mirror := .flawed } Decimation.zero .up 0).setEvaluator
      (some (flawed cellEvaluation))
    let u := after (exec .evaluationCompletion s)
    u.mill.noticeQ.map (fun n => (n.kind, n.detail)) =
      [(.flaw, some (.head 2)), (.tempFallback, some (.headChannel 2 (some 1)))] ∧
    u.mill.mirrorQ.map (fun m => m.reading.outcome) = [.valid] := by decide +kernel

/-- The reading of 50,001,000 with one sample, and with samples that are all later, on tube 41, under another generation, and
with no tube. -/
theorem witness_unposed_in_a_tube :
    let s := fun ring t => withTubes ((reporting (feeding (measuring 50002900) ring [] .present 50002080)).setEvaluator
      (some cellEvaluation)) t none
    (∀ ring ∈ [[f3], [f4, f5]], ∀ t ∈ [some bare, some mismatched, none],
      Completing .ordinary cellEvaluation (s ring t) ∧ Quiet (s ring t) ∧ Reporting 1 (s ring t) ∧ tubeAt (s ring t) .a = t ∧
      spanOf (s ring t) 50001000 = t.map (fun _ => .live .a)) ∧
    ([f3].length < 2 ∧ 2 ≤ [f4, f5].length ∧ [f4, f5].head? = some f4 ∧
      laterThan f4.timestamp (evaluate cellEvaluation).timestamp = true ∧ (evaluate cellEvaluation).timestamp = 50001000) := by
  decide +kernel

/-- That many readings of head 2 wait in the state of section 3.9 after F4, the feed LIVE or SILENT. -/
def crowded (n : Nat) (feed : FeedState) : State :=
  let s := placing 50002500
  s.setPose { s.pose with waiting := List.replicate n (reading 2 50002400 29000), feed := feed }

/-- A reading of the settling tube waits at its settle limit, and one later than its end. -/
def e4 : Sample := { f4 with timestamp := 62396000 }
def e5 : Sample := { f5 with timestamp := 62398000 }
def waitingAtLimit : State :=
  reporting (settleLimit.setPose { PoseTracker.reset with
    ring := [e4, e5],
    waiting := [reading 2 62399000 29000, reading 2 62401000 29000] })

theorem witness_PendingReadingsAreResolved :
    (beforeF5.headPort.link = .up ∧ newestSample beforeF5 = some f4 ∧ laterThan 50004000 f4.timestamp = true ∧
      beforeF5.pose.presence.agrees true = true ∧
      beforeF5.pose.waiting.filter (fun r => notLater r.timestamp 50004000) =
        [reading 2 50002500 29000, reading 5 50003200 29000] ∧
      OfTube .a (tube 41 49998000 120380) [reading 2 50002500 29000, reading 5 50003200 29000] beforeF5 ∧
      Reporting 2 beforeF5) ∧
    (lastTwo beforeSilence.pose.ring = some (f4, f5) ∧ positionSilenceDue beforeSilence = true ∧
      OfTube .a (tube 41 49998000 120380) beforeSilence.pose.waiting beforeSilence ∧ Reporting 1 beforeSilence) ∧
    (lastTwo waitingAtLimit.pose.ring = some (e4, e5) ∧
      settleDue waitingAtLimit .a = true ∧ (settlingTube.ended.map TubeEnd.time) = some 62400000 ∧
      waitingAtLimit.pose.waiting.filter (fun r => notLater r.timestamp 62400000) = [reading 2 62399000 29000] ∧
      OfTube .a settlingTube [reading 2 62399000 29000] waitingAtLimit ∧ Reporting 1 waitingAtLimit) := by
  decide +kernel

/-- The same statement's clauses at the end of an evaluation: with room on the pending list, at 32, and on a SILENT feed. -/
theorem witness_pending_list :
    (∀ n ∈ [0, 31, 32], ∀ g ∈ [FeedState.live, .silent],
      let s := crowded n g
      s.pose.feed = g ∧ s.pose.waiting.length = n ∧ Quiet s ∧ lastTwo s.pose.ring = some (f3, f4) ∧
      s.pose.ring.head? = some f1 ∧ OfTube .a (tube 41 49998000 120380) (reading 2 50002500 29000 :: s.pose.waiting) s ∧
      Reporting 1 s ∧ (s.evaluator.map Evaluation.tie) = some .ordinary ∧
      (s.evaluator.map (fun ev => ((evaluate ev).timestamp, (evaluate ev).generation))) = some (50002500, 7)) ∧
    laterThan f1.timestamp 50002500 = false ∧ laterThan 50002500 f4.timestamp = true := by decide +kernel

/-- The tube of context A on page 5 for its segment 0; the reading that waits at the settle limit, over samples of that tube. -/
def paged (s : State) : State :=
  (s.setTubes { s.tubes with a := s.tubes.a.map (fun t => { t with directory := [(0, { page := 5, readings := 7 })] }) }).setWall
    { pool := [], free := (List.range 384).filter (fun p => p != 5) }

def d4 : Sample := { e4 with travel := 200400 }
def d5 : Sample := { e5 with travel := 200420 }

def onSettlingTube : State := paged (waitingAtLimit.setPose { waitingAtLimit.pose with ring := [d4, d5] })

/-- Each of the four points of R50: a SILENT feed, a list of 32 (the figures of `witness_pending_list`), position silence and the
settle limit. -/
theorem witness_extrapolated_cell :
    let r := evaluate { evaluation3 with trace := { evaluation3.trace with head := 2, timestamp := 50002500 } }
    let t := { tube 41 49998000 120380 with directory := [(0, { page := 5, readings := 7 })] }
    let old := reading 2 50002400 29000
    let rd := reading 2 50009000 29000
    let waits := reading 2 62399000 29000
    let limit := fun (s : State) => s.agent.timing.positionSilence * 1000
    (∀ x ∈ [(paged (crowded 0 .silent), r, f4), (paged (crowded 32 .live), old, f4), (paged beforeSilence, rd, f5),
        (onSettlingTube, waits, d5)],
      (lastTwo x.1.pose.ring).map Prod.snd = some x.2.2 ∧ PageLaw x.1 ∧
        (x.2.1.timestamp - x.2.2.timestamp).toNat ≤ limit x.1) ∧
    ExtrapolatedAtCompletion r f4 (paged (crowded 0 .silent)) ∧
    InCell (paged (crowded 0 .silent)) .a t r (poseAt f3 f4 50002500) 29369 (5 * 256 + 4) ∧
    ExtrapolatedAtCompletion old f4 (paged (crowded 32 .live)) ∧
    InCell (paged (crowded 32 .live)) .a t old (poseAt f3 f4 50002400) 29000 (5 * 256 + 4) ∧
    ExtrapolatedAtExpiry .positionSilenceExpiry [rd] (paged beforeSilence) ∧
    InCell (paged beforeSilence) .a t rd (poseAt f4 f5 50009000) 29000 (5 * 256 + 5) ∧
    ExtrapolatedAtExpiry (.settleLimitExpiry .a) [waits] onSettlingTube ∧
    InCell onSettlingTube .a { settlingTube with directory := [(0, { page := 5, readings := 7 })] } waits
      (poseAt d4 d5 62399000) 29000 (5 * 256 + 20) := by
  refine ⟨by decide +kernel, ?_, inCell_of ⟨5, 7⟩ (by decide +kernel), ?_, inCell_of ⟨5, 7⟩ (by decide +kernel), .inl ?_,
    inCell_of ⟨5, 7⟩ (by decide +kernel), .inr ?_, inCell_of ⟨5, 7⟩ (by decide +kernel)⟩
  · exact ⟨_, f1, rfl, rfl, rfl, by decide +kernel, by decide +kernel, .inl ⟨rfl, rfl⟩⟩
  · exact ⟨_, f1, rfl, rfl, rfl, by decide +kernel, by decide +kernel,
      .inr ⟨rfl, List.replicate 31 (reading 2 50002400 29000), rfl, rfl⟩⟩
  · exact ⟨rfl, by decide +kernel, rfl⟩
  · exact ⟨.a, { settlingTube with directory := [(0, { page := 5, readings := 7 })] }, _, rfl, by decide +kernel,
      by decide +kernel, rfl, by decide +kernel⟩

theorem witness_DrainProceedsInSegmentOrder :
    (waiting.drain = none ∧ stageIs waiting .b .closedWait = true ∧ waiting.mill.mapQ.length = 4 ∧
      stageIs waiting .a .closedWait = true ∧ waiting.tubes.newest = some .a) ∧
    (roomy.drain = some { ctx := .a, cursor := 123, sent := 123, waiting := true } ∧
      (tubeAt roomy .a).map Tube.directory = some [(123, ⟨140, 9⟩), (254, ⟨18, 3⟩), (255, ⟨19, 4⟩)] ∧
      roomy.mill.mapQ.length < 4) ∧
    (drained.drain = some { ctx := .a, cursor := 254, sent := 254, waiting := false } ∧
      (tubeAt drained .a).map Tube.directory = some [] ∧ drained.mill.mapQ.length < 4 ∧
      stageIs drained .b .closedWait = false) ∧
    (twoDrains.drain = none ∧ stageIs twoDrains .b .closedWait = true ∧ stageIs twoDrains .a .closedWait = true ∧
      twoDrains.tubes.newest = some .a ∧ (tubeAt twoDrains .b).map Tube.directoryOk = some true ∧
      (tubeAt twoDrains .b).map (fun t => t.directory.length) = some 2) := by decide +kernel

theorem witness_RequestJoinsTheQueue :
    let full := fun n => (measuring 9).setMill { MillPort.reset with
      link := .up, requestQ := List.replicate n (request 9 0 0 0 []) }
    (full 3).mill.link = .up ∧ (full 3).mill.requestQ.length < 4 ∧ (full 4).mill.requestQ.length = 4 ∧
    requestLengthOk (request 5 0 0 0 [1]) = true ∧ requestLengthOk (request 5 0 0 0 []) = false := by decide +kernel

/-- One frame in the class of this index, the link UP and the transmitter IDLE. -/
def oneFrame (k : Nat) : State :=
  (measuring 9).setMill { MillPort.reset with
    link := .up,
    responseQ := if k = 0 then [{ tag := 1, status := .ok, data := .none }] else [],
    noticeQ := if k = 1 then [noticeOf .occurrence .flaw none State.reset] else [],
    summaryQ := if k = 2 then [.calResult (calResultOf run6 .aborted none State.reset)] else [],
    mapQ := if k = 3 then [.finish 41 254 2] else [],
    readingQ := if k = 4 then [reading 2 0 29000] else [],
    mirrorQ := if k = 5 then [{ trace := trace2 1, reading := reading 2 0 29000 }] else [] }

theorem witness_FramesAreSentByClass :
    (∀ k ∈ [0, 1, 2, 3, 4, 5],
      (oneFrame k).mill.link = .up ∧ (oneFrame k).mill.transmitter = none ∧ (oneFrame k).agent.processing = none ∧
      (oneFrame k).drain = none ∧ ((oneFrame k).mill.responseQ ≠ [] ↔ k = 0) ∧ ((oneFrame k).mill.noticeQ ≠ [] ↔ k = 1) ∧
      ((oneFrame k).mill.summaryQ ≠ [] ↔ k = 2) ∧ ((oneFrame k).mill.mapQ ≠ [] ↔ k = 3) ∧
      ((oneFrame k).mill.readingQ ≠ [] ↔ k = 4) ∧ ((oneFrame k).mill.mirrorQ ≠ [] ↔ k = 5)) ∧
    (holding.mill.transmitter = none ∧ holding.mill.responseQ.length = 2 ∧ holding.agent.processing.isSome = true) ∧
    (dry.mill.transmitter = none ∧ dry.drain.isSome = true ∧ dry.mill.mapQ.length = 4 ∧ dry.mill.responseQ = []) ∧
    (truncating.mill.transmitter = none ∧ truncating.mill.link = .up ∧ truncating.drain.map Drain.ctx = some .b ∧
      (tubeAt truncating .b).isSome = true ∧ PageLaw truncating ∧ truncating.mill.mapQ ≠ [] ∧
      truncating.mill.responseQ = [] ∧ truncating.mill.noticeQ = [] ∧ truncating.mill.summaryQ = []) ∧
    sending.mill.transmitter = some (.reading (reading 2 0 29000)) ∧
    (let s := holding.setMill { holding.mill with responseQ := holding.mill.responseQ.take 1 }
     s.agent.processing = holding.agent.processing ∧ s.mill.responseQ.length < 2) := by decide +kernel

theorem witness_RequestChecksComeInOrder :
    tableOf 16 = none ∧
    (tableOf 0 = some .head ∧ TableName.head.isRecipe = true ∧ (2 : Byte).toNat ≠ 0 ∧ (2 : Byte).toNat ≠ 1) ∧
    (tableOf 10 = some .context ∧ TableName.context.isContext = true ∧ (1 : Byte).toNat < 2 ∧ 5 < (6 : Byte).toNat) ∧
    ((1 : Byte).toNat ≤ 1 ∧ 2 ≤ (2 : Byte).toNat ∧ (5 : Byte).toNat ≤ 5 ∧ TableName.pose.isRecipe = false ∧
      TableName.pose.isContext = false) ∧
    (∀ t ∈ [TableName.head, .gate, .velocity, .mapSetup, .timing, .output, .calib, .headStatus, .tempChannel, .pose, .context,
        .directory, .mapPage, .event, .fault, .portCounters],
      entryAt t (indexCount t) = none ∧ (entryAt t (indexCount t - 1)).isSome = true ∧ 1 ≤ indexCount t) ∧
    State.reset.agent.active = none ∧ busy.agent.active.isSome = true ∧
    (tubeAt State.reset .a = none ∧ tubeAt State.reset .b = none) ∧
    (tubeAt cellState .a = some cellTube ∧ dirLookup cellTube.directory 255 = none ∧
      (dirLookup cellTube.directory 0).isSome = true) := by
  decide +kernel

/-- R160: every selector with two tubes, CURRENT with one, and none with none. -/
theorem witness_selectors :
    CtxNamed twoDrains 2 .a ∧ CtxNamed twoDrains 3 .b ∧ CtxNamed twoDrains 4 .a ∧ CtxNamed twoDrains 5 .b ∧
    CtxNamed cellState 2 .a ∧ CtxNamed cellState 4 .a ∧ ∀ c, ¬CtxNamed State.reset 2 c :=
  ⟨⟨by decide, .inl ⟨rfl, .inr rfl⟩⟩, ⟨by decide, .inr (.inl ⟨rfl, by decide, rfl⟩)⟩,
    ⟨by decide, .inr (.inr (.inl ⟨rfl, rfl⟩))⟩, ⟨by decide, .inr (.inr (.inr ⟨rfl, rfl⟩))⟩,
    ⟨by decide, .inl ⟨rfl, .inl rfl⟩⟩, ⟨by decide, .inr (.inr (.inl ⟨rfl, rfl⟩))⟩,
    fun c h => h.1 (by cases c <;> rfl)⟩

/-- R159: what each kind of operation is carried out on. -/
theorem witness_carried_out :
    CarriedOut .read .mapPage 4 ∧ CarriedOut .write .head 0 ∧ CarriedOut .exchange .event 0 ∧ CarriedOut .clear .fault 0 :=
  ⟨.inl rfl, .inr (.inl ⟨.inl rfl, .inr ⟨rfl, rfl⟩⟩), .inr (.inl ⟨.inr rfl, .inl (by decide)⟩), .inr (.inr ⟨rfl, by decide⟩)⟩

/-- A request that passes its checks, whatever it names, and one that fails them. -/
theorem witness_ReadAndClearReturnTheEntry :
    (∀ x ∈ [request 0 7 0 7 [], request 0 14 0 0 [], request 3 7 0 7 [], request 3 8 0 3 [], request 3 15 0 0 [],
        request 3 14 0 0 [], request 3 13 0 21 [], request 3 13 0 4 [], request 0 7 0 8 [], request 0 12 4 255 [],
        request 3 9 0 0 []] ++
        [(0, 0, 7), (0, 1, 7), (1, 0, 63), (1, 1, 63), (2, 0, 15), (2, 1, 16), (3, 0, 0), (3, 1, 0), (4, 0, 0), (5, 0, 7),
          (6, 0, 7), (7, 0, 7), (8, 0, 3), (9, 0, 0), (10, 2, 0), (11, 4, 255), (12, 4, 0), (13, 0, 21), (14, 0, 0),
          (15, 0, 0)].map (fun k => request 0 (BitVec.ofNat 8 k.1) (BitVec.ofNat 8 k.2.1) (BitVec.ofNat 16 k.2.2) []),
      Ready x [] (asking busy x)) ∧
    operationOf 0 = some .read ∧ operationOf 3 = some .clear ∧
    (busy.agent.active = some bank ∧ (tubeAt busy .a).isSome = true ∧ tubeAt busy .b = none) ∧
    (headStateOf busy 2 ≠ snapshotOf busy 2 ∧ ∀ g : HeadNo, g < 2 → headStateOf busy g = snapshotOf busy g) ∧
    (∀ h : HeadNo, headStateOf State.reset h = snapshotOf State.reset h) := by decide +kernel

theorem witness_checks_pass :
    (checkRequest .read (request 0 7 0 7 []) (dequeued [] busy) = .ok (.headStatus 7, .part)) ∧
    (checkRequest .read (request 0 14 0 0 []) (dequeued [] busy) = .ok (.fault, .part)) ∧
    (checkRequest .clear (request 3 7 0 7 []) (dequeued [] busy) = .ok (.headStatus 7, .part)) ∧
    (checkRequest .clear (request 3 8 0 3 []) (dequeued [] busy) = .ok (.tempChannel 3, .part)) ∧
    (checkRequest .clear (request 3 15 0 0 []) (dequeued [] busy) = .ok (.portCounters, .part)) ∧
    (checkRequest .clear (request 3 14 0 0 []) (dequeued [] busy) = .ok (.fault, .part)) ∧
    (checkRequest .clear (request 3 13 0 21 []) (dequeued [] busy) = .ok (.event .requestDropped, .part)) ∧
    (checkRequest .clear (request 3 13 0 4 []) (dequeued [] busy) = .ok (.event .headChange, .part)) ∧
    (checkRequest .read (request 0 7 0 8 []) (dequeued [] busy) = .error .badIndex) ∧
    (checkRequest .read (request 0 12 4 255 []) (dequeued [] busy) = .error .emptySegment) ∧
    (checkRequest .clear (request 3 9 0 0 []) (dequeued [] busy) = .error .readOnly) :=
  ⟨rfl, rfl, rfl, rfl, rfl, rfl, rfl, rfl, rfl, rfl, rfl⟩

theorem witness_WriteAndExchangeStoreTheEntry :
    (∀ x ∈ [request 1 0 0 7 (List.replicate 12 0), request 1 0 1 7 (List.replicate 12 0), request 2 5 0 7 [1, 2, 1, 2, 0, 0]],
      Ready x [] (asking busy x)) ∧ operationOf 1 = some .write ∧ operationOf 2 = some .exchange := by decide +kernel

theorem witness_writes_pass :
    let ok := fun (table : Byte) (i : BitVec 16) (e : EntryName) => ∀ op ∈ [TableOp.write, .exchange],
      (match checkRequest op (request 1 table 0 i []) (dequeued [] busy) with | .ok x => x.1 = e | .error _ => False)
    ok 0 7 (.head 7) ∧ ok 1 63 (.gate 63) ∧ ok 2 15 (.velocity 15) ∧ ok 2 16 .velocityCount ∧ ok 3 0 .mapSetup ∧
    ok 6 7 (.calib 7) ∧ ok 5 7 (.output 7) ∧
    checkRequest .write (request 1 0 1 7 []) (dequeued [] busy) = .error .readOnly ∧
    checkRequest .exchange (request 1 7 0 7 []) (dequeued [] busy) = .error .readOnly := by
  simp only [List.forall_mem_cons, List.not_mem_nil, false_imp_iff, implies_true, and_true]
  exact ⟨⟨rfl, rfl⟩, ⟨rfl, rfl⟩, ⟨rfl, rfl⟩, ⟨rfl, rfl⟩, ⟨rfl, rfl⟩, ⟨rfl, rfl⟩, ⟨rfl, rfl⟩, rfl, rfl⟩

/-- No timer due; and one of each kind due alone, under limits that such a write can store. -/
theorem witness_TimingWriteClamps :
    let x := request 1 4 0 0 [0, 20, 0, 10, 1, 0xF4, 7, 0xD0, 0x13, 0x88]
    let s := measuring 9
    let limits : Timing := { Timing.default with headSilence := 1000, positionSilence := 1000 }
    let under := fun (s : State) (t : Timing) => (asking s x).setAgent { s.agent with timing := t }
    Ready x [] (asking s x) ∧ operationOf x.operation = some .write ∧ operationOf 2 = some .exchange ∧
    tableOf x.table = some .timing ∧ x.index = 0 ∧ Quiet s ∧
    timersDue (under s { Timing.default with settle := 1000 }) = [] ∧
    timersDue (under (silencing 70023000) Timing.default) = [.headSilenceExpiry 2] ∧
    timersDue (under beforeSilence { limits with positionSilence := 10 }) = [.positionSilenceExpiry] ∧
    timersDue (under settleLimit limits) = [.settleLimitExpiry .a] ∧
    timersDue (under (calibrating 95000000 (some run6)) limits) = [.calibrationTimeout] ∧
    Quiet (calibrating 95000000 (some run6)) := by decide +kernel

/-- R46 by hand: a TIMING write that lowers the position silence limit to 10 ms makes the timer expire in its step. -/
theorem test_timing_expiry :
    let x := request 1 4 0 0 [3, 0xE8, 0, 10, 1, 0xF4, 0, 50, 0x13, 0x88]
    let s := beforeSilence.setAgent { beforeSilence.agent with timing := { Timing.default with positionSilence := 1000 } }
    let u := after (exec .write (asking s x))
    positionSilenceDue s = false ∧ u.pose.feed = .silent ∧ countOf u .positionLost = 1 ∧ lastAnswer u = some (.ok, .none) := by
  decide +kernel

theorem witness_EventWriteTakesEffectAtOnce :
    let x := request 1 13 0 2 [2, 1, 0, 0, 0, 0, 0, 0, 0, 0, 0, 0, 0]
    Ready x [] (asking busy x) ∧ operationOf 1 = some .write ∧ operationOf 2 = some .exchange ∧ tableOf x.table = some .event ∧ x.index.toNat = EventKind.seqGap.index.val ∧
    severityOf (byteAt x.data 0) = some .failed ∧ yesNoOf (byteAt x.data 1) = some true ∧ busy.mill.responseQ.length < 2 ∧
    busy.mill.noticeQ.length < 16 ∧ (tableGet busy.events.records EventKind.seqGap.index).flag = true := by decide +kernel

theorem witness_ApplyOutcomes :
    let x := request 4 0 0 0 []
    Ready x [] (asking busy x) ∧ operationOf x.operation = some .apply ∧ tubeLive busy = true ∧
    tubeLive (measuring 9) = false ∧ validate badBank = some { code := .chainInvalid, argument := 6 } ∧
    validate (measuring 9).agent.staged = none ∧ (measuring 9).agent.generation < 4294967295 ∧
    (measuring 9).mill.responseQ.length < 2 ∧ (measuring 9).agent.run = none := by decide +kernel

theorem witness_ValidationReportsTheFirstFailure :
    (∀ h : HeadNo, isYes (tableGet Bank.default.heads h).enabled = false) ∧
    (isYes (tableGet badBank.heads 6).enabled = true ∧ chainOk badBank (tableGet badBank.heads 6) = false ∧
      ∀ g : HeadNo, g < 6 → isYes (tableGet badBank.heads g).enabled = true → chainOk badBank (tableGet badBank.heads g) = true) ∧
    ((∀ h : HeadNo, isYes (tableGet bank.heads h).enabled = true → chainOk bank (tableGet bank.heads h) = true) ∧
      isYes (tableGet bank.heads 2).enabled = true ∧ bank.velocityCount.toNat = 2) ∧
    ((1 : BitVec 16).toNat < 2 ∧ 16 < (17 : BitVec 16).toNat) ∧
    ((bank.velocity.toList[0]?).map VelocityEntry.temperature = some 1100 ∧
      (bank.velocity.toList[1]?).map VelocityEntry.temperature = some 1200 ∧ ¬((1100 : BitVec 16).toNat < (1100 : BitVec 16).toNat)) ∧
    (mapFieldOk { bank.map with sectors := 12 } 1 = false ∧ mapFieldOk { bank.map with presenceCount := 9 } 11 = false ∧
      ∀ j, j < 11 → mapFieldOk { bank.map with presenceCount := 9 } j = true) := by decide +kernel

theorem witness_ModeRequests :
    let x := fun (m : Byte) => request 5 0 0 0 [m]
    (∀ m ∈ [(0 : Byte), 1, 2, 3], Ready (x m) [] (asking busy (x m)) ∧ operationOf (x m).operation = some .mode) ∧
    (modeOf 3 = none ∧ modeOf 1 = some busy.agent.mode) ∧
    (State.reset.agent.mode ≠ .measure ∧ State.reset.agent.active = none) ∧
    (modeOf 2 = some .calibrate ∧ busy.agent.mode ≠ .calibrate ∧ tubeLive busy = true) ∧
    (modeOf 0 = some .standby ∧ (measuring 9).agent.run = none ∧ tubeLive (measuring 9) = false ∧
      (measuring 9).mill.responseQ.length < 2) ∧
    ((calibrating 9 (some run6)).agent.mode = .calibrate ∧ tubeLive (calibrating 9 (some run6)) = false ∧
      (calibrating 9 (some run6)).agent.active.isSome = true) ∧
    (newestSample busy = some f5 ∧ activeCtx busy = some .a ∧ TubeLaw busy ∧ PageLaw busy ∧
      (withTubes busy busy.tubes.a none).traceQueue = []) := by decide +kernel

theorem witness_CalibrateStartsARun :
    let x := fun (h : Byte) => request 6 0 0 0 [h, 0x4E, 0x20, 0x04, 0x7E, 8, 1, 44]
    (∀ h ∈ [(2 : Byte), 3, 7, 8], Ready (x h) [] (asking (calibrating 9 none) (x h))) ∧ operationOf 6 = some .calibrate ∧
    8 ≤ (byteAt (x 8).data 0).toNat ∧ (byteAt (x 7).data 0).toNat = 7 ∧ busy.agent.mode ≠ .calibrate ∧
    (calibrating 9 (some run6)).agent.run = some run6 ∧ (calibrating 9 none).agent.run = none ∧
    headEnabled (calibrating 9 none) 3 = false ∧ headEnabled (calibrating 9 none) 2 = true := by decide +kernel

theorem witness_CalibrationRunEnds :
    let s := calibrating 95000000 (some run6)
    s.agent.run = some run6 ∧ s.agent.timing.calibration * 1000 ≤ (s.headPort.partTime - run6.startTime).toNat ∧
    s.mill.summaryQ.length < 32 ∧ s.mill.noticeQ.length < 16 ∧
    Ready (request 7 0 0 0 []) [] (asking s (request 7 0 0 0 [])) ∧ operationOf 7 = some .abortCal ∧
    (calibrating 9 none).agent.run = none ∧ s.mill.responseQ.length < 2 ∧
    (asking s (request 7 0 0 0 [])).mill.summaryQ.length < 32 := by decide +kernel

/-- Head 2's tied evaluation gives 29,369, within the band of a reference of 25,000; it is the eighth counted reading, the fifth,
one outside the band of 20,000, one without a thickness, and one whose run has ended. -/
theorem witness_CalibrationRunCompletes :
    let ev : Evaluation := { cellEvaluation with tie := .run }
    let x : CalRun := { run9 with reference := 25000, sum := 7 * 29369, min := some 29369, max := some 29369 }
    let y : CalRun := { x with counted := 4, sum := 4 * 29369 }
    let s := fun (r : CalRun) => (reporting (calibrating 9 (some r))).setEvaluator (some ev)
    (∀ r ∈ [x, y, { y with reference := 20000 }], Completing .run ev (s r) ∧ (s r).agent.run = some r ∧ Quiet (s r) ∧
      Reporting 1 (s r) ∧ (outputOf (s r) 2).reading ≠ .everyN ∧ (s r).mill.summaryQ.length < 32) ∧
    (evaluate ev).thickness = some 29369 ∧ (evaluate ev).head = 2 ∧
    (x.reference * 4 ≤ 29369 * 5 ∧ 29369 * 5 ≤ x.reference * 6 ∧ x.counted + 1 = x.traces ∧ y.counted + 1 ≠ y.traces) ∧
    20000 * 6 < 29369 * 5 ∧ (evaluate { ev with trace := { ev.trace with energy := 0 } }).thickness = none ∧
    Completing .runEnded { ev with tie := .runEnded }
      ((calibrating 9 none).setEvaluator (some { ev with tie := .runEnded })) ∧ Quiet (calibrating 9 none) := by decide +kernel

theorem witness_RestartKeepsWhatItNames :
    let x := request 8 0 0 0 []
    Ready x [] (asking busy x) ∧ operationOf x.operation = some .restart ∧ busy.mill.responseQ.length < 2 := by decide +kernel

theorem witness_StatusAndUndefinedRequests :
    (∀ x ∈ [request 9 0 0 0 [], request 10 0 0 0 [], request 3 16 0 0 []], Ready x [] (asking busy x)) ∧
    operationOf 9 = some .status ∧ 9 < (10 : Byte).toNat ∧ (3 : Byte).toNat < 4 ∧ 15 < (16 : Byte).toNat ∧
    PageLaw busy := by decide +kernel

theorem witness_IdleStepsAndCommandsNotDue :
    State.reset.pending = [] ∧ (measuring 9).headPort.link = .up ∧ State.reset.headPort.link = .down ∧
    (measuring 9).mill.link = .up ∧ State.reset.mill.link = .down ∧ headSilenceDue (silencing 70022999) 2 = false ∧
    positionSilenceDue (feeding (measuring 50014079) [] [] .absent 50004080) = false ∧
    settleDue (settleLimit.setHeadPort { settleLimit.headPort with partTime := 62454079 }) .a = false ∧
    ((calibrating 94999999 (some run6)).agent.run = some run6 ∧
      ((calibrating 94999999 (some run6)).headPort.partTime - run6.startTime).toNat < 5000 * 1000) ∧
    ((startMark (measuring 9)).headPort.lastMark = some 9 ∧ (startMark (measuring 9)).headPort.markInFlight = some 9 ∧
      ((1008 : Time) - 9).toNat < 1000 ∧ State.reset.headPort.markInFlight = none) ∧
    ((tableGet State.reset.headPort.channels 1).held = none ∧
      (tableGet (starting (88103000 - 2147483647)).headPort.channels 1).held.map HeldTemperature.arrival =
        some (88103000 - 2147483647) ∧ ((88103000 : Time) - (88103000 - 2147483647)).toNat < 2147483648) ∧
    State.reset.mill.requestQ = [] ∧
    State.reset.agent.run = none ∧ State.reset.evaluator = none ∧ State.reset.traceQueue = [] ∧ State.reset.drain = none ∧
    State.reset.mill.transmitter = none ∧ State.reset.agent.processing = none ∧
    ((asking busy (request 9 0 0 0 [])).mill.requestQ = [request 9 0 0 0 []] ∧ operationOf 9 ≠ some .apply) := by
  decide +kernel

end Sys2Proof.Tests
end

section
/-! The figures of section 0.7 and of R111: times compared modulo 2^32 (R1), the two roundings (R2), and the integer square
root, whose passes keep the number between the square of the digits chosen and the square one digit above them. -/

namespace Sys2Proof.Machine

/-! ### Times (R1) -/

theorem notLater_iff (x y : Time) :
    notLater x y = true ↔ ((y.toNat : Int) - x.toNat) % 4294967296 < 2147483648 := by
  unfold notLater
  rw [decide_eq_true_iff]
  bv_omega

theorem laterThan_iff_not_notLater (x y : Time) : laterThan x y = true ↔ ¬notLater x y = true := by
  simp [laterThan]

/-! ### Rounding (R2) -/

theorem roundHalfUp_eq (n d : Nat) : roundHalfUp n d = (2 * n + d) / (2 * d) := rfl

/-- The multiple of `d` that rounding half up names lies above n - d / 2, and not above n + d / 2. -/
theorem roundHalfUp_mul_bounds (n : Nat) {d : Nat} (hd : 0 < d) :
    2 * (roundHalfUp n d * d) ≤ 2 * n + d ∧ 2 * n < 2 * (roundHalfUp n d * d) + d := by
  have hdiv := Nat.div_add_mod (2 * n + d) (2 * d)
  have hmod : (2 * n + d) % (2 * d) < 2 * d := Nat.mod_lt _ (by omega)
  rw [← roundHalfUp_eq, Nat.mul_assoc, Nat.mul_comm d] at hdiv
  omega

/-- Rounding half away from zero rounds the magnitudes half up; its multiple of `d` takes the sign of `n`. -/
theorem roundHalfAway_mul (n d : Int) :
    roundHalfAway n d * d =
      if n < 0 then -((roundHalfUp n.natAbs d.natAbs * d.natAbs : Nat) : Int)
      else ((roundHalfUp n.natAbs d.natAbs * d.natAbs : Nat) : Int) := by
  unfold roundHalfAway
  rw [Nat.cast_mul, Int.natCast_natAbs]
  rcases lt_or_ge d 0 with hd | hd
  · rw [abs_of_neg hd]
    by_cases hn : n < 0 <;> simp [hn, hd]
  · rw [abs_of_nonneg hd]
    by_cases hn : n < 0 <;> simp [hn, hd.not_gt]

theorem roundHalfAway_nearest (n : Int) {d : Int} (hd : d ≠ 0) :
    2 * (n - roundHalfAway n d * d).natAbs ≤ d.natAbs := by
  obtain ⟨hle, hlt⟩ := roundHalfUp_mul_bounds n.natAbs (Int.natAbs_pos.mpr hd)
  rw [roundHalfAway_mul]
  split <;> omega

theorem roundHalfAway_half (n : Int) {d : Int} (hd : d ≠ 0)
    (half : 2 * (n - roundHalfAway n d * d).natAbs = d.natAbs) : n.natAbs < (roundHalfAway n d * d).natAbs := by
  obtain ⟨hle, hlt⟩ := roundHalfUp_mul_bounds n.natAbs (Int.natAbs_pos.mpr hd)
  rw [roundHalfAway_mul] at half ⊢
  split at half <;> omega

/-! ### The integer square root (R111) -/

/-- `m` is the largest integer whose square does not exceed `n`. -/
def IsRoot (n m : Nat) : Prop := m * m ≤ n ∧ n < (m + 1) * (m + 1)

theorem isqrtFrom_isRoot (n k r : Nat) (low : r * r ≤ n) (high : n < (r + 2 ^ k) * (r + 2 ^ k)) :
    IsRoot n (isqrtFrom n k r) := by
  induction k generalizing r with
  | zero => exact ⟨low, high⟩
  | succ k ih =>
    have twice : r + 2 ^ (k + 1) = r + 2 ^ k + 2 ^ k := by rw [pow_succ]; omega
    unfold isqrtFrom
    split
    next fits => exact ih _ fits (twice ▸ high)
    next exceeds => exact ih _ low (not_le.mp exceeds)

/-- The digits that `isqrt` tries reach above the root. -/
theorem lt_sq_of_isqrt_start (n : Nat) : n < 2 ^ (n.log2 / 2 + 1) * 2 ^ (n.log2 / 2 + 1) := by
  calc n < 2 ^ (n.log2 + 1) := Nat.lt_log2_self
    _ ≤ 2 ^ (n.log2 / 2 + 1 + (n.log2 / 2 + 1)) := Nat.pow_le_pow_right (by omega) (by omega)
    _ = 2 ^ (n.log2 / 2 + 1) * 2 ^ (n.log2 / 2 + 1) := Nat.pow_add ..

theorem isqrt_isRoot (n : Nat) : IsRoot n (isqrt n) :=
  isqrtFrom_isRoot n _ 0 (Nat.zero_le n) (by simpa using lt_sq_of_isqrt_start n)

/-- Settles O17: the comparison by its modular difference, the rounding half away by the bounds of the rounding half up, the
root by the invariant of its passes. -/
theorem roundingAndRootAreAsNamed : Obligations.RoundingAndRootAreAsNamed :=
  ⟨fun x y => ⟨notLater_iff x y, laterThan_iff_not_notLater x y⟩,
    fun n d _ => roundHalfUp_eq n d,
    fun n _ hd => ⟨roundHalfAway_nearest n hd, roundHalfAway_half n hd⟩,
    isqrt_isRoot⟩

end Sys2Proof.Machine
end

section
/-! What the measuring and reporting operations can change. They reach only the blocks behind the evaluator: the tube contexts,
the wall map, the Drain Engine, the Event Unit and the outbound side of the Mill Port, whose class queues stay within their
capacities and whose decimation counters stay below their N. -/

namespace Sys2Proof.Machine

/-! ### The relation -/

/-- R149: the class queues but RESPONSE hold at most their capacities. -/
structure MillPort.OutboundFits (m : MillPort) : Prop where
  notice : m.noticeQ.length ≤ 16
  summary : m.summaryQ.length ≤ 32
  map : m.mapQ.length ≤ 4
  reading : m.readingQ.length ≤ 64
  mirror : m.mirrorQ.length ≤ 8

/-- R134, R152, R153: both N and both decimation counters of every head lie in their ranges. -/
def OutputsLawful (s : State) : Prop := ∀ h : HeadNo, outputLawful (outputOf s h) (decimationOf s h) = true

/-- From `s` to `t` only the blocks behind the evaluator change, lawfully, and no kind of `K` occurs or is cleared. -/
structure Downstream (K : List EventKind) (s t : State) : Prop where
  headPort : t.headPort = s.headPort
  traceQueue : t.traceQueue = s.traceQueue
  evaluator : t.evaluator = s.evaluator
  pose : t.pose = s.pose
  agent : t.agent = s.agent
  link : t.mill.link = s.mill.link
  transmitter : t.mill.transmitter = s.mill.transmitter
  responseQ : t.mill.responseQ = s.mill.responseQ
  requestQ : t.mill.requestQ = s.mill.requestQ
  outbound : s.mill.OutboundFits → t.mill.OutboundFits
  outputs : OutputsLawful s → OutputsLawful t
  counts : ∀ k ∈ K, occurrences t k = occurrences s k

/-- The kinds that only the evaluator and the calibration run raise (R25, R31, R121). -/
def evaluationKinds : List EventKind := [.flaw, .tempFallback, .calDone]

variable {K : List EventKind}

namespace Downstream

theorem refl (s : State) : Downstream K s s :=
  ⟨rfl, rfl, rfl, rfl, rfl, rfl, rfl, rfl, rfl, id, id, fun _ _ => rfl⟩

theorem trans {s t u : State} (a : Downstream K s t) (b : Downstream K t u) : Downstream K s u where
  headPort := b.headPort.trans a.headPort
  traceQueue := b.traceQueue.trans a.traceQueue
  evaluator := b.evaluator.trans a.evaluator
  pose := b.pose.trans a.pose
  agent := b.agent.trans a.agent
  link := b.link.trans a.link
  transmitter := b.transmitter.trans a.transmitter
  responseQ := b.responseQ.trans a.responseQ
  requestQ := b.requestQ.trans a.requestQ
  outbound := b.outbound ∘ a.outbound
  outputs := b.outputs ∘ a.outputs
  counts k hk := (b.counts k hk).trans (a.counts k hk)

/-- What holds with some kinds kept from occurring holds without saying so. -/
theorem forget {s t : State} (a : Downstream K s t) : Downstream [] s t := { a with counts := by simp }

/-- A change of the blocks that no law of queues and outputs reads. -/
theorem of_mill_eq {s t : State} (headPort : t.headPort = s.headPort) (traceQueue : t.traceQueue = s.traceQueue)
    (evaluator : t.evaluator = s.evaluator) (pose : t.pose = s.pose) (agent : t.agent = s.agent) (mill : t.mill = s.mill)
    (counts : ∀ k ∈ K, occurrences t k = occurrences s k) : Downstream K s t where
  headPort := headPort
  traceQueue := traceQueue
  evaluator := evaluator
  pose := pose
  agent := agent
  link := by rw [mill]
  transmitter := by rw [mill]
  responseQ := by rw [mill]
  requestQ := by rw [mill]
  outbound := by rw [mill]; exact id
  outputs hs h := by simpa only [outputOf, decimationOf, agent, mill] using hs h
  counts := counts

theorem setTubes (s : State) (x : TubeTracker) : Downstream K s (s.setTubes x) :=
  of_mill_eq rfl rfl rfl rfl rfl rfl fun _ _ => rfl

theorem setWall (s : State) (x : WallMap) : Downstream K s (s.setWall x) :=
  of_mill_eq rfl rfl rfl rfl rfl rfl fun _ _ => rfl

theorem setDrain (s : State) (x : Option Drain) : Downstream K s (s.setDrain x) :=
  of_mill_eq rfl rfl rfl rfl rfl rfl fun _ _ => rfl

theorem setEvents (s : State) (x : EventUnit) (same : ∀ k ∈ K, occurrences (s.setEvents x) k = occurrences s k) :
    Downstream K s (s.setEvents x) :=
  of_mill_eq rfl rfl rfl rfl rfl rfl same

/-- A change of the outbound side of the Mill Port that leaves the decimation counters. -/
theorem setMill (s : State) (m : MillPort) (link : m.link = s.mill.link) (transmitter : m.transmitter = s.mill.transmitter)
    (responseQ : m.responseQ = s.mill.responseQ) (requestQ : m.requestQ = s.mill.requestQ)
    (decimation : m.decimation = s.mill.decimation) (outbound : s.mill.OutboundFits → m.OutboundFits) :
    Downstream K s (s.setMill m) where
  headPort := rfl
  traceQueue := rfl
  evaluator := rfl
  pose := rfl
  agent := rfl
  link := link
  transmitter := transmitter
  responseQ := responseQ
  requestQ := requestQ
  outbound := outbound
  outputs hs h := by simpa [outputOf, decimationOf, decimation] using hs h
  counts _ _ := rfl

/-- A chain of operations over a list. -/
theorem foldl {α : Type} {f : State → α → State} (step : ∀ s x, Downstream K s (f s x)) (l : List α) (s : State) :
    Downstream K s (l.foldl f s) := by
  induction l generalizing s with
  | nil => exact refl s
  | cons x rest ih => exact (step s x).trans (ih _)

end Downstream

/-! ### Occurrences and offers -/

theorem EventKind.index_injective : Function.Injective EventKind.index := by
  intro x y
  cases x <;> cases y <;> decide

theorem occurrences_countOccurrence (k j : EventKind) (d : Detail) (s : State) :
    occurrences (countOccurrence k d s) j = if j = k then min 65535 (occurrences s k + 1) else occurrences s j := by
  unfold occurrences
  rw [countOccurrence_records]
  split
  next h => subst h; rw [tableGet_tableMod_same]; rfl
  next h => rw [tableGet_tableMod_other _ _ (EventKind.index_injective.ne h)]

theorem countOccurrence_downstream {k : EventKind} (hk : k ∉ K) (d : Detail) (s : State) :
    Downstream K s (countOccurrence k d s) :=
  .of_mill_eq (by simp) (by simp) (by simp) (by simp) (by simp) (by simp) fun j hj => by
    rw [occurrences_countOccurrence, if_neg (by rintro rfl; exact hk hj)]

theorem countDropped_downstream (cl : Fin 6) (s : State) : Downstream K s (countDropped cl s) :=
  .setMill s _ rfl rfl rfl rfl rfl fun fits => ⟨fits.notice, fits.summary, fits.map, fits.reading, fits.mirror⟩

theorem offerNotice_downstream (hn : .noticeLost ∉ K) (n : Notice) (s : State) : Downstream K s (offerNotice n s) := by
  obtain ⟨room, h⟩ | ⟨_, h⟩ := offerNotice_cases n s
  · rw [h]
    refine .setMill s _ rfl rfl rfl rfl rfl fun fits => { fits with notice := ?_ }
    simpa [noticeCap] using room
  · rw [h]
    exact (countDropped_downstream _ s).trans (countOccurrence_downstream hn _ _)

theorem raise_downstream {k : EventKind} (hk : k ∉ K) (hn : .noticeLost ∉ K) (d : Detail) (s : State) :
    Downstream K s (raise k d s) := by
  obtain h | ⟨_, _, _, h⟩ := raise_cases k d s
  · rw [h]; exact countOccurrence_downstream hk d s
  · rw [h]; exact (countOccurrence_downstream hk d s).trans (offerNotice_downstream hn _ _)

theorem noticeLost_notMem : EventKind.noticeLost ∉ evaluationKinds := by decide

theorem offerSummary_downstream (f : SummaryFrame) (s : State) : Downstream evaluationKinds s (offerSummary f s) := by
  obtain ⟨room, h⟩ | ⟨_, h⟩ := offerSummary_cases f s
  · rw [h]
    refine .setMill s _ rfl rfl rfl rfl rfl fun fits => { fits with summary := ?_ }
    simpa [summaryCap] using room
  · rw [h]
    exact (countDropped_downstream _ s).trans (raise_downstream (by decide) noticeLost_notMem _ _)

theorem offerReading_downstream (r : Reading) (s : State) : Downstream K s (offerReading r s) := by
  unfold offerReading
  split
  next h =>
    refine .setMill s _ rfl rfl rfl rfl rfl fun fits => { fits with reading := ?_ }
    simpa [readingCap] using h.2
  next => exact countDropped_downstream _ s

theorem offerMirror_downstream (m : MirrorFrame) (s : State) : Downstream K s (offerMirror m s) := by
  unfold offerMirror
  split
  next h =>
    refine .setMill s _ rfl rfl rfl rfl rfl fun fits => { fits with mirror := ?_ }
    simpa [mirrorCap] using h.2
  next => exact countDropped_downstream _ s

@[simp] theorem outputOf_modDecimation (g h : HeadNo) (f : Decimation → Decimation) (s : State) :
    outputOf (modDecimation h f s) g = outputOf s g := rfl

@[simp] theorem decimationOf_modDecimation_same (h : HeadNo) (f : Decimation → Decimation) (s : State) :
    decimationOf (modDecimation h f s) h = f (decimationOf s h) :=
  tableGet_tableMod_same _ _ _

theorem decimationOf_modDecimation_other {g h : HeadNo} (ne : g ≠ h) (f : Decimation → Decimation) (s : State) :
    decimationOf (modDecimation h f s) g = decimationOf s g :=
  tableGet_tableMod_other _ _ ne

theorem outputLawful_iff (e : OutputEntry) (d : Decimation) :
    outputLawful e d = true ↔ (2 ≤ e.readingN ∧ e.readingN ≤ 255 ∧ 2 ≤ e.mirrorN ∧ e.mirrorN ≤ 255) ∧
      d.reading < e.readingN ∧ d.mirror < e.mirrorN := by
  simp [outputLawful, and_assoc]

theorem modDecimation_downstream (h : HeadNo) (f : Decimation → Decimation) (s : State)
    (lawful : outputLawful (outputOf s h) (decimationOf s h) = true →
      outputLawful (outputOf s h) (f (decimationOf s h)) = true) : Downstream K s (modDecimation h f s) where
  headPort := rfl
  traceQueue := rfl
  evaluator := rfl
  pose := rfl
  agent := rfl
  link := rfl
  transmitter := rfl
  responseQ := rfl
  requestQ := rfl
  outbound fits := ⟨fits.notice, fits.summary, fits.map, fits.reading, fits.mirror⟩
  outputs hs g := by
    by_cases hg : g = h
    · subst hg; simpa using lawful (hs g)
    · simpa [decimationOf_modDecimation_other hg] using hs g
  counts _ _ := rfl

theorem decideReading_downstream (r : Reading) (s : State) : Downstream K s (decideReading r s) := by
  simp only [decideReading]
  split
  next => exact .refl s
  next => exact offerReading_downstream r s
  next =>
    split
    · exact offerReading_downstream r s
    · exact .refl s
  next =>
    split
    · refine (modDecimation_downstream _ _ s fun h => ?_).trans (offerReading_downstream r _)
      rw [outputLawful_iff] at h ⊢
      exact ⟨h.1, by dsimp only; omega, h.2.2⟩
    · refine modDecimation_downstream _ _ s fun h => ?_
      rw [outputLawful_iff] at h ⊢
      exact ⟨h.1, by dsimp only; omega, h.2.2⟩

theorem decideMirror_downstream (m : MirrorFrame) (s : State) : Downstream K s (decideMirror m s) := by
  simp only [decideMirror]
  split
  next => exact .refl s
  next =>
    split
    · exact .refl s
    · exact offerMirror_downstream m s
  next =>
    split
    · exact offerMirror_downstream m s
    · exact .refl s
  next =>
    split
    · refine (modDecimation_downstream _ _ s fun h => ?_).trans (offerMirror_downstream m _)
      rw [outputLawful_iff] at h ⊢
      exact ⟨h.1, h.2.1, by dsimp only; omega⟩
    · refine modDecimation_downstream _ _ s fun h => ?_
      rw [outputLawful_iff] at h ⊢
      exact ⟨h.1, h.2.1, by dsimp only; omega⟩

theorem compareSnapshot_downstream (h : HeadNo) (s : State) : Downstream evaluationKinds s (compareSnapshot h s) := by
  unfold compareSnapshot
  split
  · exact .refl s
  · exact raise_downstream (by decide) noticeLost_notMem _ s

/-! ### Contexts, pages and placements -/

theorem putTube_downstream (c : Ctx) (x : Option Tube) (s : State) : Downstream K s (putTube c x s) := .setTubes s _

theorem modTube_downstream (c : Ctx) (f : Tube → Tube) (s : State) : Downstream K s (modTube c f s) := by
  unfold modTube
  split
  · exact .refl s
  · exact putTube_downstream c _ s

theorem updateCell_downstream (c : Ctx) (page bin sector : Nat) (r : Reading) (s : State) :
    Downstream K s (updateCell c page bin sector r s) := by
  unfold updateCell
  split
  · exact .refl s
  · exact (Downstream.setWall s _).trans (.setTubes _ _)

theorem allocatePage_downstream (c : Ctx) (segment page : Nat) (rest : List Nat) (s : State) :
    Downstream K s (allocatePage c segment page rest s) :=
  (Downstream.setWall s _).trans (modTube_downstream c _ _)

theorem reclaimPage_downstream (c : Ctx) (segment : Nat) (lost : Nat × DirEntry) (s : State) :
    Downstream evaluationKinds s (reclaimPage c segment lost s) := by
  simp only [reclaimPage]
  have moved (f g : Tube → Tube) (x : State → WallMap) :
      Downstream evaluationKinds s (modTube c g ((modTube (otherCtx c) f s).setWall (x (modTube (otherCtx c) f s)))) :=
    (modTube_downstream _ f s).trans ((Downstream.setWall _ _).trans (modTube_downstream c g _))
  split
  · exact (moved _ _ fun u => { u.wall with pool := clearPage u.wall.pool lost.2.page }).trans
      (raise_downstream (by decide) noticeLost_notMem _ _)
  · exact moved _ _ fun u => { u.wall with pool := clearPage u.wall.pool lost.2.page }

theorem placeValid_downstream (c : Ctx) (t : Tube) (bin sector : Nat) (r : Reading) (s : State) :
    Downstream evaluationKinds s (placeValid c t bin sector r s).2 := by
  simp only [placeValid]
  split
  · exact .refl s
  split
  · exact updateCell_downstream c _ bin sector r s
  split
  · exact (allocatePage_downstream c _ _ _ s).trans (updateCell_downstream c _ bin sector r _)
  split
  · exact (reclaimPage_downstream c _ _ s).trans (updateCell_downstream c _ bin sector r _)
  · exact raise_downstream (by decide) noticeLost_notMem _ s

theorem countAndOffer_downstream (c : Ctx) (r : Reading) (p : Placement) (s : State) :
    Downstream K s (countAndOffer c r p s) :=
  (modTube_downstream c _ s).trans (decideReading_downstream _ _)

theorem assignLive_downstream (c : Ctx) (t : Tube) (r : Reading) (p : Pose) (s : State) :
    Downstream evaluationKinds s (assignLive c t r p s) := by
  simp only [assignLive]
  split
  · exact countAndOffer_downstream c _ _ s
  split
  · exact countAndOffer_downstream c _ _ s
  split
  · exact countAndOffer_downstream c _ _ s
  · exact (placeValid_downstream c t _ _ _ s).trans (countAndOffer_downstream c _ _ _)

theorem assignPosed_downstream (r : Reading) (p : Pose) (s : State) : Downstream evaluationKinds s (assignPosed r p s) := by
  unfold assignPosed
  split
  · exact decideReading_downstream _ s
  · exact (raise_downstream (by decide) noticeLost_notMem _ s).trans (decideReading_downstream _ _)
  · split
    · exact .refl s
    · exact assignLive_downstream _ _ r p s

theorem assignUnposed_downstream (r : Reading) (p : Placement) (s : State) : Downstream K s (assignUnposed r p s) := by
  unfold assignUnposed
  split
  · split
    · exact .refl s
    · exact countAndOffer_downstream _ _ p s
  all_goals exact decideReading_downstream _ s

theorem extrapolate_downstream (r : Reading) (s : State) : Downstream evaluationKinds s (extrapolate r s) := by
  unfold extrapolate
  split
  · exact assignUnposed_downstream r _ s
  · split
    · exact assignPosed_downstream _ _ s
    · exact assignUnposed_downstream r _ s

theorem interpolateNewest_downstream (r : Reading) (s : State) : Downstream evaluationKinds s (interpolateNewest r s) := by
  unfold interpolateNewest
  split
  · exact assignUnposed_downstream r _ s
  · exact assignPosed_downstream r _ s

/-! ### The Drain Engine -/

theorem pushMap_downstream (f : MapClassFrame) {s : State} (room : mapRoom s = true) : Downstream K s (pushMap f s) := by
  refine .setMill s _ rfl rfl rfl rfl rfl fun fits => { fits with map := ?_ }
  simpa [mapCap] using (of_decide_eq_true room : s.mill.mapQ.length < mapCap)

theorem queueMapFrame_downstream (d : Drain) (t : Tube) (n : Nat) (e : DirEntry) {s : State} (room : mapRoom s = true) :
    Downstream K s (queueMapFrame d t n e s) :=
  (pushMap_downstream _ room).trans ((Downstream.setWall _ _).trans ((putTube_downstream _ _ _).trans (.setDrain _ _)))

theorem queueMapEnd_downstream (d : Drain) (t : Tube) {s : State} (room : mapRoom s = true) :
    Downstream K s (queueMapEnd d t s) :=
  (pushMap_downstream _ room).trans ((Downstream.setTubes _ _).trans (.setDrain _ _))

theorem takeContext_downstream (s : State) : Downstream K s (takeContext s) := by
  unfold takeContext
  split
  · exact (modTube_downstream _ _ s).trans (.setDrain _ _)
  · exact .refl s

theorem drainOne_downstream (s : State) : Downstream K s (drainOne s) := by
  unfold drainOne
  split
  · exact .refl s
  split
  next room =>
    split
    · exact .refl s
    split
    · exact queueMapFrame_downstream _ _ _ _ room
    · exact queueMapEnd_downstream _ _ room
  next => exact .setDrain s _

theorem drainOn_downstream (n : Nat) (s : State) : Downstream K s (drainOn n s) := by
  induction n generalizing s with
  | zero => exact .refl s
  | succ n ih =>
    unfold drainOn
    split
    · exact (drainOne_downstream s).trans ((takeContext_downstream _).trans (ih _))
    · exact .refl s

theorem runDrain_downstream (s : State) : Downstream K s (runDrain s) := drainOn_downstream _ s

theorem examineDrain_downstream (s : State) : Downstream K s (examineDrain s) :=
  (takeContext_downstream s).trans (runDrain_downstream _)

theorem markWaiting_downstream (s : State) : Downstream K s (markWaiting s) := by
  unfold markWaiting
  split
  · exact .refl s
  · exact .setDrain s _

/-! ### Rings, settling, tube end and truncation -/

theorem closeRing_downstream (c : Ctx) (bin : Nat) (closeTime : Time) (s : State) :
    Downstream evaluationKinds s (closeRing c bin closeTime s) := by
  unfold closeRing
  split
  · exact .refl s
  · exact (offerSummary_downstream _ s).trans (modTube_downstream c _ _)

theorem closeByLead_downstream (c : Ctx) (x : Int) (closeTime : Time) (n : Nat) (s : State) :
    Downstream evaluationKinds s (closeByLead c x closeTime n s) := by
  induction n generalizing s with
  | zero => exact .refl s
  | succ n ih =>
    unfold closeByLead
    split
    · exact .refl s
    split
    · exact (closeRing_downstream c _ closeTime s).trans (ih _)
    · exact .refl s

theorem closeRingsByLead_downstream (f : Sample) (s : State) : Downstream evaluationKinds s (closeRingsByLead f s) := by
  unfold closeRingsByLead
  split
  · exact .refl s
  split
  · exact .refl s
  split
  · exact .refl s
  · exact closeByLead_downstream _ _ _ _ s

theorem closeUpTo_downstream (c : Ctx) (closeTime : Time) (n : Nat) (s : State) :
    Downstream evaluationKinds s (closeUpTo c closeTime n s) := by
  induction n generalizing s with
  | zero => exact .refl s
  | succ n ih =>
    unfold closeUpTo
    split
    · exact .refl s
    split
    · exact (closeRing_downstream c _ closeTime s).trans (ih _)
    · exact .refl s

theorem closeRemaining_downstream (c : Ctx) (s : State) : Downstream evaluationKinds s (closeRemaining c s) := by
  unfold closeRemaining
  split
  · exact .refl s
  split
  · exact closeUpTo_downstream c _ _ s
  · exact .refl s

theorem offerTube_downstream (c : Ctx) (s : State) : Downstream evaluationKinds s (offerTube c s) := by
  unfold offerTube
  split
  · exact .refl s
  split
  · exact .refl s
  · exact offerSummary_downstream _ s

theorem completeSettling_downstream (c : Ctx) (s : State) : Downstream evaluationKinds s (completeSettling c s) :=
  (closeRemaining_downstream c s).trans ((offerTube_downstream c _).trans
    ((modTube_downstream c _ _).trans (examineDrain_downstream _)))

theorem examineSettle_downstream (c : Ctx) (s : State) : Downstream evaluationKinds s (examineSettle c s) := by
  unfold examineSettle
  split
  · exact .refl s
  split
  · split
    · exact completeSettling_downstream c s
    · exact .refl s
  · exact .refl s

theorem examineBoth_downstream (s : State) : Downstream evaluationKinds s (examineBoth s) :=
  .foldl (fun s c => examineSettle_downstream c s) _ s

theorem endTube_downstream (time : Time) (travel : Nat) (reason : CloseReason) (s : State) :
    Downstream K s (endTube time travel reason s) := by
  unfold endTube
  split
  · exact .refl s
  · exact modTube_downstream _ _ s

theorem truncateSummary_downstream (c : Ctx) (s : State) : Downstream evaluationKinds s (truncateSummary c s) := by
  unfold truncateSummary
  split
  · exact (modTube_downstream c _ s).trans (offerTube_downstream c _)
  · exact .refl s

theorem stopDrain_downstream (c : Ctx) (s : State) : Downstream K s (stopDrain c s) := by
  unfold stopDrain
  split
  · exact .refl s
  split
  · exact .setDrain s _
  · exact .refl s

theorem truncate_downstream (c : Ctx) (s : State) : Downstream evaluationKinds s (truncate c s) := by
  unfold truncate
  split
  · exact .refl s
  · exact (truncateSummary_downstream c s).trans ((stopDrain_downstream c _).trans ((Downstream.setWall _ _).trans
      ((putTube_downstream c none _).trans (raise_downstream (by decide) noticeLost_notMem _ _))))

theorem takeTube_downstream (c : Ctx) (b : Bank) (time : Time) (travel : Nat) (s : State) :
    Downstream K s (takeTube c b time travel s) :=
  .setTubes s _

theorem loseHead_downstream (h : HeadNo) (s : State) : Downstream evaluationKinds s (loseHead h s) := by
  unfold loseHead
  split
  · exact .refl s
  split
  · exact .refl s
  · exact (modTube_downstream _ _ s).trans (raise_downstream (by decide) noticeLost_notMem _ _)

theorem allHeadsLost_downstream (s : State) : Downstream evaluationKinds s (allHeadsLost s) := by
  unfold allHeadsLost
  split
  · exact .refl s
  split
  · exact .refl s
  split
  · exact raise_downstream (by decide) noticeLost_notMem _ s
  · exact .refl s

theorem losePosition_downstream (s : State) : Downstream evaluationKinds s (losePosition s) := by
  unfold losePosition
  split
  · split
    · exact .refl s
    · exact (endTube_downstream _ _ _ s).trans (raise_downstream (by decide) noticeLost_notMem _ _)
  · exact .refl s

/-! ### Records written and cleared -/

theorem reraiseHeadChange_downstream (s : State) : Downstream evaluationKinds s (reraiseHeadChange s) := by
  unfold reraiseHeadChange
  split
  · exact .refl s
  · exact compareSnapshot_downstream _ s

theorem clearEvent_downstream (k : EventKind) (s : State) : Downstream [] s (clearEvent k s) := by
  simp only [clearEvent]
  split
  · exact (Downstream.setEvents s _ (by simp)).trans (reraiseHeadChange_downstream _).forget
  · exact .setEvents s _ (by simp)

theorem storeEvent_downstream (k : EventKind) (severity : Severity) (report : Bool) (s : State) :
    Downstream [] s (storeEvent k severity report s) := by
  have stored (x : EventUnit) : Downstream [] s (noteWorst (s.setEvents x)) :=
    (Downstream.setEvents s x (by simp)).trans (.setTubes _ _)
  simp only [storeEvent]
  split
  · exact (stored _).trans (offerNotice_downstream (by simp) _ _)
  · exact stored _

end Sys2Proof.Machine
end

section
/-! What a command can do to the laws of queues, links, tables and the calibration run. The work of every command but the four
that move a RESPONSE leaves the RESPONSE class queue and the request in processing alone, and keeps each of the four laws on its
own. -/

namespace Sys2Proof.Machine

/-! ### The relations -/

/-- Each of the four laws that holds of `s` holds of `t`. -/
structure KeepsLaws (s t : State) : Prop where
  queues : QueueLaw s → QueueLaw t
  links : LinkLaw s → LinkLaw t
  ranges : RangeLaw s → RangeLaw t
  runs : RunLaw s → RunLaw t

/-- The work of a command: it keeps the four laws and neither offers nor holds a RESPONSE (R155). -/
structure Work (s t : State) : Prop extends KeepsLaws s t where
  processing : t.agent.processing = s.agent.processing
  responseQ : t.mill.responseQ = s.mill.responseQ

theorem KeepsLaws.refl (s : State) : KeepsLaws s s := ⟨id, id, id, id⟩

theorem KeepsLaws.trans {s t u : State} (a : KeepsLaws s t) (b : KeepsLaws t u) : KeepsLaws s u :=
  ⟨b.queues ∘ a.queues, b.links ∘ a.links, b.ranges ∘ a.ranges, b.runs ∘ a.runs⟩

theorem Work.refl (s : State) : Work s s := ⟨.refl s, rfl, rfl⟩

theorem Work.trans {s t u : State} (a : Work s t) (b : Work t u) : Work s u :=
  ⟨a.toKeepsLaws.trans b.toKeepsLaws, b.processing.trans a.processing, b.responseQ.trans a.responseQ⟩

/-- A chain of operations over a list. -/
theorem Work.foldl {α : Type} {f : State → α → State} (step : ∀ s x, Work s (f s x)) (l : List α) (s : State) :
    Work s (l.foldl f s) := by
  induction l generalizing s with
  | nil => exact refl s
  | cons x rest ih => exact (step s x).trans (ih _)

/-! ### Each law by the blocks it reads -/

/-- QueueLaw reads nothing but these. -/
theorem queueLaw_of_eq {s t : State} (traceQueue : t.traceQueue = s.traceQueue) (pose : t.pose = s.pose)
    (responseQ : t.mill.responseQ = s.mill.responseQ) (requestQ : t.mill.requestQ = s.mill.requestQ)
    (processing : t.agent.processing = s.agent.processing) (outbound : s.mill.OutboundFits → t.mill.OutboundFits)
    (hs : QueueLaw s) : QueueLaw t := by
  obtain ⟨trace, ring, waiting, response, notice, summary, map, reading, mirror, request, held⟩ := hs
  have fits := outbound ⟨notice, summary, map, reading, mirror⟩
  refine ⟨traceQueue ▸ trace, pose ▸ ring, pose ▸ waiting, responseQ ▸ response, fits.notice, fits.summary, fits.map,
    fits.reading, fits.mirror, requestQ ▸ request, ?_⟩
  rw [processing, responseQ]
  exact held

theorem tieOk_iff (s : State) :
    tieOk s = true ↔ ∀ e, s.evaluator = some e → e.tie = .run → s.agent.run.map CalRun.head = some e.trace.head := by
  unfold tieOk
  split
  next h => simp [h]
  next e h =>
    simp only [h, Option.some.injEq, forall_eq', Bool.or_eq_true, bne_iff_ne, ne_eq, beq_iff_eq]
    tauto

theorem runLaw_of_eq {s t : State} (run : t.agent.run = s.agent.run) (evaluator : t.evaluator = s.evaluator)
    (hs : RunLaw s) : RunLaw t := by
  unfold RunLaw tieOk at *
  rwa [run, evaluator]

/-- What reaches only the blocks behind the evaluator is work of a command. -/
theorem Downstream.work {K : List EventKind} {s t : State} (d : Downstream K s t) : Work s t where
  queues := queueLaw_of_eq d.traceQueue d.pose d.responseQ d.requestQ (by rw [d.agent]) d.outbound
  links := by unfold LinkLaw; rw [d.headPort, d.link, d.transmitter]; exact id
  ranges hs := ⟨by rw [d.agent]; exact hs.1, d.outputs hs.2.1, by rw [d.agent]; exact hs.2.2⟩
  runs := runLaw_of_eq (by rw [d.agent]) d.evaluator
  processing := by rw [d.agent]
  responseQ := d.responseQ

/-- A change of the Head Port that leaves its link and the TIME_MARK in transmission. -/
theorem setHeadPort_work (s : State) (x : HeadPort) (link : x.link = s.headPort.link := by rfl)
    (mark : x.markInFlight = s.headPort.markInFlight := by rfl) : Work s (s.setHeadPort x) where
  queues := id
  links hs := ⟨by simpa [link, mark] using hs.1, hs.2⟩
  ranges := id
  runs := id
  processing := rfl
  responseQ := rfl

theorem modHead_work (h : HeadNo) (f : HeadRecord → HeadRecord) (s : State) : Work s (modHead h f s) :=
  setHeadPort_work s _

theorem modChannel_work (ch : ChannelNo) (f : ChannelRecord → ChannelRecord) (s : State) : Work s (modChannel ch f s) :=
  setHeadPort_work s _

theorem modHeadCounters_work (f : HeadCounters → HeadCounters) (s : State) : Work s (modHeadCounters f s) :=
  setHeadPort_work s _

theorem modMillCounters_work (f : MillCounters → MillCounters) (s : State) : Work s (modMillCounters f s) :=
  (Downstream.setMill (K := []) s { s.mill with counters := f s.mill.counters } rfl rfl rfl rfl rfl
    fun fits => ⟨fits.notice, fits.summary, fits.map, fits.reading, fits.mirror⟩).work

theorem setTraceQueue_work (s : State) (x : List Trace) (fits : s.traceQueue.length ≤ 48 → x.length ≤ 48) :
    Work s (s.setTraceQueue x) where
  queues hs := ⟨fits hs.1, hs.2⟩
  links := id
  ranges := id
  runs := id
  processing := rfl
  responseQ := rfl

theorem modPose_work (f : PoseTracker → PoseTracker) (s : State)
    (ring : s.pose.ring.length ≤ 16 → (f s.pose).ring.length ≤ 16)
    (waiting : s.pose.waiting.length ≤ 32 → (f s.pose).waiting.length ≤ 32) : Work s (modPose f s) where
  queues hs := ⟨hs.1, ring hs.2.1, waiting hs.2.2.1, hs.2.2.2⟩
  links := id
  ranges := id
  runs := id
  processing := rfl
  responseQ := rfl

/-- A change of the Management Agent that leaves the request in processing and the run. -/
theorem setAgent_work (s : State) (x : Agent) (ranges : RangeLaw s → RangeLaw (s.setAgent x))
    (processing : x.processing = s.agent.processing := by rfl) (run : x.run = s.agent.run := by rfl) : Work s (s.setAgent x) where
  queues := queueLaw_of_eq rfl rfl rfl rfl processing id
  links := id
  ranges := ranges
  runs := runLaw_of_eq run rfl
  processing := processing
  responseQ := rfl

/-- A change of the evaluation in flight and of the run that ends in the law of R9 and R114. -/
theorem setRun_work (s : State) (x : Option CalRun) (e : Option Evaluation)
    (runs : RunLaw s → RunLaw ((s.setAgent { s.agent with run := x }).setEvaluator e)) :
    Work s ((s.setAgent { s.agent with run := x }).setEvaluator e) where
  queues := id
  links := id
  ranges := id
  runs := runs
  processing := rfl
  responseQ := rfl

/-! ### The calibration run (R114 to R121) -/

theorem inBand_iff (reference d : Nat) : inBand reference d = true ↔ reference * 4 ≤ d * 5 ∧ d * 5 ≤ reference * 6 := by
  simp [inBand]

/-- The sum of a run's figures stays between the counted number of each extreme. -/
theorem CalRun.figuresOk_count {r : CalRun} {d : Nat} (ok : r.figuresOk = true) (band : inBand r.reference d = true)
    (le : d ≤ 65535) : (r.count d).figuresOk = true := by
  rw [inBand_iff] at band
  unfold CalRun.figuresOk at ok ⊢
  cases hmn : r.min <;> cases hmx : r.max <;> simp only [hmn, hmx, Bool.false_eq_true] at ok
  case none.none =>
    simp only [Bool.and_eq_true, beq_iff_eq] at ok
    simp [CalRun.count, hmn, hmx, ok, band, le]
  case some.some mn mx =>
    simp only [Bool.and_eq_true, bne_iff_ne, ne_eq, decide_eq_true_eq] at ok
    obtain ⟨⟨⟨⟨⟨⟨-, order⟩, range⟩, low⟩, high⟩, sumLow⟩, sumHigh⟩ := ok
    have sumLow' : (r.counted + 1) * Nat.min mn d ≤ r.sum + d := by
      have h₁ : r.counted * Nat.min mn d ≤ r.counted * mn := Nat.mul_le_mul_left _ (Nat.min_le_left mn d)
      have h₂ : Nat.min mn d ≤ d := Nat.min_le_right mn d
      rw [Nat.add_mul]; omega
    have sumHigh' : r.sum + d ≤ (r.counted + 1) * Nat.max mx d := by
      have h₁ : r.counted * mx ≤ r.counted * Nat.max mx d := Nat.mul_le_mul_left _ (Nat.le_max_left mx d)
      have h₂ : d ≤ Nat.max mx d := Nat.le_max_right mx d
      rw [Nat.add_mul]; omega
    have hmin : Nat.min mn d = Min.min mn d := rfl
    have hmax : Nat.max mx d = Max.max mx d := rfl
    simp only [CalRun.count, hmn, hmx, Bool.and_eq_true, bne_iff_ne, ne_eq, decide_eq_true_eq, sumLow', sumHigh', and_true]
    rw [hmin, hmax]
    omega

theorem CalRun.lawful_iff (r : CalRun) :
    r.lawful = true ↔ (1000 ≤ r.reference ∧ r.reference ≤ 65000 ∧ r.temperature ≤ 1600 ∧ 4 ≤ r.traces ∧ r.traces ≤ 64 ∧
      1 ≤ r.tolerance ∧ r.tolerance ≤ 5000) ∧ r.counted < r.traces ∧ r.figuresOk = true ∧ r.notCounted ≤ cap16 := by
  simp [CalRun.lawful, and_assoc]

/-- What a run makes of a reading: it counts one in its band and passes over every other. -/
theorem CalRun.take_cases (r : CalRun) (reading : Reading) :
    (∃ d, reading.thickness = some d ∧ inBand r.reference d = true ∧ r.take reading = r.count d) ∨
    ((∀ d, reading.thickness = some d → inBand r.reference d = false) ∧ r.take reading = r.skip) := by
  unfold CalRun.take
  cases h : reading.thickness with
  | none => simp
  | some d => cases hb : inBand r.reference d <;> simp [hb]

/-- A reading leaves a lawful run lawful, unless it is the one that completes it. -/
theorem CalRun.take_lawful {r : CalRun} {reading : Reading} (le : ∀ d, reading.thickness = some d → d ≤ 65535)
    (lawful : r.lawful = true) (goesOn : ¬((r.take reading).counted ≠ r.counted ∧ (r.take reading).counted = r.traces)) :
    (r.take reading).lawful = true := by
  obtain ⟨fixed, below, figures, skipped⟩ := r.lawful_iff.mp lawful
  rw [CalRun.lawful_iff]
  obtain ⟨d, hd, band, h⟩ | ⟨_, h⟩ := r.take_cases reading
  · rw [h] at goesOn ⊢
    have counted : (r.count d).counted = r.counted + 1 := rfl
    have traces : (r.count d).traces = r.traces := rfl
    exact ⟨fixed, by omega, CalRun.figuresOk_count figures band (le d hd), skipped⟩
  · rw [h]
    exact ⟨fixed, below, figures, satInc_le _ _⟩

@[simp] theorem CalRun.take_traces (r : CalRun) (reading : Reading) : (r.take reading).traces = r.traces := by
  obtain ⟨d, _, _, h⟩ | ⟨_, h⟩ := r.take_cases reading <;> rw [h] <;> rfl

/-- No evaluation is tied to the run in progress once it has ended. -/
theorem Evaluation.orphan_tie (e : Evaluation) : e.orphan.tie ≠ .run := by
  unfold Evaluation.orphan
  cases e.tie <;> simp

theorem runLaw_dropRun (s : State) : RunLaw (dropRun s) := by
  refine ⟨rfl, (tieOk_iff _).mpr fun e he tie => absurd tie ?_⟩
  obtain ⟨x, -, rfl⟩ := Option.map_eq_some_iff.mp he
  exact x.orphan_tie

theorem dropRun_work (s : State) : Work s (dropRun s) := setRun_work s none _ fun _ => runLaw_dropRun s

/-- R118: the factor of an APPLIED run lies in its range. -/
theorem CalRun.verdict_applied {r : CalRun} {k : Nat} (h : r.verdict = (.applied, some k)) :
    factorLow ≤ k ∧ k ≤ factorHigh := by
  simp only [CalRun.verdict] at h
  split at h
  · simp at h
  split at h
  next fits => simp only [Prod.mk.injEq, Option.some.injEq, true_and] at h; exact h ▸ fits
  next => simp at h

theorem setCalib_rangeLaw {s : State} (h : HeadNo) {k : Nat} (fits : factorLow ≤ k ∧ k ≤ factorHigh) (hs : RangeLaw s) :
    RangeLaw (s.setAgent { s.agent with calib := tableSet s.agent.calib h k }) := by
  refine ⟨hs.1, hs.2.1, fun g => ?_⟩
  by_cases hg : g = h
  · subst hg; simpa using fits
  · simpa [tableGet_tableSet_other _ _ hg] using hs.2.2 g

theorem writeFactor_work (r : CalRun) (o : CalOutcome) (k : Option Nat) (s : State)
    (fits : ∀ x, o = .applied → k = some x → factorLow ≤ x ∧ x ≤ factorHigh) : Work s (writeFactor r o k s) := by
  unfold writeFactor
  split
  next x => exact setAgent_work s _ (setCalib_rangeLaw r.head (fits x rfl rfl))
  next => exact .refl s

theorem raise_work (k : EventKind) (d : Detail) (s : State) : Work s (raise k d s) :=
  (raise_downstream (K := []) (by simp) (by simp) d s).work

theorem endRun_work (r : CalRun) (o : CalOutcome) (k : Option Nat) (s : State)
    (fits : ∀ x, o = .applied → k = some x → factorLow ≤ x ∧ x ≤ factorHigh) : Work s (endRun r o k s) :=
  (writeFactor_work r o k s fits).trans ((offerSummary_downstream _ _).work.trans
    ((raise_work _ _ _).trans (dropRun_work _)))

theorem runLaw_endRun (r : CalRun) (o : CalOutcome) (k : Option Nat) (s : State) : RunLaw (endRun r o k s) :=
  runLaw_dropRun _

theorem abortRun_work (s : State) : Work s (abortRun s) := by
  unfold abortRun
  split
  · exact .refl s
  · exact endRun_work _ _ _ s (by simp)

theorem expireRun_work (s : State) : Work s (expireRun s) := by
  unfold expireRun
  split
  · exact .refl s
  split
  · exact endRun_work _ _ _ s (by simp)
  · exact .refl s

/-- A run takes the reading of an evaluation that has left the evaluator. -/
theorem runTakes_work {reading : Reading} (le : ∀ d, reading.thickness = some d → d ≤ 65535) {s : State}
    (idle : s.evaluator = none) : Work s (runTakes reading s) := by
  simp only [runTakes]
  split
  next => exact .refl s
  next r hr =>
    split
    next completes =>
      have ended := endRun_work (r.take reading) (r.take reading).verdict.1 (r.take reading).verdict.2
        (s.setAgent { s.agent with run := some (r.take reading) })
        (fun x ho hk => CalRun.verdict_applied (Prod.ext ho hk))
      have completed : Work s (endRun (r.take reading) (r.take reading).verdict.1 (r.take reading).verdict.2
          (s.setAgent { s.agent with run := some (r.take reading) })) :=
        { queues := fun h => ended.queues h, links := fun h => ended.links h, ranges := fun h => ended.ranges h,
          runs := fun _ => runLaw_endRun _ _ _ _, processing := ended.processing, responseQ := ended.responseQ }
      exact completed.trans (decideReading_downstream (K := []) _ _).work
    next goesOn =>
      have taken : Work s (s.setAgent { s.agent with run := some (r.take reading) }) :=
        { queues := id, links := id, ranges := id, processing := rfl, responseQ := rfl,
          runs := fun hs => by
            have lawful : r.lawful = true := by simpa [hr] using hs.1
            refine ⟨CalRun.take_lawful le lawful (by simpa using goesOn), (tieOk_iff _).mpr fun e he => ?_⟩
            rw [State.setAgent_evaluator, idle] at he
            cases he }
      exact taken.trans (decideReading_downstream (K := []) _ _).work

end Sys2Proof.Machine
end

section
/-! Every command keeps the four laws: the applies, the Pose Tracker, the Head Port, the Mill Port and the requests, and the
obligations on queues, links, tables and the calibration run that follow. -/

namespace Sys2Proof.Machine

/-! ### Applies and tube starts (R64, R131, R132) -/

/-- R131, R132: an update of the Management Agent that leaves the limits, the tables, the run and the request in processing. -/
theorem setAgent_work_of_eq (s : State) (x : Agent) (processing : x.processing = s.agent.processing := by rfl)
    (run : x.run = s.agent.run := by rfl) (timing : x.timing = s.agent.timing := by rfl)
    (output : x.output = s.agent.output := by rfl) (calib : x.calib = s.agent.calib := by rfl) : Work s (s.setAgent x) :=
  setAgent_work s x
    (fun hs => ⟨by simpa [timing] using hs.1, fun h => by simpa [outputOf, decimationOf, output] using hs.2.1 h,
      by simpa [calib] using hs.2.2⟩) processing run

theorem abortDisabledRun_work (s : State) : Work s (abortDisabledRun s) := by
  unfold abortDisabledRun
  split
  · exact .refl s
  split
  · exact .refl s
  · exact abortRun_work s

theorem reportRebank_work (old : State) (h : HeadNo) (s : State) : Work s (reportRebank old h s) := by
  unfold reportRebank
  split
  · exact .refl s
  · exact (compareSnapshot_downstream h s).work

theorem carryOutApply_work (s : State) : Work s (carryOutApply s) := by
  have copied : Work s (copyBank s) := setAgent_work_of_eq s _
  have rebanked := Work.foldl (fun x h => modHead_work h (rebank (headEnabled s h) (headEnabled x h)) x) allHeads (copyBank s)
  have reported := fun x => Work.foldl (fun x h => reportRebank_work s h x) allHeads x
  exact copied.trans (rebanked.trans ((reported _).trans (abortDisabledRun_work _)))

theorem pendingApply_work (s : State) : Work s (pendingApply s) := by
  unfold pendingApply
  split
  · split
    · exact carryOutApply_work s
    · exact (setAgent_work_of_eq s _).trans (raise_work _ _ _)
  · exact .refl s

theorem startTube_work (time : Time) (travel : Nat) (s : State) : Work s (startTube time travel s) := by
  simp only [startTube]
  split
  · exact pendingApply_work s
  · exact (pendingApply_work s).trans ((truncate_downstream _ _).work.trans
      (takeTube_downstream (K := []) _ _ time travel _).work)

/-! ### The Pose Tracker (chapter 3) -/

/-- A change of the Pose Tracker that lengthens neither its ring nor its pending list. -/
theorem modPose_work_of_le (f : PoseTracker → PoseTracker) (s : State) (ring : (f s.pose).ring.length ≤ s.pose.ring.length)
    (waiting : (f s.pose).waiting.length ≤ s.pose.waiting.length) : Work s (modPose f s) :=
  modPose_work f s (fun h => ring.trans h) fun h => waiting.trans h

/-- R51: the pending list holds at most 32: the oldest leaves before another joins a full one. -/
theorem joinPending_work (r : Reading) (s : State) : Work s (joinPending r s) := by
  unfold joinPending
  split
  next oldest rest hw =>
    split
    next full =>
      have left : Work s (modPose (fun p => { p with waiting := rest }) s) :=
        modPose_work_of_le _ s le_rfl (by simp [hw])
      have resolved := extrapolate_downstream oldest (modPose (fun p => { p with waiting := rest }) s)
      have waiting : (extrapolate oldest (modPose (fun p => { p with waiting := rest }) s)).pose.waiting = rest := by
        rw [resolved.pose]; rfl
      have joined := (left.trans resolved.work)
      exact
        { joined with
          queues := fun hs => by
            obtain ⟨trace, ring, -, others⟩ := joined.queues hs
            have room : s.pose.waiting.length ≤ 32 := hs.2.2.1
            refine ⟨trace, ring, ?_, others⟩
            rw [hw, List.length_cons] at room
            change ((extrapolate oldest (modPose (fun p => { p with waiting := rest }) s)).pose.waiting ++ [r]).length ≤ 32
            rw [waiting]
            simpa using room }
    next room =>
      exact modPose_work _ s id fun _ => by simp only [List.length_append, List.length_singleton]; omega
  next hw => exact modPose_work _ s id fun _ => by simp

theorem resolveReading_work (r : Reading) (s : State) : Work s (resolveReading r s) := by
  have unposed (p : Placement) : Work s (assignUnposed r p s) := (assignUnposed_downstream (K := []) r p s).work
  unfold resolveReading
  split
  · split
    · exact unposed _
    split
    · split
      · exact (assignPosed_downstream r _ s).work
      · exact unposed _
    split
    · exact joinPending_work r s
    · exact (extrapolate_downstream r s).work
  · exact unposed _

theorem resolvePending_work (due : Reading → Bool) {how : Reading → State → State}
    (resolves : ∀ r s, Downstream evaluationKinds s (how r s)) (s : State) : Work s (resolvePending due how s) :=
  (modPose_work_of_le _ s le_rfl (List.length_filter_le _ _)).trans
    (Downstream.foldl (fun s r => resolves r s) _ _).work

theorem changePresence_work (s : State) : Work s (changePresence s) := by
  have changed : Work s (modPose (fun p => { p with presence := p.presence.flip, runLength := 0, runFirst := none }) s) :=
    modPose_work_of_le _ s le_rfl le_rfl
  simp only [changePresence]
  split
  · exact changed
  · split
    · exact changed.trans (startTube_work _ _ _)
    · exact changed
  · exact changed.trans (endTube_downstream (K := []) _ _ _ _).work

theorem advanceRun_lists (p : PoseTracker) (f : Sample) :
    (p.advanceRun f).ring = p.ring ∧ (p.advanceRun f).waiting = p.waiting := by
  unfold PoseTracker.advanceRun
  split
  · exact ⟨rfl, rfl⟩
  split <;> exact ⟨rfl, rfl⟩

theorem advancePresence_work (f : Sample) (s : State) : Work s (advancePresence f s) := by
  obtain ⟨ring, waiting⟩ := advanceRun_lists s.pose f
  have advanced : Work s (modPose (fun p => p.advanceRun f) s) :=
    modPose_work_of_le _ s (by rw [ring]) (by rw [waiting])
  simp only [advancePresence]
  split
  · exact advanced.trans (changePresence_work _)
  · exact advanced

/-- R42, R44: the ring keeps the newest 16 samples. -/
theorem joinRing_length_le (ring : List Sample) (f : Sample) : (joinRing ring f).length ≤ 16 := by
  simp only [joinRing, List.length_drop, List.length_append, List.length_singleton]
  omega

theorem takePosition_work (f : PositionFrame) (s : State) : Work s (takePosition f s) := by
  unfold takePosition
  split
  · exact (modPose_work_of_le _ s le_rfl le_rfl).trans (raise_work _ _ _)
  split
  · exact (modPose_work_of_le _ s le_rfl le_rfl).trans (raise_work _ _ _)
  · have accepted : Work s (acceptSample (sampleOf f) s) := modPose_work _ s (fun _ => joinRing_length_le _ _) id
    exact accepted.trans ((advancePresence_work _ _).trans ((resolvePending_work _ interpolateNewest_downstream _).trans
      ((closeRingsByLead_downstream _ _).work.trans ((examineBoth_downstream _).work.trans
        (examineDrain_downstream (K := []) _).work))))

theorem expirePosition_work (s : State) : Work s (expirePosition s) := by
  simp only [expirePosition]
  split
  · exact (modPose_work_of_le _ s le_rfl le_rfl).trans ((resolvePending_work _ extrapolate_downstream _).trans
      ((losePosition_downstream _).work.trans (modPose_work_of_le _ _ le_rfl le_rfl)))
  · exact .refl s

theorem expireSettle_work (c : Ctx) (s : State) : Work s (expireSettle c s) := by
  unfold expireSettle
  split
  · exact .refl s
  split
  · exact .refl s
  split
  · exact (raise_work _ _ s).trans ((resolvePending_work _ extrapolate_downstream _).trans
      (completeSettling_downstream c _).work)
  · exact .refl s

/-! ### The evaluator (R5, R24, R36) -/

theorem thicknessOf_le (velocity : Nat) (delta : Int) (interval : Interval) : (thicknessOf velocity delta interval).1 ≤ 65535 := by
  simp only [thicknessOf]
  split
  · exact le_rfl
  · omega

/-- R36: an evaluated thickness is held at 65,535. -/
theorem evaluate_thickness_le {ev : Evaluation} {d : Nat} (h : (evaluate ev).thickness = some d) : d ≤ 65535 := by
  simp only [evaluate] at h
  split at h
  · simp [baseReading] at h
  split at h
  · simp [withWalk, baseReading] at h
  · simp [withWalk, baseReading] at h
  · simp only [judgeEchoes] at h
    split at h
    · simp [withWalk, baseReading] at h
    · simp only [Option.some.injEq] at h
      exact h ▸ thicknessOf_le _ _ _

theorem startEvaluation_work {t : Trace} {rest : List Trace} {s : State} (queue : s.traceQueue = t :: rest) :
    Work s (startEvaluation t rest s) := by
  have taken : Work s (s.setTraceQueue rest) := setTraceQueue_work s rest (by rw [queue, List.length_cons]; omega)
  simp only [startEvaluation]
  split
  · exact taken.trans (modHead_work _ _ _)
  next b hb =>
    split
    · exact
        { taken with
          runs := fun hs => ⟨hs.1, (tieOk_iff _).mpr fun e he tie => by
            simp only [State.setEvaluator_evaluator, Option.some.injEq] at he
            subst he
            simp only [startedEvaluation, tiedRun] at tie
            cases hr : s.agent.run with
            | none => simp [hr] at tie
            | some r =>
              by_cases hh : r.head = t.head
              · simp [hr, hh, startedEvaluation]
              · simp [hr, hh] at tie⟩ }
    · exact taken.trans (modHead_work _ _ _)

/-- An evaluation that leaves the evaluator leaves none that is tied to a run. -/
theorem setEvaluator_none_work (s : State) : Work s (s.setEvaluator none) where
  queues := id
  links := id
  ranges := id
  runs hs := ⟨hs.1, rfl⟩
  processing := rfl
  responseQ := rfl

theorem completeEvaluation_work (ev : Evaluation) (s : State) : Work s (completeEvaluation ev s) := by
  have handed : Work s (handOn ev.tie (evaluate ev) (s.setEvaluator none)) := by
    refine (setEvaluator_none_work s).trans ?_
    unfold handOn
    split
    · exact resolveReading_work _ _
    · exact runTakes_work (fun _ => evaluate_thickness_le) rfl
    · exact .refl _
  have flawed (x : State) : Work x (raiseFlaw (evaluate ev) x) := by
    unfold raiseFlaw
    split
    · exact raise_work _ _ x
    · exact .refl x
  have fellBack (x : State) : Work x (raiseTempFallback (evaluate ev) ev.slice.channel x) := by
    unfold raiseTempFallback
    split
    · exact raise_work _ _ x
    · exact .refl x
  exact handed.trans ((flawed _).trans ((fellBack _).trans (decideMirror_downstream (K := []) _ _).work))

/-! ### The Head Port's frames and timers (chapter 9) -/

theorem rejectHeadFrame_work (r : HeadReject) (s : State) : Work s (rejectHeadFrame r s) := by
  cases r with
  | traceFields h =>
    exact (modHeadCounters_work _ s).trans ((modHead_work _ _ _).trans (raise_work _ _ _))
  | frameCheck => exact (modHeadCounters_work _ s).trans (raise_work _ _ _)
  | kind src => exact (modHeadCounters_work _ s).trans (raise_work _ _ _)
  | source src => exact (modHeadCounters_work _ s).trans (raise_work _ _ _)
  | length src => exact (modHeadCounters_work _ s).trans (raise_work _ _ _)

theorem admitTrace_work (t : Trace) (s : State) : Work s (admitTrace t s) := by
  unfold admitTrace
  split
  · split
    next room =>
      refine setTraceQueue_work s _ fun _ => ?_
      simpa [traceCap] using room
    next => exact (modHead_work _ _ s).trans (raise_work _ _ _)
  · exact modHead_work _ _ s

theorem acceptTrace_work (t : Trace) (g : Nat) (s : State) : Work s (acceptTrace t g s) := by
  have counted : Work s (countGap t.head g s) := by
    unfold countGap
    split
    · exact .refl s
    · exact (modHead_work _ _ s).trans (raise_work _ _ _)
  simp only [acceptTrace]
  refine (counted.trans (modHead_work t.head (HeadRecord.accept s.now t) _)).trans
    (Work.trans ?_ (examineBoth_downstream _).work)
  split
  · exact admitTrace_work t _
  · exact (compareSnapshot_downstream _ _).work.trans (admitTrace_work t _)

theorem checkSequence_work (t : Trace) (s : State) : Work s (checkSequence t s) := by
  simp only [checkSequence]
  have judged : Work s (if sequenceGap (tableGet s.headPort.heads t.head) t.sequence < 32768
      then acceptTrace t (sequenceGap (tableGet s.headPort.heads t.head) t.sequence) s
      else raise .duplicate (.headSequence t.head t.sequence)
        (modHead t.head (fun r => { r with duplicates := satInc cap32 r.duplicates }) s)) := by
    split
    · exact acceptTrace_work t _ s
    · exact (modHead_work _ _ s).trans (raise_work _ _ _)
  split
  · exact modHead_work _ _ s
  · exact acceptTrace_work t 0 s
  · exact judged
  · exact judged

theorem expireHead_work (h : HeadNo) (s : State) : Work s (expireHead h s) := by
  unfold expireHead
  split
  · exact (modHead_work h _ s).trans ((loseHead_downstream h _).work.trans
      ((allHeadsLost_downstream _).work.trans (compareSnapshot_downstream h _).work))
  · exact .refl s

/-! ### The Mill Port (chapter 10) -/

/-- R155: a held RESPONSE joins its queue exactly when there is room, so that none is held beside room. -/
theorem releaseHeld_keepsLaws (s : State) : KeepsLaws s (releaseHeld s) := by
  unfold releaseHeld
  split
  · exact .refl s
  split
  next room =>
    exact
      { queues := fun hs => by
          obtain ⟨trace, ring, waiting, -, notice, summary, map, reading, mirror, request, -⟩ := hs
          refine ⟨trace, ring, waiting, ?_, notice, summary, map, reading, mirror, request, by simp⟩
          simpa [responseCap] using room
        links := id, ranges := id, runs := id }
  next => exact .refl s

/-- What a RESPONSE that has left its queue leaves behind: room, and perhaps a held RESPONSE that takes it. -/
theorem queueLaw_releaseHeld {s : State} {f : Response} {rest : List Response} (queue : s.mill.responseQ = f :: rest)
    (m : MillPort) (hm : m = { s.mill with responseQ := rest, transmitter := some (.response f) }) (hs : QueueLaw s) :
    QueueLaw (releaseHeld (s.setMill m)) := by
  obtain ⟨trace, ring, waiting, response, notice, summary, map, reading, mirror, request, held⟩ := hs
  rw [queue, List.length_cons] at response
  subst hm
  unfold releaseHeld
  split
  next none =>
    have none' : s.agent.processing = .none := none
    exact ⟨trace, ring, waiting, by simp only [State.setMill_mill]; omega, notice, summary, map, reading, mirror, request,
      by simp [none']⟩
  next p _ =>
    have room : rest.length < responseCap := by simp only [responseCap]; omega
    simp only [State.setMill_mill, room, if_true]
    exact ⟨trace, ring, waiting, by simpa using response, notice, summary, map, reading, mirror, request, by simp⟩

/-- The other laws do not read what a transmission start moves, but for the transmitter on an UP link. -/
theorem KeepsLaws.of_transmit {s : State} (m : MillPort) (up : m.link = .up) (decimation : m.decimation = s.mill.decimation)
    (queues : QueueLaw s → QueueLaw (s.setMill m)) : KeepsLaws s (s.setMill m) where
  queues := queues
  links hs := ⟨hs.1, fun down => by simp [up] at down⟩
  ranges hs := ⟨hs.1, fun h => by simpa [outputOf, decimationOf, decimation] using hs.2.1 h, hs.2.2⟩
  runs := id

/-- R150: a transmission start takes a frame off its class queue; the queue's room lets a held RESPONSE or the Drain Engine's
next frames join. -/
theorem startTransmission_keepsLaws (s : State) : KeepsLaws s (startTransmission s) := by
  unfold startTransmission
  split
  case isFalse => exact .refl s
  case isTrue ready =>
    obtain ⟨up, -⟩ := ready
    split
    next queue =>
      have moved := queueLaw_releaseHeld queue _ rfl
      exact
        { queues := moved
          links := fun hs => (releaseHeld_keepsLaws _).links ⟨hs.1, fun down => by simp [transmit, up] at down⟩
          ranges := fun hs => (releaseHeld_keepsLaws _).ranges hs
          runs := fun hs => (releaseHeld_keepsLaws _).runs hs }
    next queue =>
      refine .of_transmit (transmit _ _) up rfl fun hs => ?_
      obtain ⟨trace, ring, waiting, response, notice, others⟩ := hs
      rw [queue, List.length_cons] at notice
      exact ⟨trace, ring, waiting, response, by simp only [State.setMill_mill, transmit]; omega, others⟩
    next queue =>
      refine .of_transmit (transmit _ _) up rfl fun hs => ?_
      obtain ⟨trace, ring, waiting, response, notice, summary, others⟩ := hs
      rw [queue, List.length_cons] at summary
      exact ⟨trace, ring, waiting, response, notice, by simp only [State.setMill_mill, transmit]; omega, others⟩
    next f rest _ _ _ queue =>
      refine KeepsLaws.trans (.of_transmit (transmit (.map f) { s.mill with mapQ := rest }) up rfl fun hs => ?_)
        (runDrain_downstream (K := []) _).work.toKeepsLaws
      obtain ⟨trace, ring, waiting, response, notice, summary, map, others⟩ := hs
      rw [queue, List.length_cons] at map
      exact ⟨trace, ring, waiting, response, notice, summary, by simp only [State.setMill_mill, transmit]; omega, others⟩
    next queue =>
      refine .of_transmit (transmit _ _) up rfl fun hs => ?_
      obtain ⟨trace, ring, waiting, response, notice, summary, map, reading, others⟩ := hs
      rw [queue, List.length_cons] at reading
      exact ⟨trace, ring, waiting, response, notice, summary, map, by simp only [State.setMill_mill, transmit]; omega, others⟩
    next queue =>
      refine .of_transmit (transmit _ _) up rfl fun hs => ?_
      obtain ⟨trace, ring, waiting, response, notice, summary, map, reading, mirror, others⟩ := hs
      rw [queue, List.length_cons] at mirror
      exact ⟨trace, ring, waiting, response, notice, summary, map, reading,
        by simp only [State.setMill_mill, transmit]; omega, others⟩
    next => exact .refl s

theorem rejectMillFrame_work (r : MillReject) (s : State) : Work s (rejectMillFrame r s) := by
  cases r <;> exact (modMillCounters_work _ s).trans (raise_work _ _ _)

/-- A change of the request queue alone. -/
theorem setRequestQ_work (s : State) (q : List Request) (fits : s.mill.requestQ.length ≤ 4 → q.length ≤ 4) :
    Work s (s.setMill { s.mill with requestQ := q }) where
  queues hs := by
    obtain ⟨trace, ring, waiting, response, notice, summary, map, reading, mirror, request, held⟩ := hs
    exact ⟨trace, ring, waiting, response, notice, summary, map, reading, mirror, fits request, held⟩
  links := id
  ranges := id
  runs := id
  processing := rfl
  responseQ := rfl

theorem queueRequest_work (r : Request) (s : State) : Work s (queueRequest r s) := by
  unfold queueRequest
  split
  next room =>
    refine setRequestQ_work s _ fun _ => ?_
    simpa [requestCap] using room
  next => exact (modMillCounters_work _ s).trans (raise_work _ _ _)

end Sys2Proof.Machine
end

section
/-! Every command keeps the four laws: the requests, the dispatch, and the statements on queues, links, tables and the
calibration run. -/

namespace Sys2Proof.Machine

/-! ### A request and its RESPONSE (R155) -/

/-- A RESPONSE offered with no request in processing joins its queue, or is held beside a full one. -/
theorem respond_keepsLaws {s : State} (free : s.agent.processing = none) (r : Request) (a : Response) :
    KeepsLaws s (respond r a s) := by
  obtain ⟨room, h⟩ | ⟨full, h⟩ := respond_cases r a s <;> rw [h]
  · exact
      { queues := fun hs => by
          obtain ⟨trace, ring, waiting, -, notice, summary, map, reading, mirror, request, -⟩ := hs
          refine ⟨trace, ring, waiting, ?_, notice, summary, map, reading, mirror, request, by simp [free]⟩
          simpa [responseCap] using room
        links := id, ranges := id, runs := id }
  · exact
      { queues := fun hs => by
          obtain ⟨trace, ring, waiting, response, notice, summary, map, reading, mirror, request, -⟩ := hs
          exact ⟨trace, ring, waiting, response, notice, summary, map, reading, mirror, request,
            fun _ => le_antisymm response full⟩
        links := id, ranges := id, runs := id }

/-- R155: taking the oldest request keeps the laws when its work does. -/
theorem takeOldest_keepsLaws (want : Request → Bool) {work : Request → State → Answer}
    (works : ∀ r s, Work s (work r s).state) (s : State) : KeepsLaws s (takeOldest want work s) := by
  obtain h | ⟨r, rest, free, queue, -, h⟩ := takeOldest_cases want work s <;> rw [h]
  · exact .refl s
  · have done : Work s (work r (s.setMill { s.mill with requestQ := rest })).state :=
      (setRequestQ_work s rest (by rw [queue, List.length_cons]; omega)).trans (works r _)
    exact done.toKeepsLaws.trans (respond_keepsLaws (done.processing.trans free) _ _)

/-! ### READ, WRITE, EXCHANGE and CLEAR -/

theorem afterRead_work (e : EntryName) (s : State) : Work s (afterRead e s) := by
  unfold afterRead
  split
  · exact (Downstream.setEvents (K := []) s _ (by simp)).work
  all_goals exact .refl s

theorem readWork_work (r : Request) (s : State) : Work s (readWork r s).state := by
  unfold readWork
  split
  · exact .refl s
  · exact afterRead_work _ s

theorem fireDueTimers_work (s : State) : Work s (fireDueTimers s) :=
  (Work.foldl (fun x h => expireHead_work h x) allHeads s).trans ((expirePosition_work _).trans
    ((Work.foldl (fun x c => expireSettle_work c x) _ _).trans ((expireRun_work _).trans (examineBoth_downstream _).work)))

/-- R133: a clamped limit is clamped again to itself. -/
theorem clampTiming_lawful (t : Timing) : (clampTiming t).lawful = true := by
  have again {lo hi : Nat} (n : Nat) (h : lo ≤ hi) : clamp lo hi (clamp lo hi n) = clamp lo hi n :=
    clamp_of_mem (clamp_mem n h).1 (clamp_mem n h).2
  simp [Timing.lawful, clampTiming, again]

theorem storeTiming_work (t : Timing) (s : State) : Work s (storeTiming (clampTiming t) s) := by
  have stored : Work s (s.setAgent { s.agent with timing := clampTiming t }) :=
    setAgent_work s _ fun hs => ⟨clampTiming_lawful t, hs.2⟩
  exact stored.trans (fireDueTimers_work _)

/-- R134: a stored OUTPUT entry has both N in range, and its head's counters start again at 0. -/
theorem storeOutput_work (h : HeadNo) (d : List Byte) (s : State) : Work s (storeOutput h (storedOutput d).1 s) where
  queues := queueLaw_of_eq rfl rfl rfl rfl rfl fun fits => ⟨fits.notice, fits.summary, fits.map, fits.reading, fits.mirror⟩
  links := id
  runs := runLaw_of_eq rfl rfl
  processing := rfl
  responseQ := rfl
  ranges hs := by
    refine ⟨hs.1, fun g => ?_, hs.2.2⟩
    by_cases hg : g = h
    · subst hg
      have n (x : Nat) : 2 ≤ clamp 2 255 x ∧ clamp 2 255 x ≤ 255 := clamp_mem x (by decide)
      rw [outputLawful_iff]
      simp only [storeOutput, outputOf_modDecimation, decimationOf_modDecimation_same]
      simp only [outputOf, State.setAgent_agent, tableGet_tableSet_same, storedOutput, Decimation.zero]
      have hr := n (byteAt d 1).toNat
      have hm := n (byteAt d 3).toNat
      omega
    · have kept := hs.2.1 g
      rw [storeOutput, decimationOf_modDecimation_other hg]
      simpa [outputOf, decimationOf, tableGet_tableSet_other _ _ hg] using kept

theorem stage_work (f : Bank → Bank) (s : State) : Work s (stage f s) := setAgent_work_of_eq s _

theorem storeEntry_work (e : EntryName) (d : List Byte) (s : State) : Work s (storeEntry e d s).1 := by
  unfold storeEntry
  cases e <;> dsimp only
  case timing => exact storeTiming_work _ s
  case output h => exact storeOutput_work h d s
  case calib h => exact setAgent_work s _ (setCalib_rangeLaw h (clamp_mem _ (by decide)))
  case event k => exact (storeEvent_downstream k _ _ s).work
  case headStatus | tempChannel | pose | context | directory | mapPage | fault | portCounters => exact .refl s
  case head | gate | velocity | velocityCount | mapSetup => exact stage_work _ s

theorem writeWork_work (r : Request) (s : State) : Work s (writeWork r s).state := by
  unfold writeWork
  split
  · exact .refl s
  · exact storeEntry_work _ _ s

theorem exchangeWork_work (r : Request) (s : State) : Work s (exchangeWork r s).state := by
  unfold exchangeWork
  split
  · exact .refl s
  · exact storeEntry_work _ _ s

theorem clearPorts_work (s : State) : Work s (clearPorts s) := (modHeadCounters_work _ s).trans (modMillCounters_work _ _)

theorem clearEntry_work (e : EntryName) (s : State) : Work s (clearEntry e s) := by
  cases e with
  | headStatus h => exact modHead_work h _ s
  | tempChannel ch => exact modChannel_work ch _ s
  | event k => exact (clearEvent_downstream k s).work
  | fault => exact (Downstream.setEvents (K := []) s _ (by simp)).work
  | portCounters => exact clearPorts_work s
  | head | gate | velocity | velocityCount | mapSetup | timing | output | calib | pose | context | directory | mapPage =>
    exact .refl s

theorem clearWork_work (r : Request) (s : State) : Work s (clearWork r s).state := by
  unfold clearWork
  split
  · exact .refl s
  · exact clearEntry_work _ s

/-! ### APPLY, MODE, CALIBRATE, ABORT_CAL and RESTART -/

theorem applyWork_work (r : Request) (s : State) : Work s (applyWork r s).state := by
  unfold applyWork
  split
  · exact setAgent_work_of_eq s _
  split
  · exact setAgent_work_of_eq s _
  split
  · exact .refl s
  · exact (carryOutApply_work s).trans (examineBoth_downstream _).work

theorem leaveCalibrate_work (s : State) : Work s (leaveCalibrate s) := by
  unfold leaveCalibrate
  split
  · exact abortRun_work s
  · exact .refl s

theorem leaveMeasure_work (m : Mode) (s : State) : Work s (leaveMeasure m s) := by
  unfold leaveMeasure
  split
  · exact (endTube_downstream (K := []) _ _ _ s).work
  · exact .refl s

theorem changeMode_work (m : Mode) (s : State) : Work s (changeMode m s) :=
  (leaveCalibrate_work s).trans ((leaveMeasure_work m _).trans
    ((setAgent_work_of_eq _ _).trans (examineBoth_downstream _).work))

theorem modeWork_work (r : Request) (s : State) : Work s (modeWork r s).state := by
  unfold modeWork
  split
  · exact .refl s
  split
  · exact .refl s
  split
  · exact .refl s
  split
  · exact .refl s
  · exact changeMode_work _ s

/-- R115: a run starts with its fields in range and nothing counted. -/
theorem newRun_lawful (now : Time) (h : HeadNo) (d : List Byte) : (newRun now (calFieldsOf h d)).lawful = true := by
  have reference := clamp_mem (lo := 1000) (hi := 65000) (wordAt d 1).toNat (by decide)
  have temperature := clamp_mem (lo := 0) (hi := 1600) (wordAt d 3).toNat (by decide)
  have traces := clamp_mem (lo := 4) (hi := 64) (byteAt d 5).toNat (by decide)
  have tolerance := clamp_mem (lo := 1) (hi := 5000) (wordAt d 6).toNat (by decide)
  rw [CalRun.lawful_iff]
  simp only [newRun, calFieldsOf, CalRun.figuresOk, cap16]
  exact ⟨by omega, by omega, rfl, by omega⟩

theorem calibrateWork_work (r : Request) (s : State) : Work s (calibrateWork r s).state := by
  unfold calibrateWork
  split
  · exact .refl s
  split
  · exact .refl s
  split
  · exact .refl s
  split
  · exact .refl s
  next idle _ =>
    exact
      { queues := id, links := id, ranges := id, processing := rfl, responseQ := rfl,
        runs := fun hs => by
          have none : s.agent.run = .none := by simpa using idle
          refine ⟨newRun_lawful _ _ _, (tieOk_iff _).mpr fun e he tie => ?_⟩
          have tied := (tieOk_iff s).mp hs.2 e he tie
          simp [none] at tied }

theorem restartEvaluation_work (s : State) : Work s (restartEvaluation s) where
  queues hs := ⟨Nat.zero_le _, hs.2⟩
  links := id
  ranges := id
  runs _ := ⟨rfl, rfl⟩
  processing := rfl
  responseQ := rfl

theorem restartTubes_work (s : State) : Work s (restartTubes s) :=
  (modPose_work (fun _ => PoseTracker.reset) s (fun _ => Nat.zero_le _) fun _ => Nat.zero_le _).trans
    (((Downstream.setTubes (K := []) _ _).trans (.setDrain _ _)).trans (.setWall _ _)).work

theorem restartPorts_work (s : State) : Work s (restartPorts s) where
  queues hs := by
    obtain ⟨trace, ring, waiting, response, -, -, -, -, -, request, held⟩ := hs
    exact ⟨trace, ring, waiting, response, Nat.zero_le _, Nat.zero_le _, Nat.zero_le _, Nat.zero_le _, Nat.zero_le _,
      request, held⟩
  links := id
  runs := id
  processing := rfl
  responseQ := rfl
  ranges hs := by
    refine ⟨hs.1, fun h => ?_, hs.2.2⟩
    obtain ⟨range, -⟩ := (outputLawful_iff _ _).mp (hs.2.1 h)
    have zero : decimationOf (restartPorts s) h = Decimation.zero := by
      simp [decimationOf, restartPorts, tableGet]
    rw [outputLawful_iff, zero]
    have same : outputOf (restartPorts s) h = outputOf s h := rfl
    rw [same]
    simp only [Decimation.zero]
    omega

theorem restart_work (s : State) : Work s (restart s) :=
  (restartEvaluation_work s).trans ((restartTubes_work _).trans ((restartPorts_work _).trans
    ((setHeadPort_work _ _).trans ((Downstream.setEvents (K := []) _ _ (by simp)).work.trans
      (setAgent_work_of_eq _ _)))))

/-! ### The links (R136, R145, R147, R151) -/

/-- R136, R145: a TIME_MARK starts only on a link that is UP. -/
theorem startMark_keepsLaws {s : State} (up : s.headPort.link = .up) : KeepsLaws s (startMark s) where
  queues := id
  links hs := ⟨fun down => by simp [startMark, up] at down, hs.2⟩
  ranges := id
  runs := id

theorem execHeadLinkUp_keepsLaws {s t : State} (h : execHeadLinkUp s = .next t) : KeepsLaws s t := by
  unfold execHeadLinkUp at h
  split at h <;> cases h
  · exact .refl s
  · have started := startMark_keepsLaws (s := s.setHeadPort { s.headPort with link := .up }) rfl
    exact { queues := id, ranges := id, runs := id, links := fun hs => started.links ⟨by simp, hs.2⟩ }

theorem execHeadLinkDown_keepsLaws {cut : Bool} {s t : State} (h : execHeadLinkDown cut s = .next t) : KeepsLaws s t := by
  unfold execHeadLinkDown at h
  split at h <;> cases h
  · exact .refl s
  · exact { queues := id, links := fun hs => ⟨fun _ => rfl, hs.2⟩, ranges := id, runs := id }

theorem markDue_link {s : State} (due : markDue s = true) : s.headPort.link = .up := by
  simp only [markDue, Bool.and_eq_true, beq_iff_eq] at due
  exact due.1.1

theorem execTimeMark_keepsLaws {s t : State} (h : execTimeMark s = .next t) : KeepsLaws s t := by
  unfold execTimeMark at h
  split at h
  next due => cases h; exact startMark_keepsLaws (markDue_link due)
  next => cases h; exact .refl s

theorem execTimeMarkSent_keepsLaws {s t : State} (h : execTimeMarkSent s = .next t) : KeepsLaws s t := by
  unfold execTimeMarkSent at h
  split at h <;> cases h
  · exact .refl s
  · exact { queues := id, links := fun hs => ⟨fun _ => rfl, hs.2⟩, ranges := id, runs := id }

theorem execMillLinkUp_keepsLaws {s t : State} (h : execMillLinkUp s = .next t) : KeepsLaws s t := by
  unfold execMillLinkUp at h
  split at h <;> cases h
  · exact .refl s
  · have started := startTransmission_keepsLaws (s.setMill { s.mill with link := .up })
    exact
      { queues := started.queues, ranges := started.ranges, runs := started.runs,
        links := fun hs => started.links ⟨hs.1, by simp⟩ }

theorem execMillLinkDown_keepsLaws {cut : Bool} {s t : State} (h : execMillLinkDown cut s = .next t) : KeepsLaws s t := by
  unfold execMillLinkDown at h
  split at h <;> cases h
  · exact .refl s
  · exact { queues := id, links := fun hs => ⟨hs.1, fun _ => rfl⟩, ranges := id, runs := id }

theorem execTransmissionCompletion_keepsLaws {s t : State} (h : execTransmissionCompletion s = .next t) : KeepsLaws s t := by
  unfold execTransmissionCompletion at h
  split at h <;> cases h
  · exact .refl s
  · exact { queues := id, links := fun hs => ⟨hs.1, fun _ => rfl⟩, ranges := id, runs := id }

/-! ### The commands that only do work -/

/-- An outcome that is a work of the state it starts from. -/
theorem keepsLaws_of_work {s t u : State} (w : Work s u) (h : Host.Outcome.next u = (.next t : Host.Outcome State Fault Refusal)) :
    KeepsLaws s t := by
  cases h; exact w.toKeepsLaws

/-- Work done under a condition, the state unchanged without it. -/
theorem keepsLaws_of_ite {c : Prop} [Decidable c] {s t u : State} (w : Work s u)
    (h : (if c then .next u else .next s) = (.next t : Host.Outcome State Fault Refusal)) : KeepsLaws s t := by
  split at h
  · exact keepsLaws_of_work w h
  · exact keepsLaws_of_work (.refl s) h

theorem execTraceFrame_keepsLaws {x : Trace} {s t : State} (h : execTraceFrame x s = .next t) : KeepsLaws s t := by
  have counted : Work s (countHeadFrame s) := modHeadCounters_work _ s
  unfold execTraceFrame at h
  split at h
  · split at h
    · exact keepsLaws_of_work (counted.trans ((modHead_work _ _ _).trans (checkSequence_work x _))) h
    · exact keepsLaws_of_work (counted.trans (rejectHeadFrame_work _ _)) h
  · exact keepsLaws_of_work (.refl s) h

theorem execRequestFrame_keepsLaws {r : Request} {s t : State} (h : execRequestFrame r s = .next t) : KeepsLaws s t := by
  have counted : Work s (countMillFrame s) := modMillCounters_work _ s
  unfold execRequestFrame at h
  split at h
  · split at h
    · exact keepsLaws_of_work (counted.trans (queueRequest_work r _)) h
    · exact keepsLaws_of_work (counted.trans (rejectMillFrame_work _ _)) h
  · exact keepsLaws_of_work (.refl s) h

theorem execEvaluationStart_keepsLaws {s t : State} (h : execEvaluationStart s = .next t) : KeepsLaws s t := by
  unfold execEvaluationStart at h
  split at h
  next queue => exact keepsLaws_of_work ((startEvaluation_work queue).trans (examineBoth_downstream _).work) h
  next => exact keepsLaws_of_work (.refl s) h

theorem execEvaluationCompletion_keepsLaws {s t : State} (h : execEvaluationCompletion s = .next t) : KeepsLaws s t := by
  unfold execEvaluationCompletion at h
  split at h
  · exact keepsLaws_of_work (.refl s) h
  · exact keepsLaws_of_work ((completeEvaluation_work _ s).trans (examineBoth_downstream _).work) h

theorem execMapFrameQueued_keepsLaws {s t : State} (h : execMapFrameQueued s = .next t) : KeepsLaws s t := by
  unfold execMapFrameQueued at h
  split at h
  · exact keepsLaws_of_work (.refl s) h
  split at h
  · exact keepsLaws_of_work (.refl s) h
  split at h
  · split at h
    next room =>
      exact keepsLaws_of_work
        ((queueMapFrame_downstream (K := []) _ _ _ _ room).trans (markWaiting_downstream _)).work h
    next => exact keepsLaws_of_work (.refl s) h
  · exact keepsLaws_of_work (.refl s) h

theorem execMapEndQueued_keepsLaws {s t : State} (h : execMapEndQueued s = .next t) : KeepsLaws s t := by
  unfold execMapEndQueued at h
  split at h
  · exact keepsLaws_of_work (.refl s) h
  split at h
  · exact keepsLaws_of_work (.refl s) h
  split at h
  · exact keepsLaws_of_work (.refl s) h
  split at h
  next room =>
    exact keepsLaws_of_work ((queueMapEnd_downstream (K := []) _ _ room).trans (examineDrain_downstream _)).work h
  next => exact keepsLaws_of_work (.refl s) h

/-- R144: power-on reset starts from empty queues, IDLE links, the tables' defaults and no run. -/
theorem execPowerOnReset_keepsLaws {s t : State} (h : execPowerOnReset s = .next t) : KeepsLaws s t := by
  cases h
  exact
    { queues := fun _ => (by decide : QueueLaw State.reset), links := fun _ => (by decide : LinkLaw State.reset),
      ranges := fun _ => (by decide : RangeLaw State.reset), runs := fun _ => ⟨rfl, rfl⟩ }

theorem exec_keepsLaws {i : Instr} {s t : State} (h : exec i s = .next t) : KeepsLaws s t := by
  have asked {want : Request → Bool} {work : Request → State → Answer} (works : ∀ r s, Work s (work r s).state)
      (h : Host.Outcome.next (takeOldest want work s) = (.next t : Host.Outcome State Fault Refusal)) : KeepsLaws s t := by
    cases h; exact takeOldest_keepsLaws want works s
  cases i with
  | powerOnReset => exact execPowerOnReset_keepsLaws h
  | headLinkUp => exact execHeadLinkUp_keepsLaws h
  | headLinkDown cut => exact execHeadLinkDown_keepsLaws h
  | traceFrame x => exact execTraceFrame_keepsLaws h
  | positionFrame f => exact keepsLaws_of_ite ((modHeadCounters_work _ s).trans (takePosition_work f _)) h
  | temperatureFrame f => exact keepsLaws_of_ite ((modHeadCounters_work _ s).trans (modChannel_work _ _ _)) h
  | headFrameRejected r => exact keepsLaws_of_ite ((modHeadCounters_work _ s).trans (rejectHeadFrame_work r _)) h
  | timeMark => exact execTimeMark_keepsLaws h
  | timeMarkSent => exact execTimeMarkSent_keepsLaws h
  | headSilenceExpiry x => exact keepsLaws_of_ite ((expireHead_work x s).trans (examineBoth_downstream _).work) h
  | tempRecordExpiry ch => exact keepsLaws_of_work (modChannel_work ch _ s) h
  | evaluationStart => exact execEvaluationStart_keepsLaws h
  | evaluationCompletion => exact execEvaluationCompletion_keepsLaws h
  | positionSilenceExpiry => exact keepsLaws_of_ite ((expirePosition_work s).trans (examineBoth_downstream _).work) h
  | settleLimitExpiry c => exact keepsLaws_of_ite ((expireSettle_work c s).trans (examineBoth_downstream _).work) h
  | settleCompletion => exact keepsLaws_of_work (examineBoth_downstream s).work h
  | calibrationTimeout => exact keepsLaws_of_work (expireRun_work s) h
  | drainBegin => exact keepsLaws_of_work (examineDrain_downstream (K := []) s).work h
  | mapFrameQueued => exact execMapFrameQueued_keepsLaws h
  | mapEndQueued => exact execMapEndQueued_keepsLaws h
  | millLinkUp => exact execMillLinkUp_keepsLaws h
  | millLinkDown cut => exact execMillLinkDown_keepsLaws h
  | requestFrame r => exact execRequestFrame_keepsLaws h
  | millFrameRejected r => exact keepsLaws_of_ite ((modMillCounters_work _ s).trans (rejectMillFrame_work r _)) h
  | transmissionStart => cases h; exact startTransmission_keepsLaws s
  | transmissionCompletion => exact execTransmissionCompletion_keepsLaws h
  | responseHeldRelease => cases h; exact releaseHeld_keepsLaws s
  | read => exact asked readWork_work h
  | write => exact asked writeWork_work h
  | exchange => exact asked exchangeWork_work h
  | clear => exact asked clearWork_work h
  | apply => exact asked applyWork_work h
  | mode => exact asked modeWork_work h
  | calibrate => exact asked calibrateWork_work h
  | abortCal => exact asked (fun _ s => abortRun_work s) h
  | restart => exact asked (fun _ s => restart_work s) h
  | status => exact asked (fun _ s => .refl s) h
  | undefinedOperation => exact asked (fun _ s => .refl s) h

theorem step_keepsLaws {s t : State} (h : step s = .next t) : KeepsLaws s t := by
  unfold step at h
  split at h
  · exact keepsLaws_of_work (setHeadPort_work s _) h
  · have kept := exec_keepsLaws h
    exact ⟨kept.queues, kept.links, kept.ranges, kept.runs⟩

/-- Settles O5: what a step can do keeps both laws, command by command. -/
theorem queuesAndLinksStayLawful : Obligations.QueuesAndLinksStayLawful :=
  ⟨fun _ _ hs h => (step_keepsLaws h).queues hs, fun _ _ hs h => (step_keepsLaws h).links hs⟩

/-- Settles O10: what a step can do keeps both laws, command by command; a run stays lawful by the figures that each counted
reading adds. -/
theorem tablesAndRunStayInRange : Obligations.TablesAndRunStayInRange :=
  ⟨fun _ _ hs h => (step_keepsLaws h).ranges hs, fun _ _ hs h => (step_keepsLaws h).runs hs⟩

end Sys2Proof.Machine
end

section
/-! The evaluation of a trace (chapters 1 and 2): the envelope, the chain walk, the gate search with its crossing and its peak,
and what the evaluated reading carries by its outcome. -/

namespace Sys2Proof.Machine

/-! ### The envelope (R13) -/

/-- R10, R13: the magnitude of a sample, two's complement in the lower 12 bits of its field. -/
theorem sampleValue_natAbs (f : BitVec 16) :
    (sampleValue f).natAbs = if f.toNat % 4096 < 2048 then f.toNat % 4096 else 4096 - f.toNat % 4096 := by
  simp only [sampleValue, BitVec.toInt_eq_toNat_cond, BitVec.toNat_setWidth]
  have bound : f.toNat % 2 ^ 12 < 4096 := Nat.mod_lt _ (by decide)
  split <;> split <;> omega

theorem envelope_getElem? {fields : List (BitVec 16)} {i : Nat} {f : BitVec 16} (h : fields[i]? = some f) :
    (envelope fields)[i]? =
      some (if f.toNat % 4096 < 2048 then f.toNat % 4096 else 4096 - f.toNat % 4096) := by
  simp only [envelope, List.getElem?_map, h, Option.map_some, sampleValue_natAbs]

/-! ### The chain walk (R14, R18, R19) -/

theorem isYes_iff (code : Byte) : isYes code = true ↔ code.toNat = 1 := by simp [isYes]

theorem walkChain_disabled (env : List Nat) (w : Walk) {g : GateEntry} (rest : List GateEntry) (h : g.enabled.toNat ≠ 1) :
    walkChain env w (g :: rest) = walkChain env w rest := by
  have no : isYes g.enabled = false := by simpa [isYes] using h
  simp [walkChain, no]

theorem walkChain_enabled (env : List Nat) (w : Walk) {g : GateEntry} (rest : List GateEntry) (h : g.enabled.toNat = 1) :
    walkChain env w (g :: rest) = walkChain env (w.record g (gateResult env w g)) rest := by
  have yes : isYes g.enabled = true := (isYes_iff _).mpr h
  simp [walkChain, yes]

/-- R17: EDGE once a recorded gate's peak lay at an edge. -/
def Walk.edgeWith (w : Walk) (r : GateResult) : Bool :=
  w.edge || (match r with | .found e => e.edge | .notFound | .notEvaluated => false)

section
variable {g : GateEntry} (w : Walk) (r : GateResult)

theorem Walk.record_echo1 (h : g.kind.toNat = 0) : w.record g r = { w with echo1 := r, edge := w.edgeWith r } := by
  cases r <;> simp [Walk.record, gateKindOf, h, Walk.edgeWith, GateResult.echo?]

theorem Walk.record_echo2 (h : g.kind.toNat = 1) : w.record g r = { w with echo2 := r, edge := w.edgeWith r } := by
  cases r <;> simp [Walk.record, gateKindOf, h, Walk.edgeWith, GateResult.echo?]

theorem Walk.record_echo3 (h : g.kind.toNat = 2) : w.record g r = { w with echo3 := r, edge := w.edgeWith r } := by
  cases r <;> simp [Walk.record, gateKindOf, h, Walk.edgeWith, GateResult.echo?]

theorem Walk.record_flaw (h : g.kind.toNat = 3) :
    w.record g r = { w with flaw := w.flaw || r.echo?.isSome, edge := w.edgeWith r } := by
  cases r <;> simp [Walk.record, gateKindOf, h, Walk.edgeWith, GateResult.echo?]

end

theorem GateResult.echo?_eq_none {r : GateResult} (h : ∀ e, r ≠ .found e) : r.echo? = none := by
  cases r with
  | found e => exact absurd rfl (h e)
  | notFound | notEvaluated => rfl

/-! ### The gate search (R15 to R17) -/

theorem gateSpan_none {start : Int} {width n : Nat} (h : (n : Int) - 1 < start ∨ start + width - 1 < 0) :
    gateSpan start width n = none := by
  unfold gateSpan
  exact if_pos h

theorem gateSpan_some {start : Int} {width n lo hi : Nat} (first : start ≤ (n : Int) - 1) (stop : 0 ≤ start + width - 1)
    (hlo : (lo : Int) = max start 0) (hhi : (hi : Int) = min (start + width - 1) ((n : Int) - 1)) :
    gateSpan start width n = some (lo, hi) := by
  unfold gateSpan
  rw [if_neg (by omega)]
  simp only [Option.some.injEq, Prod.mk.injEq]
  omega

/-- R16: the crossing is the lowest index of the span that reaches the threshold. -/
theorem crossing_some {env : List Nat} {threshold lo hi c : Nat} (h : crossing env threshold lo hi = some c) :
    lo ≤ c ∧ c ≤ hi ∧ threshold ≤ env.getD c 0 ∧ ∀ i, lo ≤ i → i < c → env.getD i 0 < threshold := by
  unfold crossing at h
  obtain ⟨reaches, before, after, span, below⟩ := List.find?_eq_some_iff_append.mp h
  have mem : c ∈ List.range' lo (hi + 1 - lo) := by rw [span]; simp
  rw [List.mem_range'_1] at mem
  refine ⟨mem.1, by omega, by simpa using reaches, fun i hi' hc => ?_⟩
  have listed : i ∈ before := by
    have sorted : (List.range' lo (hi + 1 - lo)).Pairwise (· < ·) := List.pairwise_lt_range'
    have mem_i : i ∈ List.range' lo (hi + 1 - lo) := by rw [List.mem_range'_1]; omega
    rw [span] at sorted mem_i
    rw [List.mem_append, List.mem_cons] at mem_i
    rcases mem_i with listed | rfl | later
    · exact listed
    · omega
    · have after_c := (List.pairwise_cons.mp (List.pairwise_append.mp sorted).2.1).1 i later
      omega
  simpa using below i listed

theorem crossing_none {env : List Nat} {threshold lo hi : Nat} (h : crossing env threshold lo hi = none) :
    ∀ i, lo ≤ i → i ≤ hi → env.getD i 0 < threshold := by
  intro i hlo hhi
  unfold crossing at h
  simpa using List.find?_eq_none.mp h i (by rw [List.mem_range'_1]; omega)

/-- `p` is the lowest index of the largest value among `c` to `last`. -/
structure IsPeak (env : List Nat) (c last p : Nat) : Prop where
  above : c ≤ p
  within : p ≤ last
  largest : ∀ i, c ≤ i → i ≤ last → env.getD i 0 ≤ env.getD p 0
  lowest : ∀ i, c ≤ i → i < p → env.getD i 0 < env.getD p 0

/-- R16: a pass of the peak search goes one index on. -/
theorem peakFrom_isPeak {env : List Nat} {c i best : Nat} (k : Nat) (h : IsPeak env c i best) :
    IsPeak env c (i + k) (peakFrom env k i best) := by
  induction k generalizing i best with
  | zero => exact h
  | succ k ih =>
    rw [show i + (k + 1) = i + 1 + k by omega, peakFrom]
    refine ih ?_
    obtain ⟨above, within, largest, lowest⟩ := h
    split
    next passes =>
      refine ⟨by omega, le_rfl, fun j hj hj' => ?_, fun j hj hj' => ?_⟩
      · rcases Nat.lt_or_ge i j with hi | hi
        · exact (show j = i + 1 by omega) ▸ le_rfl
        · exact (largest j hj hi).trans passes.le
      · exact (largest j hj (by omega)).trans_lt passes
    next holds =>
      refine ⟨above, by omega, fun j hj hj' => ?_, lowest⟩
      rcases Nat.lt_or_ge i j with hi | hi
      · exact (show j = i + 1 by omega) ▸ not_lt.mp holds
      · exact largest j hj hi

theorem peakSample_isPeak (env : List Nat) {c hi : Nat} (h : c ≤ hi) :
    IsPeak env c (min (c + 15) hi) (peakSample env c hi) := by
  have start : IsPeak env c c c :=
    ⟨le_rfl, le_rfl, fun i hi hi' => (show i = c by omega) ▸ le_rfl, fun i hi hi' => by omega⟩
  have found := peakFrom_isPeak (min (c + 15) hi - c) start
  rwa [show c + (min (c + 15) hi - c) = min (c + 15) hi by omega] at found

section
variable {env : List Nat} {g : GateEntry} {start : Int} {lo hi : Nat}

/-- R16: a gate whose clipped span has no crossing is not found. -/
theorem searchGate_notFound (span : gateSpan start g.width.toNat env.length = some (lo, hi))
    (none : crossing env g.threshold.toNat lo hi = .none) : searchGate env g start = .notFound := by
  simp only [searchGate, span, none]

/-- R16: a gate with a crossing in its clipped span is found, at the peak searched from there. -/
theorem searchGate_found (span : gateSpan start g.width.toNat env.length = some (lo, hi)) {c : Nat}
    (crossed : crossing env g.threshold.toNat lo hi = some c) :
    searchGate env g start = .found (echoAt env c (peakSample env c hi)) := by
  simp only [searchGate, span, crossed]

end

theorem echoAt_at_edge {env : List Nat} {c p : Nat} (h : p = 0 ∨ p = env.length - 1) :
    (echoAt env c p).edge = true ∧ (echoAt env c p).position = 256 * (p : Int) := by
  have edge : (p == 0 || p == env.length - 1) = true := by simpa using h
  simp only [echoAt, edge, if_true, add_zero, and_self]

theorem echoAt_inside {env : List Nat} {c p : Nat} (first : p ≠ 0) (last : p ≠ env.length - 1) :
    (echoAt env c p).edge = false ∧ (echoAt env c p).position = 256 * (p : Int) + interpolation env p := by
  have edge : (p == 0 || p == env.length - 1) = false := by simp [first, last]
  simp [echoAt, edge]

theorem gateKindOf_of_three_le {code : Byte} (h : 3 ≤ code.toNat) :
    gateKindOf code = some .flaw ∨ gateKindOf code = none := by
  unfold gateKindOf
  split
  · omega
  · omega
  · omega
  · exact .inl rfl
  · exact .inr rfl

/-- R15: a FOLLOW gate's anchor is the found echo of the kind its code names. -/
theorem anchor_eq (w : Walk) (code : Byte) :
    w.anchor code = ([w.echo1, w.echo2, w.echo3][code.toNat]?).bind GateResult.echo? := by
  unfold Walk.anchor
  obtain h | h | h | h : code.toNat = 0 ∨ code.toNat = 1 ∨ code.toNat = 2 ∨ 3 ≤ code.toNat := by omega
  · simp [gateKindOf, h]
  · simp [gateKindOf, h]
  · simp [gateKindOf, h]
  · rw [List.getElem?_eq_none (by simpa using h)]
    obtain kind | kind := gateKindOf_of_three_le h <;> rw [kind] <;> rfl

theorem gateResult_absolute (env : List Nat) (w : Walk) {g : GateEntry} (h : g.placement.toNat = 0) :
    gateResult env w g = searchGate env g g.offset.toInt := if_pos h

theorem gateResult_follow {env : List Nat} {w : Walk} {g : GateEntry} {a : Echo} (h : g.placement.toNat = 1)
    (anchor : ([w.echo1, w.echo2, w.echo3][g.anchor.toNat]?).bind GateResult.echo? = some a) :
    gateResult env w g = searchGate env g ((a.peak : Int) + g.offset.toInt) := by
  rw [← anchor_eq] at anchor
  simp [gateResult, h, anchor]

theorem gateResult_unanchored {env : List Nat} {w : Walk} {g : GateEntry} (h : g.placement.toNat = 1)
    (anchor : ([w.echo1, w.echo2, w.echo3][g.anchor.toNat]?).bind GateResult.echo? = none) :
    gateResult env w g = .notEvaluated := by
  rw [← anchor_eq] at anchor
  simp [gateResult, h, anchor]

/-- R14: the walk over an enabled descriptor, by its kind code. -/
theorem walkChain_by_kind (env : List Nat) (w : Walk) {g : GateEntry} (rest : List GateEntry) (on : g.enabled.toNat = 1) :
    let r := gateResult env w g
    let goesOn := fun (x : Walk) => walkChain env w (g :: rest) = walkChain env x rest
    (g.kind.toNat = 0 → goesOn { w with echo1 := r, edge := w.edgeWith r }) ∧
    (g.kind.toNat = 1 → goesOn { w with echo2 := r, edge := w.edgeWith r }) ∧
    (g.kind.toNat = 2 → goesOn { w with echo3 := r, edge := w.edgeWith r }) ∧
    (g.kind.toNat = 3 →
      (∀ e, r = .found e → goesOn { w with flaw := true, edge := w.edgeWith r }) ∧
      ((∀ e, r ≠ .found e) → goesOn { w with edge := w.edgeWith r })) := by
  intro r goesOn
  have recorded : goesOn (w.record g r) := walkChain_enabled env w rest on
  refine ⟨fun h => ?_, fun h => ?_, fun h => ?_, fun h => ⟨fun e found => ?_, fun missed => ?_⟩⟩
  · exact w.record_echo1 r h ▸ recorded
  · exact w.record_echo2 r h ▸ recorded
  · exact w.record_echo3 r h ▸ recorded
  · have flaw : (w.flaw || r.echo?.isSome) = true := by simp [found, GateResult.echo?]
    exact flaw ▸ w.record_flaw r h ▸ recorded
  · have flaw : (w.flaw || r.echo?.isSome) = w.flaw := by simp [GateResult.echo?_eq_none missed]
    rw [w.record_flaw r h, flaw] at recorded
    exact recorded

/-- Settles O18: the walk by what recording a result does, the search by the crossing that `find?` gives and the invariant of
the peak's passes. -/
theorem gateSearchFindsThePeak : Obligations.GateSearchFindsThePeak := by
  refine ⟨fun fields => ⟨List.length_map _, fun i f h => envelope_getElem? h⟩,
    ⟨rfl, fun env w => ⟨rfl, fun g rest => ⟨walkChain_disabled env w rest, walkChain_by_kind env w rest⟩⟩⟩,
    fun env g nonempty => ⟨fun start => ⟨fun outside => ?_, fun lo hi first stop hlo hhi => ?_⟩, fun w => ⟨?_, ?_, ?_⟩⟩⟩
  · rw [searchGate, gateSpan_none outside]
  · have span := gateSpan_some first stop hlo hhi
    cases hc : crossing env g.threshold.toNat lo hi with
    | none =>
      rw [searchGate_notFound span hc]
      exact crossing_none hc
    | some c =>
      obtain ⟨low, high, reaches, below⟩ := crossing_some hc
      have peak := peakSample_isPeak env high
      rw [searchGate_found span hc]
      exact ⟨rfl, echoAt_at_edge, echoAt_inside, c, rfl, low, high, reaches, below, peak.above, peak.within, peak.largest,
        peak.lowest⟩
  · exact gateResult_absolute env w
  · intro e follow anchor
    exact gateResult_follow follow (by rw [anchor]; rfl)
  · intro follow anchor
    refine gateResult_unanchored follow ?_
    cases h : [w.echo1, w.echo2, w.echo3][g.anchor.toNat]? with
    | none => rfl
    | some r => exact GateResult.echo?_eq_none fun e he => anchor e (by rw [h, he])

/-! ### The evaluated reading (R12, R18 to R24, R34 to R38) -/

section
variable (ev : Evaluation)

/-- R14: the walk of an evaluation. -/
def Evaluation.walk : Walk := walkChain (envelope ev.trace.samples) Walk.start ev.slice.chain

/-- R20, R21: the time of flight of an evaluation's first two echoes, and whether its pair fell back. -/
def Evaluation.flight (e1 e2 : Echo) : Int × Bool := timeOfFlight ev.slice.entry.pairMode e1 e2 ev.walk.echo3.echo?

/-- R12: below min_energy the evaluation ends with the reading of its trace. -/
theorem evaluate_lowEnergy (h : ev.trace.energy.toNat < ev.slice.entry.minEnergy.toNat) : evaluate ev = baseReading ev :=
  if_pos h

/-- R18: from min_energy on the walk's first two echoes decide. -/
theorem evaluate_admitted (h : ev.slice.entry.minEnergy.toNat ≤ ev.trace.energy.toNat) :
    evaluate ev =
      match ev.walk.echo1.echo?, ev.walk.echo2.echo? with
      | none, _ => { withWalk ev.walk (baseReading ev) with outcome := .noEcho1 }
      | some _, none => { withWalk ev.walk (baseReading ev) with outcome := .noEcho2 }
      | some e1, some e2 => judgeEchoes ev ev.walk e1 e2 (withWalk ev.walk (baseReading ev)) := by
  rw [evaluate, if_neg (by omega)]
  rfl

/-- R22: a time of flight below the least. -/
theorem judgeEchoes_short {e1 e2 : Echo} (r : Reading)
    (h : (ev.flight e1 e2).1 < 256 * (ev.slice.entry.minSep.toNat : Int)) :
    judgeEchoes ev ev.walk e1 e2 r = { r with
      outcome := .badOrder, delta := some (ev.flight e1 e2).1
      flags := { r.flags with
        weak := weakEcho e1.amplitude e2.amplitude ev.slice.entry.weakPct.toNat, fallbackPair := (ev.flight e1 e2).2 } } :=
  if_pos (decide_eq_true h)

/-- R35 to R38: a time of flight that is long enough gives a thickness. -/
theorem judgeEchoes_measured {e1 e2 : Echo} (r : Reading)
    (h : 256 * (ev.slice.entry.minSep.toNat : Int) ≤ (ev.flight e1 e2).1) :
    judgeEchoes ev ev.walk e1 e2 r =
      let d := thicknessOf r.velocity (ev.flight e1 e2).1 ev.trace.interval
      { r with
        outcome := windowOutcome (ev.tie != .ordinary) ev.slice d.1, delta := some (ev.flight e1 e2).1, thickness := some d.1
        flags := { r.flags with
          weak := weakEcho e1.amplitude e2.amplitude ev.slice.entry.weakPct.toNat, fallbackPair := (ev.flight e1 e2).2
          saturated := d.2 } } :=
  if_neg (by rw [tooShort, decide_eq_true_eq]; exact not_lt.mpr h)

end

/-- The stages that an evaluation can end in: below min_energy, without its first or second echo, below the least time of
flight, or measured. -/
inductive Stages (ev : Evaluation) : Reading → Prop
  | lowEnergy (below : ev.trace.energy.toNat < ev.slice.entry.minEnergy.toNat) : Stages ev (baseReading ev)
  | noEcho1 (admitted : ev.slice.entry.minEnergy.toNat ≤ ev.trace.energy.toNat) (missed : ev.walk.echo1.echo? = none) :
      Stages ev { withWalk ev.walk (baseReading ev) with outcome := .noEcho1 }
  | noEcho2 (admitted : ev.slice.entry.minEnergy.toNat ≤ ev.trace.energy.toNat) (e1 : Echo)
      (found : ev.walk.echo1.echo? = some e1) (missed : ev.walk.echo2.echo? = none) :
      Stages ev { withWalk ev.walk (baseReading ev) with outcome := .noEcho2 }
  | badOrder (admitted : ev.slice.entry.minEnergy.toNat ≤ ev.trace.energy.toNat) (e1 e2 : Echo)
      (first : ev.walk.echo1.echo? = some e1) (second : ev.walk.echo2.echo? = some e2)
      (short : (ev.flight e1 e2).1 < 256 * (ev.slice.entry.minSep.toNat : Int)) :
      Stages ev { withWalk ev.walk (baseReading ev) with
        outcome := .badOrder, delta := some (ev.flight e1 e2).1
        flags := { (withWalk ev.walk (baseReading ev)).flags with
          weak := weakEcho e1.amplitude e2.amplitude ev.slice.entry.weakPct.toNat
          fallbackPair := (ev.flight e1 e2).2 } }
  | measured (admitted : ev.slice.entry.minEnergy.toNat ≤ ev.trace.energy.toNat) (e1 e2 : Echo) (d : Nat × Bool)
      (first : ev.walk.echo1.echo? = some e1) (second : ev.walk.echo2.echo? = some e2)
      (long : 256 * (ev.slice.entry.minSep.toNat : Int) ≤ (ev.flight e1 e2).1)
      (figures : thicknessOf (baseReading ev).velocity (ev.flight e1 e2).1 ev.trace.interval = d) :
      Stages ev { withWalk ev.walk (baseReading ev) with
        outcome := windowOutcome (ev.tie != .ordinary) ev.slice d.1, delta := some (ev.flight e1 e2).1
        thickness := some d.1
        flags := { (withWalk ev.walk (baseReading ev)).flags with
          weak := weakEcho e1.amplitude e2.amplitude ev.slice.entry.weakPct.toNat
          fallbackPair := (ev.flight e1 e2).2, saturated := d.2 } }

theorem evaluate_stages (ev : Evaluation) : Stages ev (evaluate ev) := by
  rcases Nat.lt_or_ge ev.trace.energy.toNat ev.slice.entry.minEnergy.toNat with below | admitted
  · rw [evaluate_lowEnergy ev below]
    exact .lowEnergy below
  · rw [evaluate_admitted ev admitted]
    cases h1 : ev.walk.echo1.echo? with
    | none => exact .noEcho1 admitted h1
    | some e1 =>
      cases h2 : ev.walk.echo2.echo? with
      | none => exact .noEcho2 admitted e1 h1 h2
      | some e2 =>
        rcases lt_or_ge (ev.flight e1 e2).1 (256 * (ev.slice.entry.minSep.toNat : Int)) with short | long
        · simp only [judgeEchoes_short ev _ short]
          exact .badOrder admitted e1 e2 h1 h2 short
        · simp only [judgeEchoes_measured ev _ long]
          exact .measured admitted e1 e2 _ h1 h2 long rfl

theorem windowOutcome_cases (calibration : Bool) (sl : Slice) (d : Nat) :
    windowOutcome calibration sl d = .valid ∨ windowOutcome calibration sl d = .outOfWindow := by
  unfold windowOutcome
  split
  · exact .inl rfl
  split
  · exact .inr rfl
  · exact .inl rfl

/-! #### What a reading carries by the stage it ends in -/

namespace Stages

variable {ev : Evaluation} {r : Reading}

/-- R24, R34: what every stage keeps of the trace and the slice. -/
theorem identity (h : Stages ev r) :
    r.head = ev.trace.head ∧ r.sequence = ev.trace.sequence ∧ r.timestamp = ev.trace.timestamp ∧
    r.generation = ev.slice.generation ∧ r.temperature = ev.slice.temperature ∧ r.velocity = (baseReading ev).velocity ∧
    r.flags.tempClamp = (velocityAt ev.slice.entries ev.slice.temperature).2 ∧
    r.flags.tempFallback = ev.slice.tempFallback := by
  cases h <;> exact ⟨rfl, rfl, rfl, rfl, rfl, rfl, rfl, rfl⟩

/-- R22, R23: the outcome against the time of flight and the thickness. -/
theorem fields (h : Stages ev r) :
    (r.thickness.isSome = true ↔ r.outcome = .valid ∨ r.outcome = .outOfWindow) ∧
    (r.delta.isSome = true ↔ r.outcome = .valid ∨ r.outcome = .outOfWindow ∨ r.outcome = .badOrder) ∧
    (r.outcome = .valid → r.echo1.isSome = true ∧ r.echo2.isSome = true) ∧
    (∀ d, r.delta = some d → (r.outcome = .badOrder ↔ d < 256 * (ev.slice.entry.minSep.toNat : Int))) := by
  cases h with
  | lowEnergy | noEcho1 | noEcho2 => simp [withWalk, baseReading]
  | badOrder _ _ _ _ _ short => simpa [withWalk, baseReading] using short
  | measured _ e1 e2 figure first second long _ =>
    rcases windowOutcome_cases (ev.tie != .ordinary) ev.slice figure.1 with h | h <;>
      simpa [withWalk, h, first, second] using long

/-- R37, R38: the window of an ordinary evaluation; a calibration evaluation makes no window check. -/
theorem window (h : Stages ev r) :
    (∀ d, ev.tie = .ordinary → r.thickness = some d →
      (r.outcome = .valid ↔ ev.slice.windowLow ≤ d ∧ d ≤ ev.slice.windowHigh)) ∧
    (ev.tie ≠ .ordinary → r.outcome ≠ .outOfWindow) := by
  cases h with
  | lowEnergy | noEcho1 | noEcho2 | badOrder => simp [withWalk, baseReading]
  | measured _ e1 e2 figure =>
    refine ⟨fun d tie hd => ?_, fun tie => by simp [windowOutcome, tie]⟩
    simp only [Option.some.injEq] at hd
    simp only [windowOutcome, hd, tie, bne_self_eq_false, Bool.false_eq_true, if_false]
    split
    next outside => simp only [reduceCtorEq, false_iff]; omega
    next inside => simp only [true_iff]; omega

/-- R18: from min_energy on a reading carries what the walk gave. -/
theorem walked (h : Stages ev r) (admitted : ev.slice.entry.minEnergy.toNat ≤ ev.trace.energy.toNat) :
    r.echo1 = ev.walk.echo1.echo?.map Echo.amplitude ∧ r.echo2 = ev.walk.echo2.echo?.map Echo.amplitude ∧
    r.echo3 = ev.walk.echo3.echo?.map Echo.amplitude ∧ r.flags.edge = ev.walk.edge ∧ r.flags.flaw = ev.walk.flaw := by
  cases h with
  | lowEnergy below => exact absurd below (by omega)
  | noEcho1 | noEcho2 | badOrder | measured => exact ⟨rfl, rfl, rfl, rfl, rfl⟩

/-- R18: an evaluation without one of its first two echoes. -/
theorem missed (h : Stages ev r) (admitted : ev.slice.entry.minEnergy.toNat ≤ ev.trace.energy.toNat)
    (missed : ev.walk.echo1.echo? = none ∨ ev.walk.echo2.echo? = none) :
    r.delta = none ∧ r.flags.weak = false ∧ r.flags.fallbackPair = false ∧
    r.outcome = (if ev.walk.echo1.echo? = none then .noEcho1 else .noEcho2) := by
  cases h with
  | lowEnergy below => exact absurd below (by omega)
  | noEcho1 _ none1 => exact ⟨rfl, rfl, rfl, (if_pos none1).symm⟩
  | noEcho2 _ e1 found none2 => exact ⟨rfl, rfl, rfl, (if_neg (by simp [found])).symm⟩
  | badOrder _ _ _ first second | measured _ _ _ _ first second => simp [first, second] at missed

/-- R20, R21: an evaluation with both its first echoes. -/
theorem paired (h : Stages ev r) (admitted : ev.slice.entry.minEnergy.toNat ≤ ev.trace.energy.toNat) {e1 e2 : Echo}
    (first : ev.walk.echo1.echo? = some e1) (second : ev.walk.echo2.echo? = some e2) :
    r.flags.weak = decide (e2.amplitude * 100 < e1.amplitude * ev.slice.entry.weakPct.toNat) ∧
    r.delta = some (ev.flight e1 e2).1 ∧ r.flags.fallbackPair = (ev.flight e1 e2).2 := by
  cases h with
  | lowEnergy below => exact absurd below (by omega)
  | noEcho1 _ none1 => simp [first] at none1
  | noEcho2 _ _ _ none2 => simp [second] at none2
  | badOrder _ f1 f2 first' second' | measured _ f1 f2 _ first' second' =>
    obtain rfl : e1 = f1 := by simpa [first] using first'
    obtain rfl : e2 = f2 := by simpa [second] using second'
    exact ⟨rfl, rfl, rfl⟩

/-- R35, R36: a time of flight that is long enough gives a thickness, held at 65,535 with SATURATED. -/
theorem thickness (h : Stages ev r) {d : Int} (delta : r.delta = some d)
    (long : 256 * (ev.slice.entry.minSep.toNat : Int) ≤ d) :
    r.thickness = some (thicknessOf r.velocity d ev.trace.interval).1 ∧
    r.flags.saturated = (thicknessOf r.velocity d ev.trace.interval).2 := by
  obtain ⟨-, -, -, -, -, velocity, -, -⟩ := h.identity
  rw [velocity]
  cases h with
  | lowEnergy | noEcho1 | noEcho2 => simp [withWalk, baseReading] at delta
  | badOrder _ e1 e2 _ _ short => simp only [Option.some.injEq] at delta; omega
  | measured _ e1 e2 figure _ _ _ figures =>
    simp only [Option.some.injEq] at delta
    rw [← delta, figures]
    exact ⟨rfl, rfl⟩

end Stages

/-- R21: the time of flight by the pair mode. -/
theorem timeOfFlight_pair12 {mode : Byte} (h : mode.toNat = 0) (e1 e2 : Echo) (e3 : Option Echo) :
    timeOfFlight mode e1 e2 e3 = (e2.position - e1.position, false) := if_neg (by omega)

theorem timeOfFlight_pair13 {mode : Byte} (h : mode.toNat = 1) (e1 e2 e3 : Echo) :
    timeOfFlight mode e1 e2 (some e3) = (roundHalfAway (e3.position - e1.position) 2, false) := if_pos h

theorem timeOfFlight_fallback {mode : Byte} (h : mode.toNat = 1) (e1 e2 : Echo) :
    timeOfFlight mode e1 e2 none = (e2.position - e1.position, true) := if_pos h

theorem thicknessOf_eq (velocity : Nat) (delta : Int) (interval : Interval) :
    thicknessOf velocity delta interval =
      (min 65535 (rawThickness velocity delta interval), decide (65535 < rawThickness velocity delta interval)) := by
  simp only [thicknessOf]
  split
  next above => simp only [above, decide_true, Nat.min_eq_left above.le]
  next fits => simp only [fits, decide_false, Nat.min_eq_right (not_lt.mp fits)]

theorem interval_ns_eq (i : Interval) : Interval.ns i = match i with | .ns10 => 10 | .ns20 => 20 | .ns40 => 40 := by
  cases i <;> rfl

/-- Settles O19. -/
theorem lowEnergyEndsTheEvaluation : Obligations.LowEnergyEndsTheEvaluation := by
  refine fun ev => ⟨fun below => ?_, fun admitted => ?_⟩
  · rw [evaluate_lowEnergy ev below]
    exact ⟨rfl, rfl, rfl, rfl, rfl, rfl, rfl, rfl, rfl⟩
  · have stages := evaluate_stages ev
    generalize evaluate ev = r at stages ⊢
    cases stages with
    | lowEnergy below => exact absurd below (by omega)
    | noEcho1 | noEcho2 | badOrder => simp
    | measured _ _ _ figure =>
      rcases windowOutcome_cases (ev.tie != .ordinary) ev.slice figure.1 with h | h <;> simp [h]

/-- Settles O20: each clause by the stage that the evaluation ends in. -/
theorem outcomeDecidesTheFields : Obligations.OutcomeDecidesTheFields := by
  intro ev r
  have stages : Stages ev r := evaluate_stages ev
  obtain ⟨head, sequence, timestamp, generation, temperature, velocity, tempClamp, tempFallback⟩ := stages.identity
  obtain ⟨thickness, delta, amplitudes, order⟩ := stages.fields
  refine ⟨⟨head, sequence, timestamp, generation, temperature, velocity, tempClamp, tempFallback⟩, thickness, delta,
    amplitudes, order, fun d => evaluate_thickness_le, stages.window.1, stages.window.2, fun admitted => ?_⟩
  obtain ⟨echo1, echo2, echo3, edge, flaw⟩ := stages.walked admitted
  refine ⟨echo1, echo2, echo3, edge, flaw, stages.missed admitted, fun e1 e2 first second => ?_, fun d hd long => ?_⟩
  · obtain ⟨weak, flown, fellBack⟩ := stages.paired admitted first second
    refine ⟨weak, fun mode => ?_, fun e3 mode third => ?_, fun mode third => ?_⟩
    · rw [flown, fellBack, Evaluation.flight, timeOfFlight_pair12 mode]
      exact ⟨rfl, rfl⟩
    · rw [flown, fellBack, Evaluation.flight, show ev.walk.echo3.echo? = some e3 from third, timeOfFlight_pair13 mode]
      exact ⟨rfl, rfl⟩
    · rw [flown, fellBack, Evaluation.flight, show ev.walk.echo3.echo? = none from third, timeOfFlight_fallback mode]
      exact ⟨rfl, rfl⟩
  · obtain ⟨measured, saturated⟩ := stages.thickness hd long
    rw [measured, saturated, thicknessOf_eq, rawThickness, interval_ns_eq]
    exact ⟨rfl, rfl⟩

end Sys2Proof.Machine
end

section
/-! An evaluation starts (R5 to R9, R14, R30): the path of the latched chain, the settle condition that has nothing to examine
while no context is SETTLING, and the slice that a start latches. -/

namespace Sys2Proof.Machine

/-! ### The settle condition of a quiet state (R75) -/

theorem stageIs_of_tubeAt {s : State} {c : Ctx} {t : Tube} (h : tubeAt s c = some t) (g : Stage) :
    stageIs s c g = (t.stage == g) := by
  simp [stageIs, h]

theorem Quiet.stageIs {s : State} (quiet : Quiet s) (c : Ctx) : stageIs s c .settling = false := by
  cases c
  · exact quiet.1
  · exact quiet.2

theorem examineSettle_of_not_settling {c : Ctx} {s : State} (h : stageIs s c .settling = false) : examineSettle c s = s := by
  unfold examineSettle
  split
  · rfl
  next t ht =>
    split
    next stage _ => rw [stageIs_of_tubeAt ht, stage] at h; cases h
    next => rfl

/-- R75: with no context SETTLING the end of a step examines nothing. -/
theorem examineBoth_of_quiet {s : State} (quiet : Quiet s) : examineBoth s = s := by
  unfold examineBoth
  induction olderFirst s with
  | nil => rfl
  | cons c rest ih => rw [List.foldl_cons, examineSettle_of_not_settling (quiet.stageIs c), ih]

/-! ### The latched chain (R7, R14) -/

/-- The descriptors met from `start` on, by their numbers. -/
def chainPath (gates : Vector GateEntry 64) : Nat → Nat → List (Fin 64)
  | 0, _ => []
  | n + 1, start =>
    if h : start < 64 then ⟨start, h⟩ :: chainPath gates n (tableGet gates ⟨start, h⟩).next.toNat else []

section
variable (gates : Vector GateEntry 64)

theorem chainFrom_eq_map (n start : Nat) : chainFrom gates n start = (chainPath gates n start).map (tableGet gates) := by
  induction n generalizing start with
  | zero => rfl
  | succ n ih =>
    unfold chainFrom chainPath
    split
    · rw [List.map_cons, ← ih]
    · rfl

theorem chainPath_length_le (n start : Nat) : (chainPath gates n start).length ≤ n := by
  induction n generalizing start with
  | zero => exact le_rfl
  | succ n ih =>
    unfold chainPath
    split
    · exact Nat.succ_le_succ (ih _)
    · exact Nat.zero_le _

theorem chainPath_head? {n start : Nat} (h : start < 64) :
    (chainPath gates (n + 1) start).head?.map Fin.val = some start := by
  simp [chainPath, h]

/-- A path that has not ended at its first number starts there. -/
theorem chainPath_head_eq {n start : Nat} {i : Fin 64} (h : (chainPath gates n start)[0]? = some i) : i.val = start := by
  cases n with
  | zero => cases h
  | succ n =>
    unfold chainPath at h
    split at h
    · obtain rfl : _ = i := by simpa using h
      rfl
    · cases h

/-- R14: each number of the path is the one that the descriptor before it names as next. -/
theorem chainPath_next {n start k : Nat} {i j : Fin 64} (hi : (chainPath gates n start)[k]? = some i)
    (hj : (chainPath gates n start)[k + 1]? = some j) : (tableGet gates i).next.toNat = j.val := by
  induction n generalizing start k with
  | zero => cases hi
  | succ n ih =>
    unfold chainPath at hi hj
    split at hi
    next h =>
      rw [dif_pos h, List.getElem?_cons_succ] at hj
      cases k with
      | zero =>
        obtain rfl : _ = i := by simpa using hi
        exact (chainPath_head_eq gates hj).symm
      | succ k => exact ih (by simpa using hi) hj
    next => cases hi

/-- R14: a path shorter than it may be ends where a next names no descriptor. -/
theorem chainPath_getLast {n start : Nat} {i : Fin 64} (hi : (chainPath gates n start).getLast? = some i)
    (short : (chainPath gates n start).length < n) : 64 ≤ (tableGet gates i).next.toNat := by
  induction n generalizing start with
  | zero => cases hi
  | succ n ih =>
    unfold chainPath at hi short
    split at hi
    next h =>
      rw [dif_pos h, List.length_cons, Nat.succ_lt_succ_iff] at short
      cases hp : chainPath gates n (tableGet gates ⟨start, h⟩).next.toNat with
      | nil =>
        obtain rfl : _ = i := by simpa [hp] using hi
        cases n with
        | zero => cases short
        | succ n =>
          by_contra below
          have head := chainPath_head? gates (n := n) (not_le.mp below)
          simp [hp] at head
      | cons x rest => exact ih (by rw [← hi, hp, List.getLast?_cons_cons]) short
    next => cases hi

end

/-! ### The slice (R7 to R9, R30) -/

theorem channelOf_some {code : Byte} (h : code.toNat < 4) : (channelOf code).map Fin.val = some code.toNat := by
  simp [channelOf, h]

theorem channelOf_none {code : Byte} (h : 4 ≤ code.toNat) : channelOf code = none := by
  simp [channelOf, not_lt.mpr h]

theorem tiedRun_eq_some {s : State} {h : HeadNo} {r : CalRun} (run : s.agent.run = some r) (head : r.head = h) :
    tiedRun s h = some r := by
  simp [tiedRun, run, head]

theorem tiedRun_eq_none {s : State} {h : HeadNo} (other : s.agent.run.map CalRun.head ≠ some h) : tiedRun s h = none := by
  unfold tiedRun
  split
  next => rfl
  next r hr => exact if_neg (by simpa [hr] using other)

section
variable {s : State} {b : Bank} {h : HeadNo}

/-- R9: a calibration evaluation takes the run's temperature and the factor 65,536. -/
theorem latchSlice_tied {r : CalRun} (tied : tiedRun s h = some r) :
    (latchSlice s b h).factor = 65536 ∧ (latchSlice s b h).temperature = r.temperature ∧
    (latchSlice s b h).tempFallback = false := by
  simp [latchSlice, tied]

/-- R30, R34: every other evaluation takes its head's factor, and its temperature by R30. -/
theorem latchSlice_ordinary (free : tiedRun s h = none) :
    (latchSlice s b h).factor = tableGet s.agent.calib h ∧
    ((latchSlice s b h).temperature, (latchSlice s b h).tempFallback) =
      fixTemperature s.now s.agent.timing.temperatureStale b.map.fallback.toNat
        ((channelOf (tableGet b.heads h).channel).map (tableGet s.headPort.channels)) := by
  simp [latchSlice, free]

end

theorem fixTemperature_fallback (now : Time) (stale fallback : Nat) {record : Option ChannelRecord}
    (none : record.bind ChannelRecord.held = .none) : fixTemperature now stale fallback record = (fallback, true) := by
  simp [fixTemperature, none]

theorem fixTemperature_held (now : Time) (stale fallback : Nat) {record : Option ChannelRecord} {x : HeldTemperature}
    (held : record.bind ChannelRecord.held = some x) :
    fixTemperature now stale fallback record =
      if (now - x.arrival).toNat ≤ stale * 1000 then (x.temperature, false) else (fallback, true) := by
  simp only [fixTemperature, held]
  rfl

/-! ### The start of an evaluation (R5) -/

theorem startEvaluation_disabled {s : State} {b : Bank} (t : Trace) (rest : List Trace) (active : s.agent.active = some b)
    (off : headEnabled s t.head = false) : startEvaluation t rest s = countIdleDiscard t.head (s.setTraceQueue rest) := by
  simp [startEvaluation, active, off]

theorem startEvaluation_enabled {s : State} {b : Bank} (t : Trace) (rest : List Trace) (active : s.agent.active = some b)
    (on : headEnabled s t.head = true) :
    startEvaluation t rest s = (s.setTraceQueue rest).setEvaluator (some (startedEvaluation s b t)) := by
  simp [startEvaluation, active, on]

theorem exec_evaluationStart {s : State} {t : Trace} {rest : List Trace} (idle : s.evaluator = none)
    (queue : s.traceQueue = t :: rest) : exec .evaluationStart s = .next (examineBoth (startEvaluation t rest s)) := by
  change execEvaluationStart s = _
  simp [execEvaluationStart, idle, queue]

/-- Settles O41: the path of the chain by induction on its length, the slice by the run that the trace's head is tied to. -/
theorem evaluationStartLatches : Obligations.EvaluationStartLatches := by
  refine ⟨fun b e => ⟨chainPath b.gates 8 e.chainStart.toNat, chainFrom_eq_map _ _ _, chainPath_length_le _ _ _,
      chainPath_head? _, fun k i j => chainPath_next _, fun i => chainPath_getLast _⟩,
    fun code => ⟨channelOf_some, channelOf_none⟩, ?_⟩
  intro s t rest b e fallback idle queue active quiet
  refine ⟨fun off => ?_, fun on => ?_⟩
  · rw [exec_evaluationStart idle queue, startEvaluation_disabled t rest active off,
      show examineBoth (countIdleDiscard t.head (s.setTraceQueue rest)) = _ from examineBoth_of_quiet quiet]
    rfl
  · refine ⟨startedEvaluation s b t, ?_, rfl, rfl, rfl, rfl, rfl, rfl, rfl, rfl, rfl, rfl, fun r run head => ?_,
      fun other => ?_⟩
    · rw [exec_evaluationStart idle queue, startEvaluation_enabled t rest active on,
        show examineBoth (State.setEvaluator (s.setTraceQueue rest) _) = _ from examineBoth_of_quiet quiet]
    · have tied := tiedRun_eq_some run head
      exact ⟨by simp [startedEvaluation, tied], latchSlice_tied tied⟩
    · have free := tiedRun_eq_none other
      obtain ⟨factor, temperature⟩ := latchSlice_ordinary (b := b) free
      have used (x : Nat × Bool) (hx : fixTemperature s.now s.agent.timing.temperatureStale fallback
          ((channelOf e.channel).map (tableGet s.headPort.channels)) = x) :
          (startedEvaluation s b t).slice.temperature = x.1 ∧ (startedEvaluation s b t).slice.tempFallback = x.2 :=
        Prod.ext_iff.mp (temperature.trans hx)
      refine ⟨by simp [startedEvaluation, free], factor, fun none => ?_, fun ch some none => ?_, fun ch x some held => ?_⟩
      · exact used _ (fixTemperature_fallback _ _ _ (by simp [none]))
      · exact used _ (fixTemperature_fallback _ _ _ (by simp [some, none]))
      · have read := used _ (fixTemperature_held (x := x) _ _ _ (by simp [some, held]))
        refine ⟨fun fresh => ?_, fun stale => ?_⟩
        · rwa [if_pos (show (s.now - x.arrival).toNat ≤ _ from fresh)] at read
        · rwa [if_neg (show ¬(s.now - x.arrival).toNat ≤ _ from not_le.mpr stale)] at read

end Sys2Proof.Machine
end

section
/-! An evaluation completes (R24, R25): what an occurrence leaves of the queues, the tubes and the other records, the two output
decisions by their policies, and a completion as the reading handed on, the events of its flags and the MIRROR decision. -/

namespace Sys2Proof.Machine

/-! ### What an occurrence leaves alone -/

/-- An occurrence counts its own kind, and at most NOTICE_LOST beside it. -/
theorem occurrences_raise {j : EventKind} (hj : j ≠ .noticeLost) (k : EventKind) (d : Detail) (s : State) :
    occurrences (raise k d s) j = if j = k then min 65535 (occurrences s k + 1) else occurrences s j := by
  obtain h | ⟨_, _, _, h⟩ := raise_cases k d s
  · rw [h, occurrences_countOccurrence]
  · rw [h, (offerNotice_downstream (K := [j]) (by simpa using hj.symm) _ _).counts j (by simp), occurrences_countOccurrence]

/-- What a NOTICE may change of the Mill Port: its own queue and the counters. -/
structure NoticeOnly (s t : State) : Prop where
  mill : ∃ q c, t.mill = { s.mill with noticeQ := q, counters := c }
  tubeAt : ∀ c, ∃ worst : Tube → Condition, tubeAt t c = (tubeAt s c).map fun x => { x with worstSeen := worst x }

theorem NoticeOnly.refl (s : State) : NoticeOnly s s :=
  ⟨⟨_, _, rfl⟩, fun _ => ⟨Tube.worstSeen, by simp⟩⟩

theorem NoticeOnly.trans {s t u : State} (a : NoticeOnly s t) (b : NoticeOnly t u) : NoticeOnly s u := by
  obtain ⟨q, c, hq⟩ := b.mill
  obtain ⟨q', c', hq'⟩ := a.mill
  refine ⟨⟨q, c, by rw [hq, hq']⟩, fun x => ?_⟩
  obtain ⟨w, hw⟩ := a.tubeAt x
  obtain ⟨w', hw'⟩ := b.tubeAt x
  exact ⟨fun t => w' { t with worstSeen := w t }, by rw [hw', hw, Option.map_map]; rfl⟩

theorem Tube.noteWorst_eq (w : Condition) (t : Tube) :
    t.noteWorst w = { t with worstSeen := (t.noteWorst w).worstSeen } := by
  unfold Tube.noteWorst
  split <;> rfl

theorem noteWorst_noticeOnly (s : State) : NoticeOnly s (noteWorst s) := by
  refine ⟨⟨_, _, rfl⟩, fun c => ⟨fun t => (t.noteWorst (worstCondition s)).worstSeen, ?_⟩⟩
  have noted : Machine.tubeAt (noteWorst s) c = (Machine.tubeAt s c).map (Tube.noteWorst (worstCondition s)) := by
    cases c <;> rfl
  rw [noted]
  exact congrArg (Option.map · _) (funext fun t => t.noteWorst_eq _)

theorem countOccurrence_noticeOnly (k : EventKind) (d : Detail) (s : State) : NoticeOnly s (countOccurrence k d s) := by
  have noted (x : EventUnit) : NoticeOnly s (noteWorst (s.setEvents x)) :=
    NoticeOnly.trans (t := s.setEvents x) ⟨⟨_, _, rfl⟩, fun _ => ⟨Tube.worstSeen, by simp [tubeAt]⟩⟩ (noteWorst_noticeOnly _)
  have captured (x : State) : NoticeOnly x (captureFailed k d x) :=
    ⟨⟨_, _, captureFailed_mill k d x⟩, fun _ => ⟨Tube.worstSeen, by simp [tubeAt]⟩⟩
  simp only [countOccurrence]
  split
  · exact (noted _).trans (captured _)
  · exact noted _

theorem offerNotice_noticeOnly (n : Notice) (s : State) : NoticeOnly s (offerNotice n s) := by
  have setMill (m : MillPort) (h : ∃ q c, m = { s.mill with noticeQ := q, counters := c }) : NoticeOnly s (s.setMill m) :=
    ⟨h, fun _ => ⟨Tube.worstSeen, by simp [tubeAt]⟩⟩
  obtain ⟨_, h⟩ | ⟨_, h⟩ := offerNotice_cases n s <;> rw [h]
  · exact setMill _ ⟨_, _, rfl⟩
  · exact (setMill _ ⟨_, _, rfl⟩).trans (countOccurrence_noticeOnly _ _ _)

theorem raise_noticeOnly (k : EventKind) (d : Detail) (s : State) : NoticeOnly s (raise k d s) := by
  obtain h | ⟨_, _, _, h⟩ := raise_cases k d s <;> rw [h]
  · exact countOccurrence_noticeOnly k d s
  · exact (countOccurrence_noticeOnly k d s).trans (offerNotice_noticeOnly _ _)

namespace NoticeOnly

variable {s t : State} (h : NoticeOnly s t)
include h

theorem link : t.mill.link = s.mill.link := by obtain ⟨q, c, e⟩ := h.mill; rw [e]
theorem summaryQ : t.mill.summaryQ = s.mill.summaryQ := by obtain ⟨q, c, e⟩ := h.mill; rw [e]
theorem readingQ : t.mill.readingQ = s.mill.readingQ := by obtain ⟨q, c, e⟩ := h.mill; rw [e]
theorem mirrorQ : t.mill.mirrorQ = s.mill.mirrorQ := by obtain ⟨q, c, e⟩ := h.mill; rw [e]
theorem decimation : t.mill.decimation = s.mill.decimation := by obtain ⟨q, c, e⟩ := h.mill; rw [e]

theorem stageIs (c : Ctx) (g : Stage) : stageIs t c g = stageIs s c g := by
  obtain ⟨worst, e⟩ := h.tubeAt c
  unfold Machine.stageIs
  rw [e]
  cases Machine.tubeAt s c <;> rfl

theorem quiet (quiet : Quiet s) : Quiet t := ⟨(h.stageIs _ _).trans quiet.1, (h.stageIs _ _).trans quiet.2⟩

/-- A tube stands on as it was, but for its worst condition seen. -/
theorem tube {c : Ctx} {x : Tube} (hx : Machine.tubeAt s c = some x) :
    ∃ worst, Machine.tubeAt t c = some { x with worstSeen := worst } := by
  obtain ⟨worst, e⟩ := h.tubeAt c
  exact ⟨worst x, by rw [e, hx]; rfl⟩

end NoticeOnly

/-! ### The two output decisions by their policies (R149, R152, R153) -/

section
variable {r : Reading} {s : State}

theorem offerReading_room (up : s.mill.link = .up) (room : s.mill.readingQ.length < 64) :
    offerReading r s = s.setMill { s.mill with readingQ := s.mill.readingQ ++ [r] } := if_pos ⟨up, room⟩

theorem offerReading_dropped (h : s.mill.link = .down ∨ s.mill.readingQ.length = 64) :
    offerReading r s = s.setMill { s.mill with counters := { s.mill.counters with
      dropped := tableSet s.mill.counters.dropped 4 (min 4294967295 (tableGet s.mill.counters.dropped 4 + 1)) } } := by
  refine if_neg fun ⟨up, room⟩ => ?_
  rcases h with down | full
  · rw [up] at down; cases down
  · simp [full, readingCap] at room

theorem decideReading_off (h : (outputOf s r.head).reading = .off) : decideReading r s = s := by simp [decideReading, h]

theorem decideReading_all (h : (outputOf s r.head).reading = .all) : decideReading r s = offerReading r s := by
  simp [decideReading, h]

theorem decideReading_validOnly (h : (outputOf s r.head).reading = .validOnly) :
    decideReading r s = if r.outcome = .valid then offerReading r s else s := by
  simp [decideReading, h]

theorem decideReading_counts (h : (outputOf s r.head).reading = .everyN)
    (below : (decimationOf s r.head).reading + 1 < (outputOf s r.head).readingN) :
    decideReading r s =
      modDecimation r.head (fun d => { d with reading := (decimationOf s r.head).reading + 1 }) s := by
  simp [decideReading, h, not_le.mpr below]

theorem decideReading_everyN (h : (outputOf s r.head).reading = .everyN)
    (reached : (outputOf s r.head).readingN ≤ (decimationOf s r.head).reading + 1) :
    decideReading r s = offerReading r (modDecimation r.head (fun d => { d with reading := 0 }) s) := by
  simp [decideReading, h, reached]

end

section
variable {m : MirrorFrame} {s : State}

theorem offerMirror_room (up : s.mill.link = .up) (room : s.mill.mirrorQ.length < 8) :
    offerMirror m s = s.setMill { s.mill with mirrorQ := s.mill.mirrorQ ++ [m] } := if_pos ⟨up, room⟩

theorem offerMirror_dropped (h : s.mill.link = .down ∨ s.mill.mirrorQ.length = 8) :
    offerMirror m s = s.setMill { s.mill with counters := { s.mill.counters with
      dropped := tableSet s.mill.counters.dropped 5 (min 4294967295 (tableGet s.mill.counters.dropped 5 + 1)) } } := by
  refine if_neg fun ⟨up, room⟩ => ?_
  rcases h with down | full
  · rw [up] at down; cases down
  · simp [full, mirrorCap] at room

theorem decideMirror_off (h : (outputOf s m.trace.head).mirror = .off) : decideMirror m s = s := by simp [decideMirror, h]

/-- R153: what REJECTED and FLAWED send. -/
theorem decideMirror_sends
    (h : ((outputOf s m.trace.head).mirror = .rejected ∧ m.reading.outcome ≠ .valid) ∨
      ((outputOf s m.trace.head).mirror = .flawed ∧ (m.reading.outcome ≠ .valid ∨ m.reading.flags.flaw = true))) :
    decideMirror m s = offerMirror m s := by
  rcases h with ⟨policy, rejected⟩ | ⟨policy, flawed⟩
  · simp [decideMirror, policy, rejected]
  · simp only [decideMirror, policy, flawed, if_true]

theorem decideMirror_passes
    (h : (outputOf s m.trace.head).mirror = .rejected ∨ (outputOf s m.trace.head).mirror = .flawed)
    (not : ¬(((outputOf s m.trace.head).mirror = .rejected ∧ m.reading.outcome ≠ .valid) ∨
      ((outputOf s m.trace.head).mirror = .flawed ∧ (m.reading.outcome ≠ .valid ∨ m.reading.flags.flaw = true)))) :
    decideMirror m s = s := by
  rcases h with policy | policy
  · have valid : m.reading.outcome = .valid := by simpa [policy] using not
    simp [decideMirror, policy, valid]
  · have passes : ¬(m.reading.outcome ≠ .valid ∨ m.reading.flags.flaw = true) := by simpa [policy] using not
    simp only [decideMirror, policy, passes, if_false]

theorem decideMirror_counts (h : (outputOf s m.trace.head).mirror = .everyN)
    (below : (decimationOf s m.trace.head).mirror + 1 < (outputOf s m.trace.head).mirrorN) :
    decideMirror m s =
      modDecimation m.trace.head (fun d => { d with mirror := (decimationOf s m.trace.head).mirror + 1 }) s := by
  simp [decideMirror, h, not_le.mpr below]

theorem decideMirror_everyN (h : (outputOf s m.trace.head).mirror = .everyN)
    (reached : (outputOf s m.trace.head).mirrorN ≤ (decimationOf s m.trace.head).mirror + 1) :
    decideMirror m s = offerMirror m (modDecimation m.trace.head (fun d => { d with mirror := 0 }) s) := by
  simp [decideMirror, h, reached]

end

/-! ### The events of a completion's flags (R25) -/

theorem evaluate_head (ev : Evaluation) : (evaluate ev).head = ev.trace.head := (evaluate_stages ev).identity.1

section
variable (ev : Evaluation) (s : State)

theorem flagEvents_eq :
    raiseTempFallback (evaluate ev) ev.slice.channel (raiseFlaw (evaluate ev) s) = withFlagEvents ev s := by
  simp only [raiseTempFallback, raiseFlaw, withFlagEvents, evaluate_head]

theorem withFlagEvents_noticeOnly : NoticeOnly s (withFlagEvents ev s) := by
  simp only [withFlagEvents]
  have flawed : NoticeOnly s (if (evaluate ev).flags.flaw = true then raise .flaw (.head ev.trace.head) s else s) := by
    split
    · exact raise_noticeOnly _ _ s
    · exact .refl s
  split
  · exact flawed.trans (raise_noticeOnly _ _ _)
  · exact flawed

theorem withFlagEvents_downstream : Downstream [.calDone] s (withFlagEvents ev s) := by
  simp only [withFlagEvents]
  have flawed : Downstream [.calDone] s
      (if (evaluate ev).flags.flaw = true then raise .flaw (.head ev.trace.head) s else s) := by
    split
    · exact raise_downstream (by decide) (by decide) _ s
    · exact .refl s
  split
  · exact flawed.trans (raise_downstream (by decide) (by decide) _ _)
  · exact flawed

@[simp] theorem outputOf_withFlagEvents (h : HeadNo) : outputOf (withFlagEvents ev s) h = outputOf s h := by
  simp only [outputOf, (withFlagEvents_downstream ev s).agent]

@[simp] theorem decimationOf_withFlagEvents (h : HeadNo) : decimationOf (withFlagEvents ev s) h = decimationOf s h := by
  simp only [decimationOf, (withFlagEvents_noticeOnly ev s).decimation]

/-- The two kinds occur by their flags, every other but NOTICE_LOST not at all. -/
theorem occurrences_withFlagEvents {k : EventKind} (hk : k ≠ .noticeLost) :
    occurrences (withFlagEvents ev s) k =
      if (k = .flaw ∧ (evaluate ev).flags.flaw = true) ∨ (k = .tempFallback ∧ (evaluate ev).flags.tempFallback = true)
      then min 65535 (occurrences s k + 1) else occurrences s k := by
  simp only [withFlagEvents]
  by_cases flaw : (evaluate ev).flags.flaw = true <;> by_cases fallback : (evaluate ev).flags.tempFallback = true <;>
    by_cases isFlaw : k = .flaw <;> by_cases isFallback : k = .tempFallback <;>
    simp_all [occurrences_raise]

end

/-! ### A completion (R24, R25) -/

theorem exec_evaluationCompletion {s : State} {ev : Evaluation} (h : s.evaluator = some ev) :
    exec .evaluationCompletion s = .next (examineBoth (completeEvaluation ev s)) := by
  change execEvaluationCompletion s = _
  simp [execEvaluationCompletion, h]

theorem completeEvaluation_eq (ev : Evaluation) (s : State) :
    completeEvaluation ev s =
      decideMirror { trace := ev.trace, reading := evaluate ev }
        (withFlagEvents ev (handOn ev.tie (evaluate ev) (s.setEvaluator none))) :=
  congrArg (decideMirror _) (flagEvents_eq ev _)

/-- A completion whose reading, handed on, gives `x` and leaves no context SETTLING. -/
theorem completion_of_quiet {s x : State} {ev : Evaluation} (h : s.evaluator = some ev)
    (handed : handOn ev.tie (evaluate ev) (s.setEvaluator none) = x) (quiet : Quiet x) :
    exec .evaluationCompletion s =
      .next (decideMirror { trace := ev.trace, reading := evaluate ev } (withFlagEvents ev x)) := by
  have kept : (decideMirror { trace := ev.trace, reading := evaluate ev } (withFlagEvents ev x)).tubes =
      (withFlagEvents ev x).tubes := by simp
  have still : Quiet (decideMirror { trace := ev.trace, reading := evaluate ev } (withFlagEvents ev x)) := by
    have := (withFlagEvents_noticeOnly ev x).quiet quiet
    unfold Quiet stageIs tubeAt at *
    rwa [kept]
  rw [exec_evaluationCompletion h, completeEvaluation_eq, handed, examineBoth_of_quiet still]

/-- The same with its head's mirror policy OFF. -/
theorem completion_unmirrored {s x : State} {ev : Evaluation} (h : s.evaluator = some ev)
    (handed : handOn ev.tie (evaluate ev) (s.setEvaluator none) = x) (quiet : Quiet x)
    (off : (outputOf x ev.trace.head).mirror = .off) :
    exec .evaluationCompletion s = .next (withFlagEvents ev x) := by
  rw [completion_of_quiet h handed quiet, decideMirror_off (by simpa using off)]

/-! ### A reading without a pose (R48, R71) -/

/-- R48: with fewer than two samples a reading has no pose. -/
theorem resolveReading_noPose {s : State} (short : s.pose.ring.length < 2) (r : Reading) :
    resolveReading r s = assignUnposed r .noPose s := by
  unfold resolveReading
  split
  next ring _ => rw [ring] at short; simp at short
  next => rfl

/-- R48: a reading earlier than the oldest of two samples or more is STALE_POSE. -/
theorem resolveReading_stalePose {s : State} {r : Reading} {oldest : Sample} (long : 2 ≤ s.pose.ring.length)
    (head : s.pose.ring.head? = some oldest) (earlier : laterThan oldest.timestamp r.timestamp = true) :
    resolveReading r s = assignUnposed r .stalePose s := by
  unfold resolveReading
  split
  next first second rest newest ring last =>
    obtain rfl : first = oldest := by simpa [ring] using head
    exact if_pos earlier
  next none =>
    exfalso
    match ring : s.pose.ring with
    | [] | [_] => simp [ring] at long
    | x :: y :: rest =>
      have last : newestSample s = some ((x :: y :: rest).getLast (by simp)) := by
        rw [newestSample, ring, List.getLast?_eq_some_getLast]
      exact none x y rest _ ring last

theorem assignUnposed_live {s : State} {r : Reading} {c : Ctx} {t : Tube} (p : Placement)
    (span : spanOf s r.timestamp = some (.live c)) (tube : tubeAt s c = some t) :
    assignUnposed r p s = countAndOffer c { r with tubeId := some t.id } p s := by
  simp [assignUnposed, span, tube]

theorem assignUnposed_noTube {s : State} {r : Reading} (p : Placement)
    (span : ∀ c, spanOf s r.timestamp ≠ some (.live c)) :
    assignUnposed r p s = decideReading { r with placement := some p } s := by
  unfold assignUnposed
  split
  next c h => exact absurd h (span c)
  next => rfl
  next => rfl

/-- R69: a live span is the span of a context that is ACTIVE or SETTLING. -/
theorem spanAt_live {s : State} {time : Time} {c d : Ctx} (h : spanAt s time d = some (.live c)) :
    d = c ∧ ∃ t, tubeAt s c = some t ∧ (t.stage = .active ∨ t.stage = .settling) := by
  unfold spanAt at h
  split at h
  next t ht =>
    split at h
    next stage => split at h <;> cases h; exact ⟨rfl, t, ht, .inl stage⟩
    next stage =>
      split at h
      · split at h <;> cases h; exact ⟨rfl, t, ht, .inr stage⟩
      · cases h
    all_goals
      split at h
      · split at h <;> cases h
      · cases h
  next =>
    split at h
    · split at h <;> cases h
    · cases h

theorem spanOf_live {s : State} {time : Time} {c : Ctx} (h : spanOf s time = some (.live c)) :
    ∃ t, tubeAt s c = some t ∧ (t.stage = .active ∨ t.stage = .settling) := by
  rcases Option.or_eq_some_iff.mp h with h | ⟨_, h⟩
  · obtain ⟨rfl, t, ht⟩ := spanAt_live h
    exact ⟨t, ht⟩
  · obtain ⟨rfl, t, ht⟩ := spanAt_live h
    exact ⟨t, ht⟩

theorem not_live_of_free {s : State} (a : s.tubes.a = none) (b : s.tubes.b = none) (time : Time) (c : Ctx) :
    spanOf s time ≠ some (.live c) := by
  intro h
  obtain ⟨t, ht, -⟩ := spanOf_live h
  cases c
  · exact absurd (a.symm.trans ht) (by simp)
  · exact absurd (b.symm.trans ht) (by simp)

theorem quiet_of_free {s : State} (a : s.tubes.a = none) (b : s.tubes.b = none) : Quiet s := by
  simp [Quiet, stageIs, tubeAt, TubeTracker.get, a, b]

end Sys2Proof.Machine
end

section
/-! An evaluation that completes without a pose (R48, R71, R72), and what every completion does to the evaluator and to the two
kinds its flags raise. -/

namespace Sys2Proof.Machine

/-! ### A reading without a pose, handed on -/

section
variable {s : State} {ev : Evaluation} {p : Placement}

/-- R149, R152: a reading that its head sends, where there is room. -/
theorem decideReading_sent {r : Reading} (all : (outputOf s r.head).reading = .all) (up : s.mill.link = .up)
    (room : s.mill.readingQ.length < 64) :
    decideReading r s = s.setMill { s.mill with readingQ := s.mill.readingQ ++ [r] } := by
  rw [decideReading_all all, offerReading_room up room]

/-- R72: a reading counted in a tube and sent. -/
theorem countAndOffer_sent {c : Ctx} {t : Tube} {r : Reading} (tube : tubeAt s c = some t)
    (all : (outputOf s r.head).reading = .all) (up : s.mill.link = .up) (room : s.mill.readingQ.length < 64) :
    countAndOffer c r p s =
      (s.setTubes (s.tubes.put c (some (t.countReading r.outcome p)))).setMill
        { s.mill with readingQ := s.mill.readingQ ++ [{ r with placement := some p }] } := by
  have counted : modTube c (Tube.countReading r.outcome p) s =
      s.setTubes (s.tubes.put c (some (t.countReading r.outcome p))) := by
    simp [modTube, tube, putTube]
  rw [countAndOffer, counted]
  exact decideReading_sent all up room

theorem Tube.countReading_eq (o : EvalOutcome) (t : Tube) :
    t.countReading o p = { t with
      outcomes := tableSet t.outcomes o.code (min 4294967295 (tableGet t.outcomes o.code + 1)),
      placements := tableSet t.placements p.code (min 4294967295 (tableGet t.placements p.code + 1)) } := rfl

/-- The two ways a reading has no pose (R48). -/
def Unposed (s : State) (time : Time) (p : Placement) : Prop :=
  (p = .noPose ∧ s.pose.ring.length < 2) ∨
  (p = .stalePose ∧ 2 ≤ s.pose.ring.length ∧
    ∃ o, s.pose.ring.head? = some o ∧ laterThan o.timestamp time = true)

theorem handOn_unposed {tie : Tie} (ordinary : tie = .ordinary) {r : Reading} (h : Unposed s r.timestamp p) :
    handOn tie r s = assignUnposed r p s := by
  subst ordinary
  obtain ⟨rfl, short⟩ | ⟨rfl, long, o, head, earlier⟩ := h
  · exact resolveReading_noPose short r
  · exact resolveReading_stalePose long head earlier

/-- Putting a tube of the same stage leaves a quiet state quiet. -/
theorem quiet_putTube {c : Ctx} {t x : Tube} (quiet : Quiet s) (tube : tubeAt s c = some t) (stage : x.stage = t.stage) :
    Quiet (s.setTubes (s.tubes.put c (some x))) := by
  have kept := quiet.stageIs c
  rw [stageIs_of_tubeAt tube, ← stage] at kept
  cases c
  · exact ⟨kept, quiet.2⟩
  · exact ⟨quiet.1, kept⟩

theorem completion_unposed_live {c : Ctx} {t : Tube} (completing : Completing .ordinary ev s) (quiet : Quiet s)
    (reporting : Reporting 1 s) (unposed : Unposed s (evaluate ev).timestamp p)
    (span : spanOf s (evaluate ev).timestamp = some (.live c)) (tube : tubeAt s c = some t) :
    exec .evaluationCompletion s =
      .next (withFlagEvents ev
        (((s.setEvaluator none).setTubes (s.tubes.put c (some (t.countReading (evaluate ev).outcome p)))).setMill
          { s.mill with
            readingQ := s.mill.readingQ ++ [{ evaluate ev with placement := some p, tubeId := some t.id }] })) := by
  obtain ⟨busy, tie, mirror⟩ := completing
  obtain ⟨all, up, room⟩ := reporting
  refine completion_unmirrored busy ?_ (quiet_putTube (s := s.setEvaluator none) quiet tube rfl) (mirror _)
  rw [handOn_unposed (s := s.setEvaluator none) tie unposed, assignUnposed_live (s := s.setEvaluator none) p span tube]
  exact countAndOffer_sent (s := s.setEvaluator none) tube (all _) up room

theorem completion_unposed_alone (completing : Completing .ordinary ev s) (quiet : Quiet s) (reporting : Reporting 1 s)
    (unposed : Unposed s (evaluate ev).timestamp p) (span : ∀ c, spanOf s (evaluate ev).timestamp ≠ some (.live c)) :
    exec .evaluationCompletion s =
      .next (withFlagEvents ev ((s.setEvaluator none).setMill
        { s.mill with readingQ := s.mill.readingQ ++ [{ evaluate ev with placement := some p }] })) := by
  obtain ⟨busy, tie, mirror⟩ := completing
  obtain ⟨all, up, room⟩ := reporting
  refine completion_unmirrored busy ?_ quiet (mirror _)
  rw [handOn_unposed (s := s.setEvaluator none) tie unposed, assignUnposed_noTube (s := s.setEvaluator none) p span]
  exact decideReading_sent (s := s.setEvaluator none) (all _) up room

/-! ### A completion by its policies alone -/

/-- A completion with fewer than two samples and both contexts FREE: the READING decision, the flags, the MIRROR decision. -/
theorem completion_alone (busy : s.evaluator = some ev) (tie : ev.tie = .ordinary) (short : s.pose.ring.length < 2)
    (a : s.tubes.a = none) (b : s.tubes.b = none) :
    exec .evaluationCompletion s =
      .next (decideMirror { trace := ev.trace, reading := evaluate ev } (withFlagEvents ev
        (decideReading { evaluate ev with placement := some .noPose } (s.setEvaluator none)))) := by
  refine completion_of_quiet busy ?_ ?_
  · rw [handOn_unposed (s := s.setEvaluator none) tie (.inl ⟨rfl, short⟩)]
    exact assignUnposed_noTube (s := s.setEvaluator none) _ (not_live_of_free a b _)
  · have kept : (decideReading { evaluate ev with placement := some .noPose } (s.setEvaluator none)).tubes = s.tubes := by
      simp
    exact quiet_of_free (kept ▸ a) (kept ▸ b)

end

/-! ### Every completion -/

/-- A reading resolved leaves or joins the pending list, and is otherwise placed. -/
theorem resolveReading_reaches (r : Reading) (s : State) :
    ∃ p q x, Downstream evaluationKinds (s.setPose p) x ∧ resolveReading r s = x.setPose q := by
  have placed {x : State} (h : Downstream evaluationKinds s x) :
      ∃ p q y, Downstream evaluationKinds (s.setPose p) y ∧ x = y.setPose q := ⟨s.pose, x.pose, x, h, rfl⟩
  have unposed (p : Placement) : Downstream evaluationKinds s (assignUnposed r p s) := assignUnposed_downstream r p s
  unfold resolveReading
  split
  · split
    · exact placed (unposed _)
    split
    · split
      · exact placed (assignPosed_downstream r _ s)
      · exact placed (unposed _)
    split
    · unfold joinPending
      split
      · split
        · exact ⟨_, _, _, extrapolate_downstream _ (modPose _ s), rfl⟩
        · exact ⟨s.pose, _, s, .refl s, rfl⟩
      · exact ⟨s.pose, _, s, .refl s, rfl⟩
    · exact placed (extrapolate_downstream r s)
  · exact placed (unposed _)

theorem writeFactor_occurrences (r : CalRun) (o : CalOutcome) (x : Option Nat) (s : State) (k : EventKind) :
    occurrences (writeFactor r o x s) k = occurrences s k := by
  unfold writeFactor
  split <;> rfl

/-- R121: the end of a run raises CAL_DONE once, and neither of the kinds of a reading's flags. -/
theorem occurrences_endRun (r : CalRun) (o : CalOutcome) (x : Option Nat) (s : State) {k : EventKind}
    (hk : k ∈ evaluationKinds) :
    occurrences (endRun r o x s) k = if k = .calDone then min 65535 (occurrences s k + 1) else occurrences s k := by
  have offered (f : SummaryFrame) : ∀ j ∈ evaluationKinds,
      occurrences (offerSummary f (writeFactor r o x s)) j = occurrences s j := fun j hj =>
    ((offerSummary_downstream f _).counts j hj).trans (writeFactor_occurrences r o x s j)
  have lost : k ≠ .noticeLost := fun h => noticeLost_notMem (h ▸ hk)
  change occurrences (raise .calDone _ (offerSummary _ (writeFactor r o x s))) k = _
  rw [occurrences_raise lost, offered _ k hk, offered _ _ (by decide)]
  split
  next h => rw [h]
  next => rfl

/-- R117, R118: a reading taken by a run raises CAL_DONE at most. -/
theorem occurrences_runTakes (r : Reading) (s : State) {k : EventKind} (hk : k ∈ evaluationKinds) (notDone : k ≠ .calDone) :
    occurrences (runTakes r s) k = occurrences s k := by
  simp only [runTakes]
  split
  · rfl
  split
  · rw [(decideReading_downstream _ _).counts k hk, occurrences_endRun _ _ _ _ hk, if_neg notDone]
    rfl
  · exact (decideReading_downstream _ _).counts k hk

theorem endRun_evaluator (r : CalRun) (o : CalOutcome) (x : Option Nat) (s : State) :
    (endRun r o x s).evaluator = s.evaluator.map Evaluation.orphan := by
  have written : (writeFactor r o x s).evaluator = s.evaluator := by
    unfold writeFactor
    split <;> rfl
  simp [endRun, dropRun, written]

theorem runTakes_idle (r : Reading) {s : State} (idle : s.evaluator = none) : (runTakes r s).evaluator = none := by
  simp only [runTakes]
  split
  · exact idle
  split
  · rw [decideReading_evaluator, endRun_evaluator, State.setAgent_evaluator, idle]
    rfl
  · rw [decideReading_evaluator, State.setAgent_evaluator, idle]

/-- A reading handed on leaves the evaluator idle and the kinds of its flags uncounted. -/
theorem handOn_spec (tie : Tie) (r : Reading) {s : State} (idle : s.evaluator = none) :
    (handOn tie r s).evaluator = none ∧
    ∀ k ∈ [EventKind.flaw, .tempFallback], occurrences (handOn tie r s) k = occurrences s k := by
  have known : ∀ k ∈ [EventKind.flaw, .tempFallback], k ∈ evaluationKinds ∧ k ≠ .calDone := by decide
  cases tie with
  | ordinary =>
    obtain ⟨p, q, x, reached, h⟩ := resolveReading_reaches r s
    refine ⟨?_, fun k hk => ?_⟩
    · rw [handOn, h, State.setPose_evaluator, reached.evaluator]; exact idle
    · rw [handOn, h]; exact reached.counts k (known k hk).1
  | run => exact ⟨runTakes_idle r idle, fun k hk => occurrences_runTakes r s (known k hk).1 (known k hk).2⟩
  | runEnded => exact ⟨idle, fun _ _ => rfl⟩

/-- What follows the hand-over of a reading leaves the evaluator alone and counts no kind but those of its flags. -/
theorem completion_rest (ev : Evaluation) (x : State) :
    let u := examineBoth (decideMirror { trace := ev.trace, reading := evaluate ev } (withFlagEvents ev x))
    u.evaluator = x.evaluator ∧ u.agent = x.agent ∧
      ∀ k ∈ evaluationKinds, occurrences u k = occurrences (withFlagEvents ev x) k := by
  intro u
  have rest : Downstream evaluationKinds (withFlagEvents ev x) u :=
    (decideMirror_downstream _ _).trans (examineBoth_downstream _)
  exact ⟨rest.evaluator.trans (withFlagEvents_downstream ev x).evaluator,
    rest.agent.trans (withFlagEvents_downstream ev x).agent, rest.counts⟩

theorem completion_raises_flags {s : State} {ev : Evaluation} (busy : s.evaluator = some ev) :
    let flags := (evaluate ev).flags
    ∃ u, exec .evaluationCompletion s = .next u ∧ u.evaluator = none ∧
      occurrences u .flaw =
        (if flags.flaw = true then min 65535 (occurrences s .flaw + 1) else occurrences s .flaw) ∧
      occurrences u .tempFallback =
        (if flags.tempFallback = true then min 65535 (occurrences s .tempFallback + 1) else occurrences s .tempFallback) := by
  obtain ⟨idle, counts⟩ := handOn_spec ev.tie (evaluate ev) (s := s.setEvaluator none) rfl
  obtain ⟨evaluator, -, kept⟩ := completion_rest ev (handOn ev.tie (evaluate ev) (s.setEvaluator none))
  refine ⟨_, exec_evaluationCompletion busy, ?_, ?_, ?_⟩
  all_goals rw [completeEvaluation_eq]
  · exact evaluator.trans idle
  · rw [kept .flaw (by decide), occurrences_withFlagEvents ev _ (by decide), counts .flaw (by decide)]
    simp only [reduceCtorEq, true_and, false_and, or_false]
    rfl
  · rw [kept .tempFallback (by decide), occurrences_withFlagEvents ev _ (by decide), counts .tempFallback (by decide)]
    simp only [reduceCtorEq, true_and, false_and, false_or]
    rfl

/-! ### The statement -/

/-- R149, R152: with the mirror policy OFF the reading policy alone decides. -/
theorem completion_by_reading_policy {s : State} {ev : Evaluation} (busy : s.evaluator = some ev)
    (tie : ev.tie = .ordinary) (short : s.pose.ring.length < 2) (a : s.tubes.a = none) (b : s.tubes.b = none)
    (off : (outputOf s ev.trace.head).mirror = .off) :
    exec .evaluationCompletion s =
      .next (withFlagEvents ev (decideReading { evaluate ev with placement := some .noPose } (s.setEvaluator none))) := by
  rw [completion_alone busy tie short a b, decideMirror_off]
  rw [outputOf_withFlagEvents, outputOf, decideReading_agent]
  exact off

/-- R153: with the reading policy OFF the mirror policy alone decides, after the events. -/
theorem completion_by_mirror_policy {s : State} {ev : Evaluation} (busy : s.evaluator = some ev)
    (tie : ev.tie = .ordinary) (short : s.pose.ring.length < 2) (a : s.tubes.a = none) (b : s.tubes.b = none)
    (off : (outputOf s ev.trace.head).reading = .off) :
    exec .evaluationCompletion s =
      .next (decideMirror { trace := ev.trace, reading := evaluate ev } (withFlagEvents ev (s.setEvaluator none))) := by
  rw [completion_alone busy tie short a b,
    decideReading_off (s := s.setEvaluator none) (by rw [evaluate_head]; exact off)]

/-- A TRACE_MIRROR frame queued with its head's counter stored. -/
theorem offerMirror_counted {m : MirrorFrame} {s : State} {x : MillPort} (d : Vector Decimation 8) (up : x.link = .up)
    (room : x.mirrorQ.length < 8) :
    offerMirror m (s.setMill { x with decimation := d }) =
      s.setMill { x with decimation := d, mirrorQ := x.mirrorQ ++ [m] } := offerMirror_room up room

/-- Settles O42: a completion is the reading's placement and decision, the events of its flags and the MIRROR decision; each
policy by its own equation. -/
theorem evaluationCompletesWithoutAPose : Obligations.EvaluationCompletesWithoutAPose := by
  refine ⟨?_, ?_, fun s ev busy => completion_raises_flags busy⟩
  · intro s ev p r idle sent completing quiet reporting unposed
    exact ⟨fun c t => completion_unposed_live completing quiet reporting unposed,
      completion_unposed_alone completing quiet reporting unposed⟩
  intro s ev r h o d idle m drop sent mirror ends raised x mirrors mirrored busy tie short a b
  have head : sent.head = h := evaluate_head ev
  refine ⟨fun off => ?_, fun off => ?_⟩
  · have decided {u : State} (hu : decideReading sent idle = u) : ends u :=
      hu ▸ completion_by_reading_policy busy tie short a b off
    refine ⟨fun policy => decided ?_, fun policy => ?_, fun policy => ⟨fun below => decided ?_, fun reached => ?_⟩⟩
    · rcases policy with policy | ⟨policy, invalid⟩
      · exact decideReading_off (by rw [head]; exact policy)
      · rw [decideReading_validOnly (by rw [head]; exact policy)]
        exact if_neg invalid
    · have offered : decideReading sent idle = offerReading sent idle := by
        rcases policy with policy | ⟨policy, valid⟩
        · exact decideReading_all (by rw [head]; exact policy)
        · rw [decideReading_validOnly (by rw [head]; exact policy)]
          exact if_pos valid
      exact ⟨fun up room => decided (offered.trans (offerReading_room up room)),
        fun full => decided (offered.trans (offerReading_dropped full))⟩
    · rw [decideReading_counts (by rw [head]; exact policy) (by rw [head]; exact below), head]
      rfl
    · have offered := decideReading_everyN (r := sent) (s := idle) (by rw [head]; exact policy) (by rw [head]; exact reached)
      rw [head] at offered
      exact ⟨fun up room => decided (offered.trans (offerReading_room up room)),
        fun full => decided (offered.trans (offerReading_dropped full))⟩
  · have decided {y : MillPort} (hy : decideMirror mirror raised = raised.setMill y) : mirrors y :=
      (completion_by_mirror_policy busy tie short a b off).trans (congrArg Host.Outcome.next hy)
    have output : outputOf raised h = o := outputOf_withFlagEvents ev idle h
    have counters : decimationOf raised h = d := decimationOf_withFlagEvents ev idle h
    have only : NoticeOnly idle raised := withFlagEvents_noticeOnly ev idle
    have up_iff : raised.mill.link = m.link := only.link
    have queue : raised.mill.mirrorQ = m.mirrorQ := only.mirrorQ
    have counts (n : Nat) : modDecimation h (fun e => { e with mirror := n }) raised =
        raised.setMill { x with decimation := tableSet m.decimation h { d with mirror := n } } := by
      rw [modDecimation, tableMod, show tableGet raised.mill.decimation h = d from counters, only.decimation]
      rfl
    refine ⟨fun policy => ⟨fun passes => ?_, fun sends => ?_⟩, fun policy => ⟨fun below => ?_, fun reached => ?_⟩⟩
    · exact decided (decideMirror_passes (by rw [output]; exact policy) (by rw [output]; exact passes))
    · have offered : decideMirror mirror raised = offerMirror mirror raised :=
        decideMirror_sends (by rw [output]; exact sends)
      refine ⟨fun up room => decided ?_, fun full => decided ?_⟩
      · rw [offered, offerMirror_room (up_iff.trans up) (by rw [queue]; exact room), queue]
      · exact offered.trans (offerMirror_dropped (by rw [up_iff, queue]; exact full))
    · have counted := decideMirror_counts (m := mirror) (s := raised) (by rw [output]; exact policy)
        (by rw [output, counters]; exact below)
      rw [show decimationOf raised mirror.trace.head = d from counters] at counted
      exact decided (counted.trans (counts _))
    · have offered : decideMirror mirror raised =
          offerMirror mirror (raised.setMill { x with decimation := tableSet m.decimation h { d with mirror := 0 } }) :=
        (decideMirror_everyN (by rw [output]; exact policy) (by rw [output, counters]; exact reached)).trans
          (congrArg (offerMirror mirror) (counts _))
      refine ⟨fun up room => decided (offered.trans ?_), fun full => decided (offered.trans ?_)⟩
      · have fits : x.mirrorQ.length < 8 := by rw [queue]; exact room
        rw [offerMirror_counted _ (up_iff.trans up) fits, show x.mirrorQ = m.mirrorQ from queue]
      · exact offerMirror_dropped (by rw [State.setMill_mill, up_iff, queue]; exact full)

end Sys2Proof.Machine
end

section
/-! The calibration run (R117, R118, R121): a reading counted in its band or passed over, the completion that ends the run, and
what the two output decisions leave of the other queues. -/

namespace Sys2Proof.Machine

/-! ### What the output decisions leave of the Mill Port -/

theorem offerReading_mill (r : Reading) (s : State) :
    ∃ q c, (offerReading r s).mill = { s.mill with readingQ := q, counters := c } := by
  unfold offerReading
  split <;> exact ⟨_, _, rfl⟩

theorem offerMirror_mill (m : MirrorFrame) (s : State) :
    ∃ q c, (offerMirror m s).mill = { s.mill with mirrorQ := q, counters := c } := by
  unfold offerMirror
  split <;> exact ⟨_, _, rfl⟩

/-- R149, R152: the READING decision reaches its own queue, its counter and the dropped frames. -/
theorem decideReading_mill (r : Reading) (s : State) :
    ∃ q c d, (decideReading r s).mill = { s.mill with readingQ := q, counters := c, decimation := d } := by
  have offered (x : State) (d) (h : x.mill = { s.mill with decimation := d }) :
      ∃ q c d, (offerReading r x).mill = { s.mill with readingQ := q, counters := c, decimation := d } := by
    obtain ⟨q, c, e⟩ := offerReading_mill r x
    exact ⟨q, c, d, by rw [e, h]⟩
  simp only [decideReading]
  split
  next => exact ⟨_, _, _, rfl⟩
  next => exact offered s _ rfl
  next =>
    split
    · exact offered s _ rfl
    · exact ⟨_, _, _, rfl⟩
  next =>
    split
    · exact offered _ _ rfl
    · exact ⟨_, _, _, rfl⟩

/-- R149, R153: the MIRROR decision reaches its own queue, its counter and the dropped frames. -/
theorem decideMirror_mill (m : MirrorFrame) (s : State) :
    ∃ q c d, (decideMirror m s).mill = { s.mill with mirrorQ := q, counters := c, decimation := d } := by
  have offered (x : State) (d) (h : x.mill = { s.mill with decimation := d }) :
      ∃ q c d, (offerMirror m x).mill = { s.mill with mirrorQ := q, counters := c, decimation := d } := by
    obtain ⟨q, c, e⟩ := offerMirror_mill m x
    exact ⟨q, c, d, by rw [e, h]⟩
  simp only [decideMirror]
  split
  next => exact ⟨_, _, _, rfl⟩
  next =>
    split
    · exact ⟨_, _, _, rfl⟩
    · exact offered s _ rfl
  next =>
    split
    · exact offered s _ rfl
    · exact ⟨_, _, _, rfl⟩
  next =>
    split
    · exact offered _ _ rfl
    · exact ⟨_, _, _, rfl⟩

theorem decideReading_summaryQ (r : Reading) (s : State) : (decideReading r s).mill.summaryQ = s.mill.summaryQ := by
  obtain ⟨q, c, d, e⟩ := decideReading_mill r s
  rw [e]

theorem decideMirror_summaryQ (m : MirrorFrame) (s : State) : (decideMirror m s).mill.summaryQ = s.mill.summaryQ := by
  obtain ⟨q, c, d, e⟩ := decideMirror_mill m s
  rw [e]

theorem decideMirror_readingQ (m : MirrorFrame) (s : State) : (decideMirror m s).mill.readingQ = s.mill.readingQ := by
  obtain ⟨q, c, d, e⟩ := decideMirror_mill m s
  rw [e]

/-! ### The run and its reading (R117) -/

theorem CalRun.take_counts {x : CalRun} {r : Reading} {d : Nat} (thickness : r.thickness = some d)
    (low : x.reference * 4 ≤ d * 5) (high : d * 5 ≤ x.reference * 6) : x.take r = x.count d := by
  rw [CalRun.take, thickness]
  exact if_pos ((inBand_iff _ _).mpr ⟨low, high⟩)

theorem CalRun.take_skips {x : CalRun} {r : Reading}
    (out : r.thickness = none ∨ ∃ d, r.thickness = some d ∧ (d * 5 < x.reference * 4 ∨ x.reference * 6 < d * 5)) :
    x.take r = x.skip := by
  rcases out with none | ⟨d, thickness, out⟩
  · rw [CalRun.take, none]
  · rw [CalRun.take, thickness]
    exact if_neg fun band => by have := (inBand_iff _ _).mp band; omega

/-- R117: the extremes after a counted thickness. -/
theorem calRun_count_eq (x : CalRun) (d : Nat) :
    x.count d = { x with counted := x.counted + 1, sum := x.sum + d, min := some (min (x.min.getD d) d),
                         max := some (max (x.max.getD d) d) } := by
  have lowest : (x.count d).min = some (min (x.min.getD d) d) := by
    rw [CalRun.count]
    cases x.min with
    | none => simp
    | some m => rfl
  have highest : (x.count d).max = some (max (x.max.getD d) d) := by
    rw [CalRun.count]
    cases x.max with
    | none => simp
    | some m => rfl
  rw [← lowest, ← highest]
  rfl

/-- R117: a reading that leaves the run in progress. -/
theorem runTakes_goesOn {s : State} {x : CalRun} {r : Reading} (run : s.agent.run = some x)
    (goesOn : ¬((x.take r).counted ≠ x.counted ∧ (x.take r).counted = x.traces)) :
    runTakes r s =
      decideReading { r with placement := some .calibration } (s.setAgent { s.agent with run := some (x.take r) }) := by
  simp only [runTakes, run, CalRun.take_traces]
  exact if_neg goesOn

/-- R117, R118: the reading that completes the run. -/
theorem runTakes_completes {s : State} {x : CalRun} {r : Reading} {d : Nat} (run : s.agent.run = some x)
    (took : x.take r = x.count d) (last : x.counted + 1 = x.traces) :
    runTakes r s =
      decideReading { r with placement := some .calibration } (endRun (x.count d) (x.count d).verdict.1 (x.count d).verdict.2
        (s.setAgent { s.agent with run := some (x.count d) })) := by
  simp only [runTakes, run, took]
  exact if_pos ⟨Nat.succ_ne_self _, last⟩

/-- R152: the reading of a run, offered where its head's policy sends it. -/
theorem decideReading_offeredByRun {r : Reading} {s : State} (policy : (outputOf s r.head).reading ≠ .everyN)
    (up : s.mill.link = .up) (room : s.mill.readingQ.length < 64) :
    decideReading { r with placement := some .calibration } s = offeredByRun r s := by
  have sent := offerReading_room (r := { r with placement := some .calibration }) up room
  cases h : (outputOf s r.head).reading with
  | everyN => exact absurd h policy
  | off => rw [decideReading_off (by exact h), offeredByRun, h]; simp
  | all => rw [decideReading_all (by exact h), offeredByRun, h, sent]; simp
  | validOnly =>
    rw [decideReading_validOnly (by exact h), offeredByRun, h, sent]
    simp

/-! ### The end of a run (R118, R121) -/

/-- R118: the verdict by the spread and the new factor. -/
theorem calRun_verdict_count {x : CalRun} {d : Nat} (last : x.counted + 1 = x.traces) :
    let spread := max (x.max.getD d) d - min (x.min.getD d) d
    let measured := roundHalfUp (x.sum + d) x.traces
    let k := roundHalfUp (65536 * x.reference) measured
    (x.count d).measured = some measured ∧ (x.count d).spread = some spread ∧
    (x.count d).verdict =
      (if x.tolerance < spread then (.unstable, none)
       else if 58982 ≤ k ∧ k ≤ 72090 then (.applied, some k) else (.outOfRange, some k)) := by
  intro spread measured k
  have counted : (x.count d).measured = some measured := by
    have some : (x.count d).counted ≠ 0 := Nat.succ_ne_zero _
    rw [CalRun.measured, if_neg some, show (x.count d).counted = x.traces from last]
    rfl
  have spreads : (x.count d).spread = some spread := by rw [CalRun.spread, calRun_count_eq]
  refine ⟨counted, spreads, ?_⟩
  simp only [CalRun.verdict, counted, spreads]
  rfl

/-- R121 step 1: the factor written touches nothing but the head's factor. -/
theorem writeFactor_eq (r : CalRun) (o : CalOutcome) (k : Option Nat) (s : State) :
    ∃ calib, writeFactor r o k s = s.setAgent { s.agent with calib := calib } := by
  unfold writeFactor
  split <;> exact ⟨_, rfl⟩

/-- R118: the factor is written exactly by an APPLIED verdict. -/
theorem writeFactor_calib (r : CalRun) (s : State) :
    (writeFactor r r.verdict.1 r.verdict.2 s).agent.calib =
      if r.verdict.1 = .applied then tableSet s.agent.calib r.head (r.verdict.2.getD 0) else s.agent.calib := by
  simp only [CalRun.verdict]
  split
  · rfl
  split <;> rfl

theorem countDropped_noticeOnly (cl : Fin 6) (s : State) : NoticeOnly s (countDropped cl s) :=
  ⟨⟨_, _, rfl⟩, fun _ => ⟨Tube.worstSeen, by simp [tubeAt]⟩⟩

/-- R149: a frame of the SUMMARY class leaves the READING class queue and the stages alone. -/
theorem offerSummary_keeps (f : SummaryFrame) (s : State) :
    (offerSummary f s).mill.link = s.mill.link ∧ (offerSummary f s).mill.readingQ = s.mill.readingQ ∧
    ∀ c g, stageIs (offerSummary f s) c g = stageIs s c g := by
  unfold offerSummary
  split
  · exact ⟨rfl, rfl, fun _ _ => rfl⟩
  · have only : NoticeOnly s (raise .summaryLost f.lostDetail (countDropped summaryClass s)) :=
      (countDropped_noticeOnly _ s).trans (raise_noticeOnly _ _ _)
    exact ⟨only.link, only.readingQ, only.stageIs⟩

section
variable (r : CalRun) (o : CalOutcome) (k : Option Nat) (s : State)

/-- R121: after the CAL_RESULT frame the end of a run is an occurrence and the record back to NONE. -/
theorem endRun_reaches :
    ∃ t, NoticeOnly (offerSummary (.calResult (calResultOf r o k s)) (writeFactor r o k s)) t ∧ endRun r o k s = dropRun t :=
  ⟨_, raise_noticeOnly _ _ _, rfl⟩

theorem endRun_agent : (endRun r o k s).agent = { (writeFactor r o k s).agent with run := none } := by
  simp [endRun, dropRun]

theorem endRun_keeps :
    (endRun r o k s).mill.link = s.mill.link ∧ (endRun r o k s).mill.readingQ = s.mill.readingQ ∧
    ∀ c g, stageIs (endRun r o k s) c g = stageIs s c g := by
  obtain ⟨calib, written⟩ := writeFactor_eq r o k s
  obtain ⟨t, only, ends⟩ := endRun_reaches r o k s
  obtain ⟨link, readingQ, stage⟩ := offerSummary_keeps (.calResult (calResultOf r o k s)) (writeFactor r o k s)
  have dropped : (dropRun t).mill = t.mill ∧ ∀ c g, stageIs (dropRun t) c g = stageIs t c g := ⟨rfl, fun _ _ => rfl⟩
  rw [ends, dropped.1, only.link, only.readingQ, link, readingQ, written]
  refine ⟨rfl, rfl, fun c g => ?_⟩
  rw [dropped.2, only.stageIs, stage, written]
  rfl

/-- R121: the CAL_RESULT frame joins its queue where there is room. -/
theorem endRun_summaryQ (room : s.mill.summaryQ.length < 32) :
    (endRun r o k s).mill.summaryQ = s.mill.summaryQ ++ [.calResult (calResultOf r o k s)] := by
  obtain ⟨calib, written⟩ := writeFactor_eq r o k s
  obtain ⟨t, only, ends⟩ := endRun_reaches r o k s
  have dropped : (dropRun t).mill = t.mill := rfl
  rw [ends, dropped, only.summaryQ, written]
  exact congrArg (fun x : State => x.mill.summaryQ) (if_pos room)

end

/-! ### The statement -/

/-- R117, R118, R121: the completion that brings the counted number to K. -/
theorem completion_ends_run {s : State} {ev : Evaluation} {x : CalRun} {d : Nat} (busy : s.evaluator = some ev)
    (tie : ev.tie = .run) (run : s.agent.run = some x) (took : x.take (evaluate ev) = x.count d)
    (last : x.counted + 1 = x.traces) :
    let y := x.count d
    let idle := s.setEvaluator none
    let begun := idle.setAgent { s.agent with run := some y }
    ∃ u, exec .evaluationCompletion s = .next u ∧ u.evaluator = none ∧
      u.agent = { (writeFactor y y.verdict.1 y.verdict.2 begun).agent with run := none } ∧
      occurrences u .calDone = min 65535 (occurrences s .calDone + 1) ∧
      (s.mill.summaryQ.length < 32 → Quiet s →
        u.mill.summaryQ = s.mill.summaryQ ++ [.calResult (calResultOf y y.verdict.1 y.verdict.2 begun)]) ∧
      (Reporting 1 s → Quiet s →
        u.mill.readingQ = s.mill.readingQ ++ [{ evaluate ev with placement := some .calibration }]) := by
  intro y idle begun
  let ended := endRun y y.verdict.1 y.verdict.2 begun
  let offered : Reading := { evaluate ev with placement := some .calibration }
  have handed : handOn ev.tie (evaluate ev) idle = decideReading offered ended := by
    rw [tie]
    exact runTakes_completes (s := idle) run took last
  have agent : ended.agent = { (writeFactor y y.verdict.1 y.verdict.2 begun).agent with run := none } :=
    endRun_agent ..
  obtain ⟨link, readingQ, stage⟩ := endRun_keeps y y.verdict.1 y.verdict.2 begun
  obtain ⟨evaluator, kept, counts⟩ := completion_rest ev (decideReading offered ended)
  have done : exec .evaluationCompletion s = .next (examineBoth
      (decideMirror { trace := ev.trace, reading := evaluate ev } (withFlagEvents ev (decideReading offered ended)))) := by
    rw [exec_evaluationCompletion busy, completeEvaluation_eq, handed]
  have settled (quiet : Quiet s) : Quiet (decideReading offered ended) := by
    have still : Quiet ended := ⟨(stage _ _).trans quiet.1, (stage _ _).trans quiet.2⟩
    unfold Quiet stageIs tubeAt at *
    rwa [decideReading_tubes]
  have mill (quiet : Quiet s) := Host.Outcome.next.inj (done.symm.trans (completion_of_quiet busy handed (settled quiet)))
  refine ⟨_, done, ?_, ?_, ?_, fun room quiet => ?_, fun reporting quiet => ?_⟩
  · rw [evaluator, ← handed]
    exact (handOn_spec ev.tie (evaluate ev) rfl).1
  · rw [kept, decideReading_agent, agent]
  · rw [counts .calDone (by decide), occurrences_withFlagEvents ev _ (by decide)]
    simp only [reduceCtorEq, false_and, or_self, if_false]
    rw [occurrences, decideReading_events]
    exact (occurrences_endRun _ _ _ _ (by decide)).trans (if_pos rfl)
  · rw [mill quiet, decideMirror_summaryQ, (withFlagEvents_noticeOnly ev _).summaryQ, decideReading_summaryQ]
    exact endRun_summaryQ y _ _ begun room
  · obtain ⟨all, up, room⟩ := reporting
    have policy : (outputOf ended offered.head).reading = .all := by
      obtain ⟨calib, written⟩ := writeFactor_eq y y.verdict.1 y.verdict.2 begun
      rw [outputOf, agent, written]
      exact all _
    have queue : ended.mill.readingQ = s.mill.readingQ := readingQ
    rw [mill quiet, decideMirror_readingQ, (withFlagEvents_noticeOnly ev _).readingQ,
      decideReading_sent policy (link.trans up) (by rw [queue]; exact room)]
    exact congrArg (· ++ [offered]) queue

/-- R117: a completion that leaves the run in progress. -/
theorem completion_within_run {s : State} {ev : Evaluation} {x y : CalRun} (completing : Completing .run ev s)
    (run : s.agent.run = some x) (quiet : Quiet s) (policy : (outputOf s (evaluate ev).head).reading ≠ .everyN)
    (up : s.mill.link = .up) (room : s.mill.readingQ.length < 64) (took : x.take (evaluate ev) = y)
    (goesOn : ¬(y.counted ≠ x.counted ∧ y.counted = x.traces)) :
    exec .evaluationCompletion s =
      .next (withFlagEvents ev (offeredByRun (evaluate ev)
        ((s.setEvaluator none).setAgent { s.agent with run := some y }))) := by
  obtain ⟨busy, tie, mirror⟩ := completing
  have handed : handOn ev.tie (evaluate ev) (s.setEvaluator none) =
      offeredByRun (evaluate ev) ((s.setEvaluator none).setAgent { s.agent with run := some y }) := by
    rw [tie, ← took]
    exact (runTakes_goesOn (s := s.setEvaluator none) run (by rw [took]; exact goesOn)).trans
      (decideReading_offeredByRun policy up room)
  refine completion_unmirrored busy handed ?_ ?_
  · unfold offeredByRun
    split <;> exact quiet
  · unfold offeredByRun
    split <;> exact mirror _

/-- Settles O57: the reading counted or passed over, the verdict of the counted figures, and the end of the run. -/
theorem calibrationRunCompletes : Obligations.CalibrationRunCompletes := by
  refine ⟨?_, ?_, ?_⟩
  · intro s ev x d mn mx measured k stable fits busy tie run thickness low high last
    have took := CalRun.take_counts (x := x) thickness low high
    obtain ⟨u, done, idle, agent, count, summary, reading⟩ := completion_ends_run busy tie run took last
    obtain ⟨mean, spread, verdict⟩ := calRun_verdict_count (d := d) last
    have decided : (x.count d).verdict =
        (if stable then (if fits then .applied else .outOfRange) else .unstable, if stable then some k else none) := by
      rw [verdict]
      by_cases hs : stable
      · rw [if_neg (not_lt.mpr hs), if_pos hs, if_pos hs]
        by_cases hf : fits
        · exact (if_pos hf).trans (by rw [if_pos hf])
        · exact (if_neg hf).trans (by rw [if_neg hf])
      · rw [if_pos (not_le.mp hs), if_neg hs, if_neg hs]
    refine ⟨u, done, idle, by rw [agent], ?_, count, fun room quiet => ?_, reading⟩
    · rw [agent]
      refine (writeFactor_calib _ _).trans ?_
      rw [decided]
      by_cases hs : stable <;> by_cases hf : fits <;> simp [hs, hf, CalRun.count]
    · rw [summary room quiet, calResultOf, mean, spread, decided]
      by_cases hs : stable <;> simp [hs, CalRun.count, last, mx, mn, measured, age, State.now]
  · intro s ev x r idle taken completing run quiet policy up room
    refine ⟨fun d thickness low high below => ?_, fun out => ?_⟩
    · refine completion_within_run completing run quiet policy up room
        ((CalRun.take_counts thickness low high).trans (calRun_count_eq x d)) fun last => below last.2
    · exact completion_within_run completing run quiet policy up room (CalRun.take_skips out) fun last => last.1 rfl
  · intro s ev completing quiet
    obtain ⟨busy, tie, mirror⟩ := completing
    exact completion_unmirrored busy (by rw [tie]; rfl) quiet (mirror _)

end Sys2Proof.Machine
end

section
/-! The span a time falls in (R69), the coordinates of R55, and the pose of a reading between two samples (R48, R49): what a
reading with a pose meets before it is placed. -/

namespace Sys2Proof.Machine

/-! ### Spans (R69) -/

/-- R69: looking a context's span up is the same as falling in it. -/
theorem spanAt_iff (s : State) (time : Time) (c : Ctx) (x : Span) : spanAt s time c = some x ↔ FallsIn s time c x := by
  unfold spanAt FallsIn
  cases tube : tubeAt s c with
  | none =>
    cases retired : s.tubes.retired c with
    | none => simp
    | some r => simp [spanContains, and_assoc, eq_comm (b := x)]
  | some t =>
    cases stage : t.stage with
    | active => simp [stage, eq_comm (b := x)]
    | settling | closedWait | draining =>
      cases ended : t.ended with
      | none => simp [stage, ended]
      | some e => simp [stage, ended, spanContains, and_assoc, eq_comm (b := x)]

theorem spanOf_eq (s : State) (time : Time) (c : Ctx) (other : spanAt s time (otherCtx c) = none) :
    spanOf s time = spanAt s time c := by
  cases c
  · exact (congrArg (Option.or _) other).trans (Option.or_none ..)
  · exact (congrArg (Option.or · _) other).trans (Option.none_or ..)

theorem spanOf_fallsIn (s : State) (time : Time) :
    (∀ x, spanOf s time = some x → ∃ c, FallsIn s time c x) ∧ (spanOf s time = none → ∀ c x, ¬FallsIn s time c x) ∧
    (∀ c x, FallsIn s time c x → (∀ y, ¬FallsIn s time (otherCtx c) y) → spanOf s time = some x) := by
  simp only [← spanAt_iff]
  refine ⟨fun x h => ?_, fun h c x => ?_, fun c x h other => ?_⟩
  · rcases Option.or_eq_some_iff.mp h with h | ⟨_, h⟩
    · exact ⟨.a, h⟩
    · exact ⟨.b, h⟩
  · obtain ⟨a, b⟩ := Option.or_eq_none_iff.mp h
    cases c
    · simp [a]
    · simp [b]
  · rw [spanOf_eq s time c (Option.eq_none_iff_forall_ne_some.mpr other), h]

/-! ### Coordinates (R55) -/

theorem latchedOffsets_of_mem {t : Tube} {l : LatchedHead} (mem : l ∈ t.heads) (once : (t.heads.map LatchedHead.head).Nodup) :
    latchedOffsets t l.head = (l.angleOffset, l.axialOffset) := by
  have found : t.heads.find? (fun x => x.head == l.head) = some l := by
    generalize t.heads = heads at mem once
    induction heads with
    | nil => cases mem
    | cons x rest ih =>
      obtain ⟨new, once⟩ := List.nodup_cons.mp once
      rcases List.mem_cons.mp mem with rfl | mem
      · simp
      · have ne : x.head ≠ l.head := fun h => new (h ▸ List.mem_map_of_mem mem)
        rw [List.find?_cons_of_neg (by simpa using ne)]
        exact ih mem once
  simp [latchedOffsets, found]

theorem sectorOf_lt {t : Tube} (h : HeadNo) (angle : Nat) (some : 1 ≤ t.setup.sectors) :
    sectorOf t h angle < t.setup.sectors := by
  have turn : (angle + (latchedOffsets t h).1) % 4096 < 4096 := Nat.mod_lt _ (by decide)
  rw [sectorOf, Nat.div_lt_iff_lt_mul (by decide), Nat.mul_comm t.setup.sectors]
  exact (Nat.mul_lt_mul_right some).mpr turn

theorem binOf_eq (t : Tube) {x : Int} (h : 0 ≤ x) : (binOf t x : Int) = x / t.setup.binLen := by
  rw [binOf, Int.natCast_ediv, Int.toNat_of_nonneg h]

/-! ### A pose between two samples (R49) -/

theorem notLater_antisymm {a b : Time} (h : notLater a b = true) (h' : notLater b a = true) : a = b := by
  simp only [notLater, decide_eq_true_eq] at h h'
  bv_omega

theorem roundHalfAway_exact (k : Int) {d : Int} (hd : d ≠ 0) : roundHalfAway (k * d) d = k := by
  have near := roundHalfAway_nearest (k * d) hd
  rw [← Int.sub_mul, Int.natAbs_mul] at near
  have pos : 0 < d.natAbs := Int.natAbs_pos.mpr hd
  have none : (k - roundHalfAway (k * d) d).natAbs = 0 := by
    by_contra some
    have : 1 * d.natAbs ≤ (k - roundHalfAway (k * d) d).natAbs * d.natAbs :=
      Nat.mul_le_mul_right _ (Nat.one_le_iff_ne_zero.mpr some)
    omega
  omega

theorem span_ne_zero {a b : Time} (h : b ≠ a) : ((b - a).toNat : Int) ≠ 0 := by
  have : (b - a).toNat ≠ 0 := fun zero => h (by bv_omega)
  omega

theorem poseAt_first {x y : Sample} (h : y.timestamp ≠ x.timestamp) :
    poseAt x y x.timestamp = { angle := x.angle % 4096, travel := x.travel } := by
  have still : ((x.timestamp - x.timestamp).toNat : Int) = 0 := by simp
  have none := roundHalfAway_exact 0 (span_ne_zero h)
  rw [Int.zero_mul] at none
  simp only [poseAt, still, Int.mul_zero, none, Int.add_zero, Pose.mk.injEq, and_true]
  omega

/-- Where two samples differ in time, the pose at the second is the second's. -/
theorem poseAt_second {x y : Sample} (h : y.timestamp ≠ x.timestamp) :
    poseAt x y y.timestamp = { angle := y.angle % 4096, travel := y.travel } := by
  have step : ((x.angle : Int) + angleStep x.angle y.angle) % 4096 = (y.angle : Int) % 4096 := by
    simp only [angleStep]
    split <;> omega
  simp only [poseAt, roundHalfAway_exact _ (span_ne_zero h), step, Pose.mk.injEq]
  omega

theorem ne_of_laterThan {a b : Time} (h : laterThan b a = true) : b ≠ a := by
  rintro rfl
  simp [laterThan, notLater] at h

theorem bracket_reached {x y : Sample} {time : Time} (m : List Sample) (h : notLater time y.timestamp = true) :
    bracket time (x :: y :: m) = some (x, y) := by
  cases m with
  | nil => rfl
  | cons z m => exact if_pos h

theorem bracket_passed {a b c : Sample} {time : Time} {m : List Sample} (h : ¬notLater time b.timestamp = true) :
    bracket time (a :: b :: c :: m) = bracket time (b :: c :: m) := if_neg h

/-- R49: the samples that bracket a time give its pose; at a shared sample both neighbours give the same. -/
theorem bracket_pose {x y : Sample} {time : Time} {m : List Sample} (after : notLater time y.timestamp = true) :
    ∀ l : List Sample, (l ++ x :: y :: m).IsChain (fun a b => laterThan b.timestamp a.timestamp = true) →
    (∀ z ∈ l ++ [x], notLater z.timestamp time = true) →
    ∃ a b, bracket time (l ++ x :: y :: m) = some (a, b) ∧ poseAt a b time = poseAt x y time
  | [], _, _ => ⟨x, y, bracket_reached m after, rfl⟩
  | [a], chain, before => by
    by_cases reached : notLater time x.timestamp = true
    · obtain rfl : x.timestamp = time := notLater_antisymm (before x (by simp)) reached
      have later : laterThan x.timestamp a.timestamp = true := (List.isChain_cons_cons.mp chain).1
      have latest : laterThan y.timestamp x.timestamp = true := (List.isChain_cons_cons.mp chain.tail).1
      exact ⟨a, x, bracket_reached _ reached,
        (poseAt_second (ne_of_laterThan later)).trans (poseAt_first (ne_of_laterThan latest)).symm⟩
    · obtain ⟨p, q, found, pose⟩ := bracket_pose after [] chain.tail fun z hz => before z (List.mem_cons_of_mem _ hz)
      exact ⟨p, q, (bracket_passed reached).trans found, pose⟩
  | a :: b :: l, chain, before => by
    have rest := bracket_pose after (b :: l) chain.tail fun z hz => before z (List.mem_cons_of_mem _ hz)
    have passed : ¬notLater time b.timestamp = true := by
      intro reached
      obtain rfl : b.timestamp = time := notLater_antisymm (before b (by simp)) reached
      have later : ∀ z ∈ (l ++ x :: y :: m).head?, laterThan z.timestamp b.timestamp = true :=
        fun z hz => by
          obtain ⟨w, hw⟩ := List.head?_eq_some_iff.mp hz
          have tail : (b :: (l ++ x :: y :: m)).IsChain (fun a b => laterThan b.timestamp a.timestamp = true) := chain.tail
          rw [hw] at tail
          exact (List.isChain_cons_cons.mp tail).1
      cases l with
      | nil => simpa [laterThan, before x (by simp)] using later x (by simp)
      | cons c l => simpa [laterThan, before c (by simp)] using later c (by simp)
    obtain ⟨p, q, found, pose⟩ := rest
    refine ⟨p, q, ?_, pose⟩
    rw [← found]
    cases l <;> exact bracket_passed passed

/-- R48, R49: a reading not earlier than the oldest sample and not later than the newest is interpolated. -/
theorem resolveReading_bracketed {s : State} {r : Reading} {oldest newest a b : Sample} (long : 2 ≤ s.pose.ring.length)
    (head : s.pose.ring.head? = some oldest) (last : s.pose.ring.getLast? = some newest)
    (late : laterThan oldest.timestamp r.timestamp = false) (covered : notLater r.timestamp newest.timestamp = true)
    (found : bracket r.timestamp s.pose.ring = some (a, b)) :
    resolveReading r s = assignPosed r (poseAt a b r.timestamp) s := by
  unfold resolveReading
  split
  next first second rest newest' ring last' =>
    obtain rfl : first = oldest := by simpa [ring] using head
    obtain rfl : newest' = newest := Option.some.inj (last'.symm.trans last)
    rw [if_neg (by simp [late]), if_pos covered, found]
  next none =>
    match ring : s.pose.ring with
    | [] | [_] => simp [ring] at long
    | x :: y :: rest => exact absurd last (none x y rest newest ring)

/-- R48, R49: a reading between two samples of the ring takes the pose they give. -/
theorem resolveReading_between {s : State} {x y : Sample} {r : Reading} (h : Between x y r.timestamp s) :
    resolveReading r s = assignPosed r (poseAt x y r.timestamp) s := by
  obtain ⟨chain, l, m, ring, before, after⟩ := h
  rw [ring] at chain
  obtain ⟨a, b, found, pose⟩ := bracket_pose (after y (by simp)) l chain before
  rw [← pose]
  have last : s.pose.ring.getLast? = some ((y :: m).getLast (by simp)) := by
    rw [ring, List.getLast?_append, List.getLast?_cons_cons, List.getLast?_eq_some_getLast (by simp)]
    rfl
  have covered := after _ (List.getLast_mem (l := y :: m) (by simp))
  have bracketed {oldest : Sample} (head : s.pose.ring.head? = some oldest) (mem : oldest ∈ l ++ [x]) :
      resolveReading r s = assignPosed r (poseAt a b r.timestamp) s :=
    resolveReading_bracketed (by simp [ring]; omega) head last (by simp [laterThan, before oldest mem]) covered (ring ▸ found)
  cases l with
  | nil => exact bracketed (oldest := x) (by simp [ring]) (by simp)
  | cons z l => exact bracketed (oldest := z) (by simp [ring]) (by simp)

/-! ### A reading that no live tube takes (R70, R73) -/

theorem assignPosed_noTube {s : State} {r : Reading} (p : Pose) (span : spanOf s r.timestamp = none) :
    assignPosed r p s = decideReading { r with placement := some .noTube } s := by
  simp [assignPosed, span]

theorem assignPosed_late {s : State} {r : Reading} {id : TubeId} (p : Pose)
    (span : spanOf s r.timestamp = some (.late id)) :
    assignPosed r p s =
      decideReading { r with placement := some .late, tubeId := some id } (raise .lateReading (.tubeHead id r.head) s) := by
  simp [assignPosed, span]

theorem assignPosed_live {s : State} {r : Reading} {c : Ctx} {t : Tube} (p : Pose)
    (span : spanOf s r.timestamp = some (.live c)) (tube : tubeAt s c = some t) :
    assignPosed r p s = assignLive c t r p s := by
  simp [assignPosed, span, tube]

section
variable {s : State} {ev : Evaluation} {x y : Sample}

theorem completion_noTube (completing : Completing .ordinary ev s) (between : Between x y (evaluate ev).timestamp s)
    (quiet : Quiet s) (reporting : Reporting 1 s) (span : spanOf s (evaluate ev).timestamp = none) :
    exec .evaluationCompletion s =
      .next (withFlagEvents ev ((s.setEvaluator none).setMill
        { s.mill with readingQ := s.mill.readingQ ++ [{ evaluate ev with placement := some .noTube }] })) := by
  obtain ⟨busy, tie, mirror⟩ := completing
  obtain ⟨all, up, room⟩ := reporting
  refine completion_unmirrored busy ?_ quiet (mirror _)
  rw [tie]
  refine (resolveReading_between (s := s.setEvaluator none) between).trans ?_
  rw [assignPosed_noTube (s := s.setEvaluator none) _ span]
  exact decideReading_sent (s := s.setEvaluator none) (all _) up room

theorem completion_late {id : TubeId} (completing : Completing .ordinary ev s)
    (between : Between x y (evaluate ev).timestamp s) (quiet : Quiet s) (reporting : Reporting 1 s)
    (span : spanOf s (evaluate ev).timestamp = some (.late id)) :
    let raised := raise .lateReading (.tubeHead id (evaluate ev).head) (s.setEvaluator none)
    exec .evaluationCompletion s =
      .next (withFlagEvents ev (raised.setMill { raised.mill with
        readingQ := s.mill.readingQ ++ [{ evaluate ev with placement := some .late, tubeId := some id }] })) := by
  intro raised
  obtain ⟨busy, tie, mirror⟩ := completing
  obtain ⟨all, up, room⟩ := reporting
  have only : NoticeOnly (s.setEvaluator none) raised := raise_noticeOnly _ _ _
  have queue : raised.mill.readingQ = s.mill.readingQ := only.readingQ
  have output (h : HeadNo) : outputOf raised h = outputOf s h := by simp [outputOf, raised]
  refine completion_unmirrored busy ?_ (only.quiet quiet) ((congrArg OutputEntry.mirror (output _)).trans (mirror _))
  rw [tie]
  refine (resolveReading_between (s := s.setEvaluator none) between).trans ?_
  rw [assignPosed_late (s := s.setEvaluator none) _ span, ← queue]
  exact decideReading_sent ((congrArg OutputEntry.reading (output _)).trans (all _)) (only.link.trans up)
    (by rw [queue]; exact room)

end

end Sys2Proof.Machine
end

section
/-! The Wall Map under a reading (R85 to R92): directories and cells after one operation, a page given, and what the work on the
map leaves of the stages and of the READING class queue. -/

namespace Sys2Proof.Machine

/-! ### Directories (R86, R88, R92) -/

section
variable {d : List (Nat × DirEntry)} {n m : Nat} {e : DirEntry}

theorem dirLookup_cons (k : Nat) (x : DirEntry) (rest : List (Nat × DirEntry)) (n : Nat) :
    dirLookup ((k, x) :: rest) n = if k = n then some x else dirLookup rest n := by
  by_cases h : k = n <;> simp [dirLookup, h]

theorem dirLookup_dirInsert_same (absent : dirLookup d n = none) : dirLookup (dirInsert d n e) n = some e := by
  induction d with
  | nil => simp [dirInsert, dirLookup]
  | cons y rest ih =>
    obtain ⟨k, x⟩ := y
    rw [dirLookup_cons] at absent
    split at absent
    · cases absent
    next ne =>
      rw [dirInsert]
      split
      · simp [dirLookup_cons]
      · rw [dirLookup_cons, if_neg ne, ih absent]

theorem dirLookup_dirInsert_other (ne : m ≠ n) : dirLookup (dirInsert d n e) m = dirLookup d m := by
  induction d with
  | nil => simp [dirInsert, dirLookup, ne.symm]
  | cons y rest ih =>
    obtain ⟨k, x⟩ := y
    rw [dirInsert]
    split
    · rw [dirLookup_cons, if_neg ne.symm]
    · rw [dirLookup_cons, dirLookup_cons, ih]

theorem dirLookup_dirCount_same (present : dirLookup d n = some e) :
    dirLookup (dirCount d n) n = some { e with readings := min 65535 (e.readings + 1) } := by
  induction d with
  | nil => cases present
  | cons y rest ih =>
    obtain ⟨k, x⟩ := y
    rw [dirLookup_cons] at present
    rw [dirCount]
    split
    next h =>
      obtain rfl : x = e := by simpa [h] using present
      rw [dirLookup_cons, if_pos h]
      rfl
    next h => rw [dirLookup_cons, if_neg h, ih (by simpa [h] using present)]

theorem dirLookup_dirCount_other (ne : m ≠ n) : dirLookup (dirCount d n) m = dirLookup d m := by
  induction d with
  | nil => rfl
  | cons y rest ih =>
    obtain ⟨k, x⟩ := y
    rw [dirCount]
    split
    next h => rw [dirLookup_cons, dirLookup_cons, if_neg (h ▸ ne.symm), if_neg (h ▸ ne.symm)]
    next => rw [dirLookup_cons, dirLookup_cons, ih]

end

/-! ### Cells (R85, R91) -/

/-- R85: a bin's sector lies within its segment's page. -/
theorem cellIndexOf_lt {sectors sector : Nat} (mem : sectors ∈ [8, 16, 32, 64]) (bin : Nat) (h : sector < sectors) :
    cellIndexOf sectors bin sector < 256 := by
  simp only [List.mem_cons, List.not_mem_nil, or_false] at mem
  rcases mem with rfl | rfl | rfl | rfl <;>
    simp only [cellIndexOf, firstBinOf, segmentOf, binsPerPage, Nat.reduceDiv] <;> omega

theorem clearedCell_add (d : Nat) (flaw : Bool) :
    clearedCell.add d flaw false =
      { count := 1, sum := some d, min := some d, max := some d, flaws := if flaw = true then 1 else 0,
        extrapolated := false } := by
  cases flaw <;> simp [clearedCell, Cell.add, cap16, satInc, satAdd]

/-! ### Stages -/

/-- Each context stands in the stage that it stood in. -/
def SameStages (s w : State) : Prop := ∀ c, (tubeAt w c).map Tube.stage = (tubeAt s c).map Tube.stage

theorem SameStages.trans {s t u : State} (a : SameStages s t) (b : SameStages t u) : SameStages s u :=
  fun c => (b c).trans (a c)

theorem sameStages_of_tubes {s w : State} (h : w.tubes = s.tubes) : SameStages s w := fun c => by rw [tubeAt, h, tubeAt]

theorem stageIs_iff (s : State) (c : Ctx) (g : Stage) : stageIs s c g = true ↔ (tubeAt s c).map Tube.stage = some g := by
  cases h : tubeAt s c with
  | none => simp [stageIs, h]
  | some t => simp [stageIs, h]

theorem SameStages.quiet {s w : State} (h : SameStages s w) (quiet : Quiet s) : Quiet w := by
  have still (c : Ctx) : stageIs w c .settling = stageIs s c .settling := by
    rw [Bool.eq_iff_iff, stageIs_iff, stageIs_iff, h c]
  exact ⟨(still .a).trans quiet.1, (still .b).trans quiet.2⟩

/-- A tube that stood stands in the same stage. -/
theorem SameStages.tube {s w : State} (h : SameStages s w) {c : Ctx} {t : Tube} (tube : tubeAt s c = some t) :
    ∃ z, tubeAt w c = some z ∧ z.stage = t.stage := by
  have := h c
  rw [tube] at this
  exact Option.map_eq_some_iff.mp this

theorem NoticeOnly.sameStages {s w : State} (h : NoticeOnly s w) : SameStages s w := fun c => by
  obtain ⟨worst, e⟩ := h.tubeAt c
  rw [e, Option.map_map]
  rfl

theorem Ctx.eq_or_other (c d : Ctx) : d = c ∨ d = otherCtx c := by
  cases c <;> cases d <;> simp [otherCtx]

/-! ### Work on the map -/

/-- The work of placing a reading before it is counted: it keeps the tables, the link, the READING class queue and the
stages. -/
structure MapWork (s w : State) : Prop where
  agent : w.agent = s.agent
  link : w.mill.link = s.mill.link
  readingQ : w.mill.readingQ = s.mill.readingQ
  stages : SameStages s w

theorem MapWork.refl (s : State) : MapWork s s := ⟨rfl, rfl, rfl, fun _ => rfl⟩

theorem MapWork.trans {s t u : State} (a : MapWork s t) (b : MapWork t u) : MapWork s u :=
  ⟨b.agent.trans a.agent, b.link.trans a.link, b.readingQ.trans a.readingQ, a.stages.trans b.stages⟩

theorem setWall_mapWork (s : State) (x : WallMap) : MapWork s (s.setWall x) := ⟨rfl, rfl, rfl, fun _ => rfl⟩

theorem putTube_mapWork {s : State} {c : Ctx} {t x : Tube} (tube : tubeAt s c = some t) (stage : x.stage = t.stage) :
    MapWork s (putTube c (some x) s) := by
  refine ⟨rfl, rfl, rfl, fun d => ?_⟩
  obtain rfl | rfl := Ctx.eq_or_other c d
  · rw [tubeAt_putTube_same, tube]
    exact congrArg some stage
  · rw [tubeAt_putTube_other]

theorem raise_mapWork (k : EventKind) (d : Detail) (s : State) : MapWork s (raise k d s) :=
  have only := raise_noticeOnly k d s
  ⟨raise_agent k d s, only.link, only.readingQ, only.sameStages⟩

/-! ### The operations of placing, on a tube that stands -/

section
variable {s : State} {c : Ctx} {t : Tube} (tube : tubeAt s c = some t)
include tube

theorem modTube_some (f : Tube → Tube) : modTube c f s = putTube c (some (f t)) s := by simp [modTube, tube]

theorem updateCell_some (page bin sector : Nat) (r : Reading) :
    updateCell c page bin sector r s =
      putTube c (some { t with directory := dirCount t.directory (segmentOf t.setup.sectors bin) })
        (s.setWall { s.wall with
          pool := writeCell s.wall.pool (cellAddress page (cellIndexOf t.setup.sectors bin sector))
            ((readCell s.wall.pool (cellAddress page (cellIndexOf t.setup.sectors bin sector))).add
              (r.thickness.getD 0) r.flags.flaw r.flags.extrapolated) }) := by
  simp only [updateCell, tube]
  rfl

theorem allocatePage_some (n page : Nat) (rest : List Nat) :
    allocatePage c n page rest s =
      putTube c (some { t with directory := dirInsert t.directory n { page := page, readings := 0 },
                               pagesUsed := min 65535 (t.pagesUsed + 1) })
        (s.setWall { pool := clearPage s.wall.pool page, free := rest }) :=
  modTube_some (s := s.setWall { pool := clearPage s.wall.pool page, free := rest }) tube _

theorem reclaimPage_some {o : Tube} (other : tubeAt s (otherCtx c) = some o) (n : Nat) (lost : Nat × DirEntry) :
    reclaimPage c n lost s = raise .mapReclaim (.reclaim t.id n o.id lost.1)
      (putTube c (some { t with directory := dirInsert t.directory n { page := lost.2.page, readings := 0 },
                                pagesUsed := min 65535 (t.pagesUsed + 1), pagesTaken := min 65535 (t.pagesTaken + 1) })
        ((putTube (otherCtx c) (some { o with directory := o.directory.dropLast, pagesLost := min 65535 (o.pagesLost + 1) })
          s).setWall { s.wall with pool := clearPage s.wall.pool lost.2.page })) := by
  have stands (x : Option Tube) (y : WallMap) : tubeAt ((putTube (otherCtx c) x s).setWall y) c = some t := by
    have := tubeAt_putTube_other (otherCtx c) x s
    rw [otherCtx_otherCtx, tube] at this
    exact this
  simp only [reclaimPage, tube, other]
  rw [modTube_some other, modTube_some (stands _ _)]
  rfl

theorem tubeAt_updateCell_other (page bin sector : Nat) (r : Reading) :
    tubeAt (updateCell c page bin sector r s) (otherCtx c) = tubeAt s (otherCtx c) := by
  rw [updateCell_some tube, tubeAt_putTube_other]
  rfl

theorem occurrences_updateCell (page bin sector : Nat) (r : Reading) (k : EventKind) :
    occurrences (updateCell c page bin sector r s) k = occurrences s k := by
  rw [updateCell_some tube]
  rfl

theorem updateCell_mapWork (page bin sector : Nat) (r : Reading) : MapWork s (updateCell c page bin sector r s) := by
  rw [updateCell_some tube]
  exact (setWall_mapWork s _).trans (putTube_mapWork (s := s.setWall _) tube rfl)

theorem allocatePage_mapWork (n page : Nat) (rest : List Nat) : MapWork s (allocatePage c n page rest s) := by
  rw [allocatePage_some tube]
  exact (setWall_mapWork s _).trans (putTube_mapWork (s := s.setWall _) tube rfl)

end

end Sys2Proof.Machine
end

section
/-! A reading with a pose on a live tube (R70, R72, R87 to R92): counted with its placement, and a VALID one on the page of its
segment, on one it takes, or on none. -/

namespace Sys2Proof.Machine

/-! ### A page given to a segment (R88, R89) -/

/-- What placing leaves of its tube: all but the directory, the pages and, by its events, the worst condition seen. -/
structure SameCounts (t x : Tube) : Prop where
  outcomes : x.outcomes = t.outcomes
  placements : x.placements = t.placements
  nextRing : x.nextRing = t.nextRing
  stage : x.stage = t.stage

/-- From `s`, in which `t` has no page in segment `n`, `page` has been given to it: in `w` the tube stands as `x`. -/
structure PageGiven (s w : State) (t x : Tube) (n page : Nat) : Prop where
  same : SameCounts t x
  setup : x.setup = t.setup
  used : x.pagesUsed = min 65535 (t.pagesUsed + 1)
  entry : dirLookup x.directory n = some { page := page, readings := 0 }
  others : ∀ m, m ≠ n → dirLookup x.directory m = dirLookup t.directory m
  pool : ∀ a, readCell w.wall.pool a = if a / 256 = page then clearedCell else readCell s.wall.pool a

/-- R91, R92: the first reading of a page counted in its cell and in its entry. -/
theorem PageGiven.updateCell {s w : State} {t x : Tube} {page bin sector d : Nat} {c : Ctx} {r : Reading}
    (given : PageGiven s w t x (segmentOf t.setup.sectors bin) page) (tube : tubeAt w c = some x)
    (sectors : t.setup.sectors ∈ [8, 16, 32, 64]) (within : sector < t.setup.sectors) (thickness : r.thickness = some d)
    (fresh : r.flags.extrapolated = false) :
    let n := segmentOf t.setup.sectors bin
    let directory := dirCount x.directory n
    let v := Machine.updateCell c page bin sector r w
    tubeAt v c = some { x with directory := directory } ∧
    dirLookup directory n = some { page := page, readings := 1 } ∧
    (∀ m, m ≠ n → dirLookup directory m = dirLookup t.directory m) ∧
    v.wall.free = w.wall.free ∧
    (∀ i, i < 256 → readCell v.wall.pool (page * 256 + i) =
      (if i = cellIndexOf t.setup.sectors bin sector then
        { count := 1, sum := some d, min := some d, max := some d, flaws := if r.flags.flaw = true then 1 else 0,
          extrapolated := false }
       else clearedCell)) ∧
    (∀ a, a / 256 ≠ page → readCell v.wall.pool a = readCell s.wall.pool a) := by
  intro n directory v
  have index := cellIndexOf_lt sectors bin within
  have cleared : readCell w.wall.pool (cellAddress page (cellIndexOf t.setup.sectors bin sector)) = clearedCell := by
    rw [given.pool, cellAddress, if_pos (by omega)]
  have update : v = _ := updateCell_some tube page bin sector r
  rw [given.setup, cleared, thickness, fresh] at update
  refine ⟨by rw [update, tubeAt_putTube_same, given.setup], (dirLookup_dirCount_same given.entry).trans (by rfl),
    fun m ne => (dirLookup_dirCount_other ne).trans (given.others m ne), by rw [update]; rfl, fun i hi => ?_, fun a ha => ?_⟩
  · rw [update, putTube_wall, State.setWall_wall]
    split
    next h =>
      rw [h]
      exact (readCell_writeCell_same ..).trans (clearedCell_add d _)
    next h =>
      have away : page * 256 + i ≠ cellAddress page (cellIndexOf t.setup.sectors bin sector) := by
        simp only [cellAddress]; omega
      rw [readCell_writeCell_other _ _ away, given.pool, if_pos (by omega)]
  · have away : a ≠ cellAddress page (cellIndexOf t.setup.sectors bin sector) := by
      simp only [cellAddress]; omega
    rw [update, putTube_wall, State.setWall_wall, readCell_writeCell_other _ _ away, given.pool, if_neg ha]

/-- R88: the page at the head of the free list. -/
theorem allocatePage_given {s : State} {c : Ctx} {t : Tube} {n page : Nat} {rest : List Nat} (tube : tubeAt s c = some t)
    (absent : dirLookup t.directory n = none) :
    ∃ x, tubeAt (allocatePage c n page rest s) c = some x ∧ PageGiven s (allocatePage c n page rest s) t x n page ∧
      (allocatePage c n page rest s).wall.free = rest ∧ x.pagesTaken = t.pagesTaken := by
  rw [allocatePage_some tube]
  exact ⟨_, tubeAt_putTube_same .., ⟨⟨rfl, rfl, rfl, rfl⟩, rfl, rfl, dirLookup_dirInsert_same absent, fun m ne => dirLookup_dirInsert_other ne,
    fun a => readCell_clearPage _ page a⟩, rfl, rfl⟩

/-- R89: the page of the other context's highest segment. -/
theorem reclaimPage_given {s : State} {c : Ctx} {t o : Tube} {n : Nat} {lost : Nat × DirEntry} (tube : tubeAt s c = some t)
    (other : tubeAt s (otherCtx c) = some o) (absent : dirLookup t.directory n = none) :
    let w := reclaimPage c n lost s
    MapWork s w ∧ w.wall.free = s.wall.free ∧
    occurrences w .mapReclaim = min 65535 (occurrences s .mapReclaim + 1) ∧
    (∃ x, tubeAt w c = some x ∧ PageGiven s w t x n lost.2.page ∧ x.pagesTaken = min 65535 (t.pagesTaken + 1)) ∧
    ∃ v, tubeAt w (otherCtx c) = some v ∧ v.directory = o.directory.dropLast ∧ v.pagesLost = min 65535 (o.pagesLost + 1) := by
  intro w
  let gave : Tube := { o with directory := o.directory.dropLast, pagesLost := min 65535 (o.pagesLost + 1) }
  let took : Tube := { t with directory := dirInsert t.directory n { page := lost.2.page, readings := 0 },
                              pagesUsed := min 65535 (t.pagesUsed + 1), pagesTaken := min 65535 (t.pagesTaken + 1) }
  let given := (putTube (otherCtx c) (some gave) s).setWall { s.wall with pool := clearPage s.wall.pool lost.2.page }
  have reclaimed : w = raise .mapReclaim (.reclaim t.id n o.id lost.1) (putTube c (some took) given) :=
    reclaimPage_some tube other n lost
  have stands : tubeAt given c = some t := by
    have := tubeAt_putTube_other (otherCtx c) (some gave) s
    rw [otherCtx_otherCtx, tube] at this
    exact this
  have only : NoticeOnly (putTube c (some took) given) w := reclaimed ▸ raise_noticeOnly _ _ _
  have wall : w.wall = { s.wall with pool := clearPage s.wall.pool lost.2.page } := by
    rw [reclaimed, raise_wall]
    rfl
  refine ⟨?_, by rw [wall], ?_, ?_, ?_⟩
  · rw [reclaimed]
    exact (((putTube_mapWork (x := gave) other rfl).trans (setWall_mapWork _ _)).trans
      (putTube_mapWork (x := took) stands rfl)).trans (raise_mapWork _ _ _)
  · rw [reclaimed, occurrences_raise (by decide), if_pos rfl]
    rfl
  · obtain ⟨worst, seen⟩ := only.tube (tubeAt_putTube_same c (some took) given)
    refine ⟨_, seen, ⟨⟨rfl, rfl, rfl, rfl⟩, rfl, rfl, dirLookup_dirInsert_same absent,
      fun m ne => dirLookup_dirInsert_other ne, fun a => ?_⟩, rfl⟩
    rw [wall]
    exact readCell_clearPage _ _ a
  · have there : tubeAt (putTube c (some took) given) (otherCtx c) = some gave :=
      (tubeAt_putTube_other c _ _).trans (tubeAt_putTube_same (otherCtx c) (some gave) s)
    obtain ⟨worst, seen⟩ := only.tube there
    exact ⟨_, seen, rfl, rfl⟩

/-! ### Placing (R70, R87 to R89) -/

section
variable {s : State} {c : Ctx} {t : Tube} {bin sector : Nat} {r : Reading}

theorem reclaimFrom_gives {o : Tube} {l : List (Nat × DirEntry)} {lost : Nat × DirEntry}
    (other : tubeAt s (otherCtx c) = some o) (stage : o.stage = .closedWait ∨ o.stage = .draining)
    (directory : o.directory = l ++ [lost]) : reclaimFrom s c = some lost := by
  rcases stage with stage | stage <;> simp [reclaimFrom, other, stage, directory]

theorem reclaimFrom_none
    (h : ∀ o, tubeAt s (otherCtx c) = some o → o.directory = [] ∨ o.stage = .active ∨ o.stage = .settling) :
    reclaimFrom s c = none := by
  cases other : tubeAt s (otherCtx c) with
  | none => simp [reclaimFrom, other]
  | some o =>
    rcases h o other with empty | stage | stage
    · cases stage : o.stage <;> simp [reclaimFrom, other, stage, empty]
    · simp [reclaimFrom, other, stage]
    · simp [reclaimFrom, other, stage]

theorem reclaimFrom_tube {lost : Nat × DirEntry} (h : reclaimFrom s c = some lost) :
    ∃ o, tubeAt s (otherCtx c) = some o := by
  cases other : tubeAt s (otherCtx c) with
  | none => simp [reclaimFrom, other] at h
  | some o => exact ⟨o, rfl⟩

theorem placeValid_outOfMap (out : 256 ≤ segmentOf t.setup.sectors bin) :
    placeValid c t bin sector r s = (.outOfMap, s) := if_pos out

variable (inMap : segmentOf t.setup.sectors bin < 256)
include inMap

theorem placeValid_onPage {e : DirEntry} (present : dirLookup t.directory (segmentOf t.setup.sectors bin) = some e) :
    placeValid c t bin sector r s = (ringPlacement t bin, updateCell c e.page bin sector r s) := by
  simp [placeValid, not_le.mpr inMap, present]

variable (absent : dirLookup t.directory (segmentOf t.setup.sectors bin) = none)
include absent

theorem placeValid_takes {page : Nat} {rest : List Nat} (free : s.wall.free = page :: rest) :
    placeValid c t bin sector r s = (ringPlacement t bin,
      updateCell c page bin sector r (allocatePage c (segmentOf t.setup.sectors bin) page rest s)) := by
  simp [placeValid, not_le.mpr inMap, absent, free]

theorem placeValid_reclaims {lost : Nat × DirEntry} (free : s.wall.free = []) (gives : reclaimFrom s c = some lost) :
    placeValid c t bin sector r s = (ringPlacement t bin,
      updateCell c lost.2.page bin sector r (reclaimPage c (segmentOf t.setup.sectors bin) lost s)) := by
  simp [placeValid, not_le.mpr inMap, absent, free, gives]

theorem placeValid_mapFull (free : s.wall.free = []) (none : reclaimFrom s c = none) :
    placeValid c t bin sector r s =
      (.mapFull, raise .mapFull (.tubeSegment t.id (segmentOf t.setup.sectors bin)) s) := by
  simp [placeValid, not_le.mpr inMap, absent, free, none]

end

theorem placeValid_mapWork {s : State} {c : Ctx} {t : Tube} (bin sector : Nat) (r : Reading) (tube : tubeAt s c = some t) :
    MapWork s (placeValid c t bin sector r s).2 := by
  rcases Nat.lt_or_ge (segmentOf t.setup.sectors bin) 256 with inMap | out
  · cases entry : dirLookup t.directory (segmentOf t.setup.sectors bin) with
    | some e =>
      rw [placeValid_onPage inMap entry]
      exact updateCell_mapWork tube ..
    | none =>
      cases free : s.wall.free with
      | cons page rest =>
        obtain ⟨x, stands, -⟩ := allocatePage_given (page := page) (rest := rest) tube entry
        rw [placeValid_takes inMap entry free]
        exact (allocatePage_mapWork tube ..).trans (updateCell_mapWork stands ..)
      | nil =>
        cases gives : reclaimFrom s c with
        | none =>
          rw [placeValid_mapFull inMap entry free gives]
          exact raise_mapWork ..
        | some lost =>
          obtain ⟨o, other⟩ := reclaimFrom_tube gives
          obtain ⟨work, -, -, ⟨x, stands, -⟩, -⟩ := reclaimPage_given (lost := lost) tube other entry
          rw [placeValid_reclaims inMap entry free gives]
          exact work.trans (updateCell_mapWork stands ..)
  · rw [placeValid_outOfMap out]
    exact .refl s

section
variable {s : State} {c : Ctx} {t : Tube} {r : Reading} {p : Pose}

theorem assignLive_mismatch (h : t.generation ≠ r.generation) :
    assignLive c t r p s = countAndOffer c { r with tubeId := some t.id } .mismatch s := if_pos h

variable (generation : t.generation = r.generation)
include generation

theorem assignLive_beforeStart (before : shellX t r.head p.travel < 0) :
    assignLive c t r p s = countAndOffer c { r with tubeId := some t.id } .beforeStart s := by
  simp [assignLive, generation, before]

variable (within : 0 ≤ shellX t r.head p.travel)
include within

theorem assignLive_counted (invalid : r.outcome ≠ .valid) :
    assignLive c t r p s = countAndOffer c { r with tubeId := some t.id, sector := some (sectorOf t r.head p.angle),
                                                    bin := some (binOf t (shellX t r.head p.travel)) } .counted s := by
  simp [assignLive, generation, not_lt.mpr within, invalid]

theorem assignLive_valid (valid : r.outcome = .valid) {q : Placement} {w : State}
    (placed : placeValid c t (binOf t (shellX t r.head p.travel)) (sectorOf t r.head p.angle)
      { r with tubeId := some t.id, sector := some (sectorOf t r.head p.angle),
               bin := some (binOf t (shellX t r.head p.travel)) } s = (q, w)) :
    assignLive c t r p s = countAndOffer c { r with tubeId := some t.id, sector := some (sectorOf t r.head p.angle),
                                                    bin := some (binOf t (shellX t r.head p.travel)) } q w := by
  refine (if_neg (not_not.mpr generation)).trans ((if_neg (not_lt.mpr within)).trans ((if_neg (not_not.mpr valid)).trans ?_))
  exact congrArg (fun x : Placement × State => countAndOffer c _ x.1 x.2) placed

end

theorem countAndOffer_sameStages (c : Ctx) (r : Reading) (q : Placement) (s : State) :
    SameStages s (countAndOffer c r q s) := by
  refine SameStages.trans (t := modTube c (Tube.countReading r.outcome q) s) ?_ (sameStages_of_tubes (decideReading_tubes ..))
  cases tube : tubeAt s c with
  | none => rw [modTube, tube]; exact fun _ => rfl
  | some t => rw [modTube_some tube]; exact (putTube_mapWork (x := t.countReading r.outcome q) tube rfl).stages

theorem assignLive_sameStages {s : State} {c : Ctx} {t : Tube} (r : Reading) (p : Pose) (tube : tubeAt s c = some t) :
    SameStages s (assignLive c t r p s) := by
  by_cases generation : t.generation = r.generation
  · rcases lt_or_ge (shellX t r.head p.travel) 0 with before | within
    · rw [assignLive_beforeStart generation before]
      exact countAndOffer_sameStages _ _ _ _
    · by_cases valid : r.outcome = .valid
      · rw [assignLive_valid generation within valid rfl]
        exact (placeValid_mapWork _ _ _ tube).stages.trans (countAndOffer_sameStages _ _ _ _)
      · rw [assignLive_counted generation within valid]
        exact countAndOffer_sameStages _ _ _ _
  · rw [assignLive_mismatch generation]
    exact countAndOffer_sameStages _ _ _ _

/-! ### A completion that counts its reading (R72) -/

/-- The completion of a reading that is counted, as `r` with the placement `q`, on the tube `x` of `w`, comes to `u` with the
tube `z`. -/
structure Counted (c : Ctx) (r : Reading) (q : Placement) (w u : State) (x z : Tube) : Prop where
  wall : u.wall = w.wall
  tube : ∃ worst, z = { x.countReading r.outcome q with worstSeen := worst }
  other : ∀ v, tubeAt w (otherCtx c) = some v → ∃ worst, tubeAt u (otherCtx c) = some { v with worstSeen := worst }
  counts : ∀ k ∈ [EventKind.mapFull, .mapReclaim], occurrences u k = occurrences w k
  sent : (outputOf w r.head).reading = .all → w.mill.link = .up → w.mill.readingQ.length < 64 →
    u.mill.readingQ = w.mill.readingQ ++ [{ r with placement := some q }]

theorem withFlagEvents_wall (ev : Evaluation) (s : State) : (withFlagEvents ev s).wall = s.wall := by
  simp only [withFlagEvents]
  split <;> split <;> simp

theorem counted_of_countAndOffer (ev : Evaluation) (m : MirrorFrame) {c : Ctx} {r : Reading} {q : Placement} {v w : State}
    {x z : Tube} (placed : v = countAndOffer c r q w) (tube : tubeAt w c = some x)
    (stands : tubeAt (decideMirror m (withFlagEvents ev v)) c = some z) :
    Counted c r q w (decideMirror m (withFlagEvents ev v)) x z := by
  let counted := putTube c (some (x.countReading r.outcome q)) w
  have offered : v = decideReading { r with placement := some q } counted := by
    rw [placed, countAndOffer, modTube_some tube]
  have tubes (d : Ctx) : tubeAt v d = tubeAt counted d := by rw [tubeAt, offered, decideReading_tubes, tubeAt]
  have only : NoticeOnly v (withFlagEvents ev v) := withFlagEvents_noticeOnly ev v
  have last (d : Ctx) : tubeAt (decideMirror m (withFlagEvents ev v)) d = tubeAt (withFlagEvents ev v) d := by
    rw [tubeAt, decideMirror_tubes, tubeAt]
  refine ⟨?_, ?_, fun y there => ?_, fun k hk => ?_, fun all up room => ?_⟩
  · rw [decideMirror_wall, withFlagEvents_wall, offered, decideReading_wall]
    rfl
  · obtain ⟨worst, seen⟩ := only.tube ((tubes c).trans (tubeAt_putTube_same ..))
    rw [last, seen] at stands
    exact ⟨worst, (Option.some.inj stands).symm⟩
  · rw [last]
    exact only.tube ((tubes _).trans ((tubeAt_putTube_other ..).trans there))
  · have known : ∀ k ∈ [EventKind.mapFull, .mapReclaim], k ≠ .noticeLost ∧ k ≠ .flaw ∧ k ≠ .tempFallback := by decide
    obtain ⟨lost, flaw, fallback⟩ := known k hk
    have mirrored : occurrences (decideMirror m (withFlagEvents ev v)) k = occurrences (withFlagEvents ev v) k := by
      rw [occurrences, decideMirror_events, occurrences]
    rw [mirrored, occurrences_withFlagEvents ev v lost, if_neg (by simp [flaw, fallback]), occurrences, offered,
      decideReading_events]
    rfl
  · rw [decideMirror_readingQ, only.readingQ, offered, decideReading_sent (r := { r with placement := some q }) (s := counted) all up room]
    rfl

/-- R70, R72: the tube `z` after it has counted the reading with the placement `q`, and the reading sent with it. -/
def CountedOn (s : State) (t : Tube) (r : Reading) (p : Pose) (u : State) (z : Tube) (q : Placement) : Prop :=
  z.outcomes = tableSet t.outcomes r.outcome.code (min 4294967295 (tableGet t.outcomes r.outcome.code + 1)) ∧
  z.placements = tableSet t.placements q.code (min 4294967295 (tableGet t.placements q.code + 1)) ∧
  z.nextRing = t.nextRing ∧ z.stage = .active ∧
  ((outputOf s r.head).reading = .all → s.mill.link = .up → s.mill.readingQ.length < 64 →
    ∃ f, u.mill.readingQ = s.mill.readingQ ++ [f] ∧ f.placement = some q ∧ f.tubeId = some t.id ∧
      f.head = r.head ∧ f.timestamp = r.timestamp ∧
      (t.generation = r.generation → 0 ≤ shellX t r.head p.travel →
        f.sector = some (sectorOf t r.head p.angle) ∧ f.bin = some (binOf t (shellX t r.head p.travel))))

theorem Counted.countedOn {s w u : State} {c : Ctx} {t x z : Tube} {r : Reading} {p : Pose} {q : Placement}
    {sector bin : Option Nat}
    (counted : Counted c { r with tubeId := some t.id, sector := sector, bin := bin } q w u x z) (work : MapWork s w)
    (same : SameCounts t x) (active : t.stage = .active)
    (carries : t.generation = r.generation → 0 ≤ shellX t r.head p.travel →
      sector = some (sectorOf t r.head p.angle) ∧ bin = some (binOf t (shellX t r.head p.travel))) :
    CountedOn s t r p u z q := by
  obtain ⟨worst, rfl⟩ := counted.tube
  rw [Tube.countReading_eq]
  refine ⟨by rw [same.outcomes], by rw [same.placements], same.nextRing, same.stage.trans active, fun all up room => ?_⟩
  refine ⟨{ r with placement := some q, tubeId := some t.id, sector := sector, bin := bin }, ?_, rfl, rfl, rfl, rfl, carries⟩
  have output : (outputOf w r.head).reading = .all := by rw [outputOf, work.agent]; exact all
  rw [counted.sent output (work.link.trans up) (by rw [work.readingQ]; exact room), work.readingQ]

/-- R88, R91, R92: what the first reading of a page leaves of its directory, its figures and the pool. -/
def FirstOnPage (s : State) (t : Tube) (r : Reading) (bin sector : Nat) (u : State) (z : Tube) (page d : Nat) : Prop :=
  dirLookup z.directory (segmentOf t.setup.sectors bin) = some { page := page, readings := 1 } ∧
  (∀ m, m ≠ segmentOf t.setup.sectors bin → dirLookup z.directory m = dirLookup t.directory m) ∧
  z.pagesUsed = min 65535 (t.pagesUsed + 1) ∧
  (∀ i, i < 256 → readCell u.wall.pool (page * 256 + i) =
    (if i = cellIndexOf t.setup.sectors bin sector then
      { count := 1, sum := some d, min := some d, max := some d, flaws := if r.flags.flaw = true then 1 else 0,
        extrapolated := false }
     else clearedCell)) ∧
  (∀ a, a / 256 ≠ page → readCell u.wall.pool a = readCell s.wall.pool a)

/-- A VALID reading on a page just given: its tube counts it, and its page and its directory as R88, R91 and R92 say. -/
theorem PageGiven.placed {s w u : State} {c : Ctx} {t x z : Tube} {page bin sector d : Nat} {r : Reading} {q : Placement}
    (given : PageGiven s w t x (segmentOf t.setup.sectors bin) page) (tube : tubeAt w c = some x)
    (sectors : t.setup.sectors ∈ [8, 16, 32, 64]) (within : sector < t.setup.sectors) (thickness : r.thickness = some d)
    (fresh : r.flags.extrapolated = false)
    (counted : ∀ x', tubeAt (Machine.updateCell c page bin sector r w) c = some x' →
      Counted c r q (Machine.updateCell c page bin sector r w) u x' z) :
    (∃ x', SameCounts t x' ∧ Counted c r q (Machine.updateCell c page bin sector r w) u x' z) ∧
    FirstOnPage s t r bin sector u z page d ∧ u.wall.free = w.wall.free ∧ z.pagesTaken = x.pagesTaken := by
  obtain ⟨stands, entry, others, free, cells, rest⟩ := given.updateCell tube sectors within thickness fresh
  have result := counted _ stands
  obtain ⟨outcomes, placements, nextRing, stage⟩ := given.same
  refine ⟨⟨_, ?_, result⟩, ?_⟩
  · exact ⟨outcomes, placements, nextRing, stage⟩
  obtain ⟨worst, rfl⟩ := result.tube
  rw [FirstOnPage, result.wall]
  exact ⟨⟨entry, others, given.used, cells, rest⟩, free, rfl⟩

/-! ### The statement -/

theorem sectors_pos {n : Nat} (mem : n ∈ [8, 16, 32, 64]) : 1 ≤ n := by
  simp only [List.mem_cons, List.not_mem_nil, or_false] at mem
  omega

/-- R24: no stage of an evaluation sets EXTRAPOLATED. -/
theorem Stages.notExtrapolated {ev : Evaluation} {r : Reading} (h : Stages ev r) : r.flags.extrapolated = false := by
  cases h <;> rfl

/-- R69: the live span of a quiet state is an ACTIVE tube's. -/
theorem active_of_span {s : State} {time : Time} {c : Ctx} {t : Tube} (quiet : Quiet s)
    (span : spanOf s time = some (.live c)) (tube : tubeAt s c = some t) : t.stage = .active := by
  obtain ⟨x, there, stage⟩ := spanOf_live span
  obtain rfl : x = t := Option.some.inj (there.symm.trans tube)
  refine stage.resolve_right fun settling => ?_
  have still := quiet.stageIs c
  rw [stageIs_of_tubeAt tube, settling] at still
  cases still

/-- A completion that hands a posed reading to a live tube: the state and the tube it comes to, which follow from the
placement that the reading is counted with. -/
theorem completion_on_tube {s : State} {ev : Evaluation} {x y : Sample} {c : Ctx} {t : Tube} (busy : s.evaluator = some ev)
    (tie : ev.tie = .ordinary) (between : Between x y (evaluate ev).timestamp s)
    (span : spanOf s (evaluate ev).timestamp = some (.live c)) (tube : tubeAt s c = some t) (quiet : Quiet s) :
    ∃ u z, exec .evaluationCompletion s = .next u ∧ tubeAt u c = some z ∧ ∀ r q w x',
      assignLive c t (evaluate ev) (poseAt x y (evaluate ev).timestamp) (s.setEvaluator none) = countAndOffer c r q w →
      tubeAt w c = some x' → Counted c r q w u x' z := by
  let v := assignLive c t (evaluate ev) (poseAt x y (evaluate ev).timestamp) (s.setEvaluator none)
  have placed : SameStages s v := assignLive_sameStages (s := s.setEvaluator none) _ _ tube
  have handed : handOn ev.tie (evaluate ev) (s.setEvaluator none) = v := by
    rw [tie]
    exact (resolveReading_between (s := s.setEvaluator none) between).trans
      (assignPosed_live (s := s.setEvaluator none) _ span tube)
  have last : SameStages s (decideMirror { trace := ev.trace, reading := evaluate ev } (withFlagEvents ev v)) :=
    (placed.trans (withFlagEvents_noticeOnly ev v).sameStages).trans (sameStages_of_tubes (decideMirror_tubes ..))
  obtain ⟨z, there, -⟩ := last.tube tube
  exact ⟨_, z, completion_of_quiet busy handed (placed.quiet quiet), there,
    fun r q w x' counted stands => counted_of_countAndOffer ev _ counted stands there⟩

/-- Settles O27: the spans and coordinates; a reading between two samples that no live tube takes; and one that a live tube
counts, by each way it is placed. -/
theorem readingIsPlacedAndFindsAPage : Obligations.ReadingIsPlacedAndFindsAPage := by
  refine ⟨spanOf_fallsIn, ?_, fun t x => binOf_eq t, ?_, ?_⟩
  · intro t l angle travel mem once
    have offsets := latchedOffsets_of_mem mem once
    exact ⟨by rw [shellX, offsets], by rw [sectorOf, offsets], sectorOf_lt l.head angle⟩
  · intro s ev x y r idle sent completing between quiet reporting
    exact ⟨completion_noTube completing between quiet reporting,
      fun id => completion_late completing between quiet reporting⟩
  · intro s ev x y c t r p coordinate bin sector n onRing placed untouched given busy tie between span tube quiet sectors
    let idle := s.setEvaluator none
    have active := active_of_span quiet span tube
    obtain ⟨u, z, done, there, counted⟩ := completion_on_tube busy tie between span tube quiet
    have unmapped {q : Placement} {a b : Option Nat} {w : State} {x' : Tube}
        (h : assignLive c t r p idle = countAndOffer c { r with tubeId := some t.id, sector := a, bin := b } q w)
        (work : MapWork idle w) (wall : w.wall = s.wall) (stands : tubeAt w c = some x')
        (same : ∃ worst, x' = { t with worstSeen := worst })
        (carries : t.generation = r.generation → 0 ≤ coordinate → a = some sector ∧ b = some bin) :
        placed u z q ∧ untouched u z := by
      have result := counted _ _ _ _ h stands
      obtain ⟨_, rfl⟩ := same
      refine ⟨result.countedOn (s := idle) work ⟨rfl, rfl, rfl, rfl⟩ active carries, ?_⟩
      obtain ⟨worst, rfl⟩ := result.tube
      exact ⟨result.wall.trans wall, rfl, rfl, rfl⟩
    refine ⟨u, z, done, there, fun other => ?_, fun same before => ?_, fun same within invalid => ?_,
      fun d same within valid thickness => ⟨fun out => ?_, fun e inMap present => ?_, fun inMap absent => ?_⟩⟩
    · exact unmapped (assignLive_mismatch other) (.refl idle) rfl tube ⟨_, rfl⟩ fun same => absurd same other
    · exact unmapped (assignLive_beforeStart same before) (.refl idle) rfl tube ⟨_, rfl⟩
        fun _ within => absurd within (not_le.mpr before)
    · exact unmapped (assignLive_counted same within invalid) (.refl idle) rfl tube ⟨_, rfl⟩ fun _ _ => ⟨rfl, rfl⟩
    · exact unmapped (assignLive_valid same within valid (placeValid_outOfMap out)) (.refl idle) rfl tube ⟨_, rfl⟩
        fun _ _ => ⟨rfl, rfl⟩
    · have assigned := assignLive_valid same within valid (placeValid_onPage (s := idle) (c := c) inMap present)
      have result := counted _ _ _ _ assigned (by rw [updateCell_some (s := idle) tube]; exact tubeAt_putTube_same ..)
      refine ⟨result.countedOn (s := idle) (updateCell_mapWork (s := idle) tube ..) ⟨rfl, rfl, rfl, rfl⟩ active
        fun _ _ => ⟨rfl, rfl⟩, ?_⟩
      obtain ⟨worst, rfl⟩ := result.tube
      rw [result.wall, updateCell_some (s := idle) tube]
      exact ⟨rfl, rfl, dirLookup_dirCount_same present⟩
    · have lies : sector < t.setup.sectors := sectorOf_lt _ _ (sectors_pos sectors)
      let valued : Reading := { r with tubeId := some t.id, sector := some sector, bin := some bin }
      have fresh : valued.flags.extrapolated = false := (evaluate_stages ev).notExtrapolated
      refine ⟨fun page rest free => ?_, fun o l m e free other stage directory => ?_, fun free none => ?_⟩
      · have assigned := assignLive_valid same within valid (placeValid_takes (s := idle) (c := c) inMap absent free)
        obtain ⟨_, stands, has, left, taken⟩ := allocatePage_given (page := page) (rest := rest) (s := idle) tube absent
        obtain ⟨⟨_, kept, result⟩, first, pool, pages⟩ := has.placed (r := valued) stands sectors lies thickness fresh
          fun _ => counted _ _ _ _ assigned
        exact ⟨result.countedOn (s := idle) ((allocatePage_mapWork (s := idle) tube ..).trans (updateCell_mapWork stands ..))
          kept active fun _ _ => ⟨rfl, rfl⟩, first, pool.trans left, pages.trans taken⟩
      · have assigned := assignLive_valid same within valid
          (placeValid_reclaims (s := idle) inMap absent free (reclaimFrom_gives other stage directory))
        obtain ⟨work, left, raised, ⟨_, stands, has, taken⟩, v, gave, dropped, lost⟩ :=
          reclaimPage_given (lost := (m, e)) (s := idle) tube other absent
        obtain ⟨⟨_, kept, result⟩, first, pool, pages⟩ := has.placed (r := valued) stands sectors lies thickness fresh
          fun _ => counted _ _ _ _ assigned
        obtain ⟨worst, remains⟩ := result.other _ ((tubeAt_updateCell_other stands ..).trans gave)
        refine ⟨result.countedOn (s := idle) (work.trans (updateCell_mapWork stands ..)) kept active fun _ _ => ⟨rfl, rfl⟩,
          first, (pool.trans left).trans free, pages.trans taken, ?_, _, remains, ?_, lost⟩
        · rw [result.counts .mapReclaim (by decide), occurrences_updateCell stands, raised]
          rfl
        · rw [dropped, directory, List.dropLast_concat]
      · have assigned := assignLive_valid same within valid
          (placeValid_mapFull (s := idle) inMap absent free (reclaimFrom_none none))
        obtain ⟨worst, seen⟩ := (raise_noticeOnly .mapFull (.tubeSegment t.id n) idle).tube tube
        obtain ⟨counts, still⟩ :=
          unmapped assigned (raise_mapWork ..) (raise_wall ..) seen ⟨_, rfl⟩ fun _ _ => ⟨rfl, rfl⟩
        refine ⟨counts, still, ?_⟩
        rw [(counted _ _ _ _ assigned seen).counts .mapFull (by decide), occurrences_raise (by decide), if_pos rfl]
        rfl

end Sys2Proof.Machine
end

section
/-! The velocity of a reading (R32, R33): a rounded quotient between two integers lies between them, so an interval's figure
lies between its two velocities; the search passes the entries at or below the temperature, and the flag compares with the
ends. -/

namespace Sys2Proof.Machine

/-! ### The figure of an interval (R33) -/

/-- Integers that enclose a quotient enclose it rounded. -/
theorem roundHalfAway_mem {n d lo hi : Int} (hd : 0 < d) (low : lo * d ≤ n) (high : n ≤ hi * d) :
    lo ≤ roundHalfAway n d ∧ roundHalfAway n d ≤ hi := by
  have near := roundHalfAway_nearest n hd.ne'
  constructor
  · by_contra below
    have step : (roundHalfAway n d + 1) * d ≤ lo * d := Int.mul_le_mul_of_nonneg_right (by omega) hd.le
    rw [Int.add_mul] at step
    omega
  · by_contra above
    have step : (hi + 1) * d ≤ roundHalfAway n d * d := Int.mul_le_mul_of_nonneg_right (by omega) hd.le
    rw [Int.add_mul] at step
    omega

/-- The rounded share `k` of `d` of a difference `x` lies between 0 and `x`. -/
theorem roundHalfAway_share_mem {k d : Int} (x : Int) (hd : 0 < d) (hk : 0 ≤ k) (le : k ≤ d) :
    min 0 x ≤ roundHalfAway (x * k) d ∧ roundHalfAway (x * k) d ≤ max 0 x := by
  apply roundHalfAway_mem hd
  · rcases le_total 0 x with pos | neg
    · simpa [pos] using Int.mul_nonneg pos hk
    · simpa [neg] using Int.mul_le_mul_of_nonpos_left neg le
  · rcases le_total 0 x with pos | neg
    · simpa [pos] using Int.mul_le_mul_of_nonneg_left le pos
    · simpa [neg] using Int.mul_nonpos_of_nonpos_of_nonneg neg hk

/-- R33: the figure at temperature `t` of the interval from the entry `a` to the entry `b`. -/
def figureBetween (a b : VelocityEntry) (t : Nat) : Int :=
  a.velocity.toNat +
    roundHalfAway (((b.velocity.toNat : Int) - a.velocity.toNat) * ((t : Int) - a.temperature.toNat))
      ((b.temperature.toNat : Int) - a.temperature.toNat)

theorem figureBetween_mem {a b : VelocityEntry} {t : Nat} (from_a : a.temperature.toNat ≤ t)
    (below_b : t < b.temperature.toNat) :
    ((min a.velocity.toNat b.velocity.toNat : Nat) : Int) ≤ figureBetween a b t ∧
      figureBetween a b t ≤ ((max a.velocity.toNat b.velocity.toNat : Nat) : Int) := by
  obtain ⟨low, high⟩ := roundHalfAway_share_mem (k := (t : Int) - a.temperature.toNat)
    (d := (b.temperature.toNat : Int) - a.temperature.toNat) ((b.velocity.toNat : Int) - a.velocity.toNat)
    (by omega) (by omega) (by omega)
  unfold figureBetween
  omega

/-- R33: at the temperature where an interval starts its figure is that entry's velocity. -/
theorem figureBetween_start {a b : VelocityEntry} (h : a.temperature.toNat < b.temperature.toNat) :
    figureBetween a b a.temperature.toNat = a.velocity.toNat := by
  have exact_zero := roundHalfAway_exact 0 (d := (b.temperature.toNat : Int) - a.temperature.toNat) (by omega)
  rw [Int.zero_mul] at exact_zero
  rw [figureBetween, Int.sub_self, Int.mul_zero, exact_zero, Int.add_zero]

/-! ### The search for the interval (R32, R33) -/

/-- R129: the temperatures of a table's entries strictly increase. -/
abbrev Ascending (l : List VelocityEntry) : Prop :=
  l.Pairwise (fun a b => a.temperature.toNat < b.temperature.toNat)

theorem first_le {e x : VelocityEntry} {rest : List VelocityEntry} (asc : Ascending (e :: rest))
    (mem : x ∈ e :: rest) : e.temperature.toNat ≤ x.temperature.toNat := by
  rcases List.mem_cons.mp mem with rfl | later
  · exact le_rfl
  · exact (List.rel_of_pairwise_cons asc later).le

theorem velocityFrom_below {t : Nat} {prev e : VelocityEntry} {rest : List VelocityEntry} (h : t < e.temperature.toNat) :
    velocityFrom t prev (e :: rest) = (figureBetween prev e t).toNat := if_pos h

theorem velocityFrom_passed {t : Nat} {prev e : VelocityEntry} {rest : List VelocityEntry} (h : e.temperature.toNat ≤ t) :
    velocityFrom t prev (e :: rest) = velocityFrom t e rest := if_neg h.not_gt

theorem velocityFrom_last {t : Nat} {last : VelocityEntry} (reached : last.temperature.toNat ≤ t) :
    ∀ {prev : VelocityEntry} {rest : List VelocityEntry}, Ascending (prev :: rest) →
      (prev :: rest).getLast? = some last → velocityFrom t prev rest = last.velocity.toNat
  | prev, [], _, h => by
    obtain rfl : prev = last := by simpa using h
    rfl
  | prev, e :: rest, asc, h => by
    rw [List.getLast?_cons_cons] at h
    have passed : e.temperature.toNat ≤ t := (first_le asc.tail (List.mem_of_getLast? h)).trans reached
    exact (velocityFrom_passed passed).trans (velocityFrom_last reached asc.tail h)

theorem velocityFrom_between {t : Nat} {a b : VelocityEntry} (from_a : a.temperature.toNat ≤ t)
    (below_b : t < b.temperature.toNat) :
    ∀ {i : Nat} {prev : VelocityEntry} {rest : List VelocityEntry}, Ascending (prev :: rest) →
      (prev :: rest)[i]? = some a → (prev :: rest)[i + 1]? = some b →
      velocityFrom t prev rest = (figureBetween a b t).toNat
  | 0, prev, e :: rest, _, ha, hb => by
    obtain rfl : prev = a := by simpa using ha
    obtain rfl : e = b := by simpa using hb
    exact velocityFrom_below below_b
  | i + 1, prev, e :: rest, asc, ha, hb => by
    rw [List.getElem?_cons_succ] at ha hb
    have passed : e.temperature.toNat ≤ t := (first_le asc.tail (List.mem_of_getElem? ha)).trans from_a
    exact (velocityFrom_passed passed).trans (velocityFrom_between from_a below_b asc.tail ha hb)

/-- From the first entry's temperature on the velocity is what the search finds: at that temperature itself R32 and R33
agree. -/
theorem velocityAt_search {t : Nat} {e : VelocityEntry} {rest : List VelocityEntry} (asc : Ascending (e :: rest))
    (reached : e.temperature.toNat ≤ t) : (velocityAt (e :: rest) t).1 = velocityFrom t e rest := by
  rcases reached.lt_or_eq with above | rfl
  · rw [velocityAt, if_neg above.not_ge]
  · rw [velocityAt, if_pos le_rfl]
    cases rest with
    | nil => rfl
    | cons b rest =>
      have below : e.temperature.toNat < b.temperature.toNat := List.rel_of_pairwise_cons asc (by simp)
      rw [velocityFrom_below below, figureBetween_start below, Int.toNat_natCast]

theorem velocityAt_first {t : Nat} {e : VelocityEntry} (rest : List VelocityEntry) (h : t ≤ e.temperature.toNat) :
    (velocityAt (e :: rest) t).1 = e.velocity.toNat := by
  rw [velocityAt, if_pos h]

theorem velocityAt_last {t : Nat} {last : VelocityEntry} {l : List VelocityEntry} (asc : Ascending l)
    (h : l.getLast? = some last) (reached : last.temperature.toNat ≤ t) : (velocityAt l t).1 = last.velocity.toNat := by
  cases l with
  | nil => cases h
  | cons e rest =>
    rw [velocityAt_search asc ((first_le asc (List.mem_of_getLast? h)).trans reached)]
    exact velocityFrom_last reached asc h

theorem velocityAt_between {t i : Nat} {a b : VelocityEntry} {l : List VelocityEntry} (asc : Ascending l)
    (ha : l[i]? = some a) (hb : l[i + 1]? = some b) (from_a : a.temperature.toNat ≤ t) (below_b : t < b.temperature.toNat) :
    (velocityAt l t).1 = (figureBetween a b t).toNat := by
  cases l with
  | nil => cases ha
  | cons e rest =>
    rw [velocityAt_search asc ((first_le asc (List.mem_of_getElem? ha)).trans from_a)]
    exact velocityFrom_between from_a below_b asc ha hb

/-! ### TEMP_CLAMP (R32) -/

theorem lastTemperature_lt_iff {t : Nat} :
    ∀ {prev : VelocityEntry} {rest : List VelocityEntry}, Ascending (prev :: rest) →
      (lastTemperature prev rest < t ↔ ∀ e ∈ prev :: rest, e.temperature.toNat < t)
  | prev, [], _ => by simp [lastTemperature]
  | prev, e :: rest, asc => by
    have first : prev.temperature.toNat < e.temperature.toNat := List.rel_of_pairwise_cons asc (by simp)
    rw [lastTemperature, lastTemperature_lt_iff asc.tail, List.forall_mem_cons (a := prev)]
    exact ⟨fun all => ⟨first.trans (all e (by simp)), all⟩, And.right⟩

theorem lt_first_iff {t : Nat} {e : VelocityEntry} {rest : List VelocityEntry} (asc : Ascending (e :: rest)) :
    t < e.temperature.toNat ↔ ∀ x ∈ e :: rest, t < x.temperature.toNat :=
  ⟨fun below _ mem => below.trans_le (first_le asc mem), fun all => all e (by simp)⟩

theorem velocityAt_clamp_iff {l : List VelocityEntry} (t : Nat) (asc : Ascending l) :
    (velocityAt l t).2 = true ↔
      l ≠ [] ∧ ((∀ e ∈ l, t < e.temperature.toNat) ∨ (∀ e ∈ l, e.temperature.toNat < t)) := by
  cases l with
  | nil => simp [velocityAt]
  | cons e rest =>
    rw [← lt_first_iff asc, velocityAt]
    rcases le_or_gt t e.temperature.toNat with atMost | above
    · have noneAbove : ¬∀ x ∈ e :: rest, x.temperature.toNat < t := fun all => (all e (by simp)).not_ge atMost
      rw [if_pos atMost]
      simp only [decide_eq_true_iff, noneAbove, ne_eq, reduceCtorEq, not_false_eq_true, true_and, or_false]
    · rw [if_neg above.not_ge, ← lastTemperature_lt_iff asc]
      simp only [decide_eq_true_iff, above.not_gt, ne_eq, reduceCtorEq, not_false_eq_true, true_and, false_or]

/-- Settles O21: the search stops at the interval of the temperature or at the last entry, the interval's figure lies between
its velocities, and the flag compares with the first and the last temperature. -/
theorem velocityFollowsTheTable : Obligations.VelocityFollowsTheTable := by
  intro l t ordered
  have asc : Ascending l := List.pairwise_map.mp ordered
  refine ⟨fun e first atMost => ?_, fun e => velocityAt_last asc, fun i a b ha hb from_a below_b => ?_,
    velocityAt_clamp_iff t asc⟩
  · obtain ⟨rest, rfl⟩ := List.head?_eq_some_iff.mp first
    exact velocityAt_first rest atMost
  · obtain ⟨low, high⟩ := figureBetween_mem from_a below_b
    have found := velocityAt_between asc ha hb from_a below_b
    have figure : ((velocityAt l t).1 : Int) = figureBetween a b t := by omega
    exact ⟨figure, by omega, by omega⟩

end Sys2Proof.Machine
end

section
/-! The channel records (R26 to R28): what a TEMPERATURE frame and an expiry make of the record that they name. -/

namespace Sys2Proof.Machine

/-- R27: with the head link UP the frame is counted and changes the record of its channel alone. -/
theorem exec_temperatureFrame (f : TemperatureFrame) {s : State} (up : s.headPort.link = .up) :
    exec (.temperatureFrame f) s =
      .next (s.setHeadPort { received s with
        channels := tableSet s.headPort.channels f.channel
          ((tableGet s.headPort.channels f.channel).receive s.now f) }) := if_pos up

/-- R28: an expiry changes the record of its channel alone. -/
theorem exec_tempRecordExpiry (ch : ChannelNo) (s : State) :
    exec (.tempRecordExpiry ch) s =
      .next (s.setHeadPort { s.headPort with
        channels := tableSet s.headPort.channels ch ((tableGet s.headPort.channels ch).expire s.now) }) := rfl

theorem ChannelRecord.receive_stored (now : Time) {f : TemperatureFrame} (r : ChannelRecord) (ok : f.ok = true)
    (range : f.temperature.toNat ≤ 1600) :
    r.receive now f =
      { held := some { temperature := f.temperature.toNat, arrival := now, reported := f.timestamp },
        received := min 65535 (r.received + 1), faults := r.faults } :=
  if_pos (by simp [ok, range])

theorem ChannelRecord.receive_refused (now : Time) {f : TemperatureFrame} (r : ChannelRecord)
    (fault : f.ok = false ∨ 1600 < f.temperature.toNat) :
    r.receive now f = { r with faults := min 65535 (r.faults + 1) } :=
  if_neg (by
    rw [Bool.and_eq_true, decide_eq_true_iff]
    rintro ⟨ok, range⟩
    rcases fault with notOk | above
    · exact absurd ok (by simp [notOk])
    · exact range.not_gt above)

theorem ChannelRecord.expire_aged {now : Time} {r : ChannelRecord} {x : HeldTemperature} (held : r.held = some x)
    (aged : 2147483648 ≤ (now - x.arrival).toNat) : r.expire now = { r with held := none } := by
  rw [ChannelRecord.expire, held]
  exact if_pos aged

/-- Settles O34: each clause by what the record becomes. -/
theorem temperatureRecords : Obligations.TemperatureRecords := by
  refine fun s => ⟨fun f up => ⟨fun ok range => ?_, fun fault => ?_⟩, fun ch x held aged => ?_⟩
  · rw [exec_temperatureFrame f up, ChannelRecord.receive_stored s.now _ ok range]
    rfl
  · rw [exec_temperatureFrame f up, ChannelRecord.receive_refused s.now _ fault]
  · rw [exec_tempRecordExpiry, ChannelRecord.expire_aged (now := s.now) held aged]

end Sys2Proof.Machine
end

section
/-! Power-on reset (R144): every block at its power-on value, the tables entry by entry. -/

namespace Sys2Proof.Machine

theorem tableGet_replicate {α : Type} {n : Nat} (x : α) (i : Fin n) : tableGet (Vector.replicate n x) i = x :=
  Vector.getElem_replicate ..

theorem tableGet_map {α β : Type} {n : Nat} (f : α → β) (v : Vector α n) (i : Fin n) :
    tableGet (v.map f) i = f (tableGet v i) :=
  Vector.getElem_map ..

/-- R166: the default severities in index order. -/
def defaultSeverities : Vector Severity 22 :=
  #v[.note, .note, .note, .note, .note, .degraded, .failed, .degraded, .note, .degraded, .note, .note, .degraded, .degraded,
     .failed, .failed, .note, .degraded, .note, .note, .note, .note]

theorem EventUnit.reset_records : EventUnit.reset.records = defaultSeverities.map EventRecord.reset := by
  simp [EventUnit.reset, defaultSeverities]

theorem State.reset_record (i : Fin 22) :
    tableGet State.reset.events.records i = EventRecord.reset (tableGet defaultSeverities i) :=
  (congrArg (tableGet · i) EventUnit.reset_records).trans (tableGet_map _ _ i)

theorem State.reset_severities : State.reset.events.records.map EventRecord.severity = defaultSeverities := by
  change EventUnit.reset.records.map EventRecord.severity = defaultSeverities
  rw [EventUnit.reset_records, Vector.map_map]
  exact Vector.map_id _

theorem State.reset_free : State.reset.wall.free = List.range 384 := by
  rw [State.reset, WallMap.reset]

/-- R133 to R135, R153, R172: what the tables with an entry for each head hold after power-on reset. -/
theorem State.reset_ofHead (h : HeadNo) :
    decimationOf State.reset h = Decimation.zero ∧ outputOf State.reset h = OutputEntry.default ∧
    tableGet State.reset.agent.calib h = 65536 ∧ snapshotOf State.reset h = .disabled :=
  ⟨tableGet_replicate _ h, tableGet_replicate _ h, tableGet_replicate _ h, tableGet_replicate _ h⟩

theorem exec_powerOnReset (s : State) : exec .powerOnReset s = .next { State.reset with pending := s.pending } := rfl

/-- Settles O3: the tables by their one repeated entry, the event records by their severities, every other value as the reset
state names it. -/
theorem powerOnResetRestoresEveryBlock : Obligations.PowerOnResetRestoresEveryBlock := by
  refine ⟨exec_powerOnReset, rfl, rfl, rfl, rfl, tableGet_replicate HeadRecord.reset, tableGet_replicate ChannelRecord.reset,
    rfl, rfl, rfl, rfl, State.reset_free, rfl, rfl, rfl, rfl, rfl, rfl, rfl, rfl, rfl, rfl, rfl, State.reset_ofHead,
    tableGet_replicate HeadEntry.default, tableGet_replicate GateEntry.default, rfl,
    tableGet_replicate _, rfl, rfl, rfl, rfl, rfl, rfl, rfl, rfl, rfl, rfl, fun i => ?_,
    congrArg Vector.toList State.reset_severities⟩
  rw [State.reset_record]
  exact ⟨rfl, rfl, rfl, rfl, rfl⟩

end Sys2Proof.Machine
end

section
/-! What a step's operations leave of the tubes while none of them starts, ends or settles one: each context keeps its tube, with
its identity, its stage and what it latched at its start. -/

namespace Sys2Proof.Machine

/-! ### A tube that stands -/

/-- `y` is the tube `x` later on: the same but for its directory, its rings, its figures and its worst condition seen. -/
structure Tube.Stands (x y : Tube) : Prop where
  stage : y.stage = x.stage
  id : y.id = x.id
  startTime : y.startTime = x.startTime
  startTravel : y.startTravel = x.startTravel
  ended : y.ended = x.ended
  generation : y.generation = x.generation
  setup : y.setup = x.setup
  heads : y.heads = x.heads
  settleEntry : y.settleEntry = x.settleEntry
  lists : x.listsOk = true → y.listsOk = true

namespace Tube.Stands

theorem refl (x : Tube) : x.Stands x := ⟨rfl, rfl, rfl, rfl, rfl, rfl, rfl, rfl, rfl, fun h => h⟩

theorem trans {x y z : Tube} (a : x.Stands y) (b : y.Stands z) : x.Stands z where
  stage := b.stage.trans a.stage
  id := b.id.trans a.id
  startTime := b.startTime.trans a.startTime
  startTravel := b.startTravel.trans a.startTravel
  ended := b.ended.trans a.ended
  generation := b.generation.trans a.generation
  setup := b.setup.trans a.setup
  heads := b.heads.trans a.heads
  settleEntry := b.settleEntry.trans a.settleEntry
  lists := b.lists ∘ a.lists

/-- The fields that a reading, an event or a lost head changes. -/
theorem update (x : Tube) (directory : List (Nat × DirEntry)) (outcomes : Vector Nat 6) (placements : Vector Nat 12)
    (headsLost : Vector Bool 8) (used taken lost : Nat) (worst : Condition) :
    x.Stands { x with directory := directory, outcomes := outcomes, placements := placements, headsLost := headsLost,
                      pagesUsed := used, pagesTaken := taken, pagesLost := lost, worstSeen := worst } :=
  ⟨rfl, rfl, rfl, rfl, rfl, rfl, rfl, rfl, rfl, fun h => h⟩

theorem noteWorst (w : Condition) (x : Tube) : x.Stands (x.noteWorst w) := by
  rw [Tube.noteWorst_eq]
  exact update x _ _ _ _ _ _ _ _

end Tube.Stands

/-! ### Every context keeps its tube -/

/-- From `s` to `t` every context keeps its tube; the tube id counter, the mark, the retired spans, the Drain Engine and the MAP
class queue stand, and no kind of `K` occurs. -/
structure Standing (K : List EventKind) (s t : State) : Prop where
  free : ∀ c, tubeAt s c = none → tubeAt t c = none
  tube : ∀ {c x}, tubeAt s c = some x → ∃ y, tubeAt t c = some y ∧ x.Stands y
  idCounter : t.tubes.idCounter = s.tubes.idCounter
  newest : t.tubes.newest = s.tubes.newest
  retired : ∀ c, t.tubes.retired c = s.tubes.retired c
  counts : ∀ k ∈ K, occurrences t k = occurrences s k
  drain : t.drain = s.drain
  mapQ : t.mill.mapQ = s.mill.mapQ

/-- The kinds that a tube's start and end raise (R47, R65, R132). -/
def tubeKinds : List EventKind := [.positionLost, .recipeRejected, .drainTruncated]

variable {K : List EventKind}

namespace Standing

theorem of_tubes {s t : State} (tubes : t.tubes = s.tubes) (counts : ∀ k ∈ K, occurrences t k = occurrences s k)
    (drain : t.drain = s.drain := by rfl) (mapQ : t.mill.mapQ = s.mill.mapQ := by rfl) : Standing K s t where
  free c h := by rw [tubeAt, tubes]; exact h
  tube {c x} h := ⟨x, by rw [tubeAt, tubes]; exact h, .refl x⟩
  idCounter := by rw [tubes]
  newest := by rw [tubes]
  retired c := by rw [tubes]
  counts := counts
  drain := drain
  mapQ := mapQ

theorem refl (s : State) : Standing K s s := of_tubes rfl fun _ _ => rfl

theorem trans {s t u : State} (a : Standing K s t) (b : Standing K t u) : Standing K s u where
  free c h := b.free c (a.free c h)
  tube h := by
    obtain ⟨y, hy, first⟩ := a.tube h
    obtain ⟨z, hz, second⟩ := b.tube hy
    exact ⟨z, hz, first.trans second⟩
  idCounter := b.idCounter.trans a.idCounter
  newest := b.newest.trans a.newest
  retired c := (b.retired c).trans (a.retired c)
  counts k hk := (b.counts k hk).trans (a.counts k hk)
  drain := b.drain.trans a.drain
  mapQ := b.mapQ.trans a.mapQ

theorem forget {s t : State} (a : Standing K s t) : Standing [] s t := { a with counts := by simp }

theorem foldl {α : Type} {f : State → α → State} (step : ∀ s x, Standing K s (f s x)) (l : List α) (s : State) :
    Standing K s (l.foldl f s) := by
  induction l generalizing s with
  | nil => exact refl s
  | cons x rest ih => exact (step s x).trans (ih _)

/-- A tube that stands at the end stood at the start. -/
theorem back {s t : State} (h : Standing K s t) {c : Ctx} {y : Tube} (tube : tubeAt t c = some y) :
    ∃ x, tubeAt s c = some x ∧ x.Stands y := by
  cases there : tubeAt s c with
  | none => simp [h.free c there] at tube
  | some x =>
    obtain ⟨z, hz, stands⟩ := h.tube there
    obtain rfl : z = y := Option.some.inj (hz.symm.trans tube)
    exact ⟨x, rfl, stands⟩

theorem sameStages {s t : State} (h : Standing K s t) : SameStages s t := fun c => by
  cases there : tubeAt s c with
  | none => rw [h.free c there]
  | some x =>
    obtain ⟨y, hy, stands⟩ := h.tube there
    rw [hy, Option.map_some, Option.map_some, stands.stage]

theorem stageIs {s t : State} (h : Standing K s t) (c : Ctx) (g : Stage) : stageIs t c g = stageIs s c g := by
  rw [Bool.eq_iff_iff, stageIs_iff, stageIs_iff, h.sameStages c]

theorem activeCtx {s t : State} (h : Standing K s t) : activeCtx t = activeCtx s := by
  simp only [Machine.activeCtx, h.stageIs]

theorem spanAt {s t : State} (h : Standing K s t) (time : Time) (c : Ctx) : spanAt t time c = spanAt s time c := by
  unfold Machine.spanAt
  cases there : tubeAt s c with
  | none => rw [h.free c there, h.retired]
  | some x =>
    obtain ⟨y, hy, stands⟩ := h.tube there
    rw [hy]
    simp only [stands.stage, stands.startTime, stands.ended, stands.id]

/-- R69: the spans stand. -/
theorem spanOf {s t : State} (h : Standing K s t) (time : Time) : spanOf t time = spanOf s time := by
  rw [Machine.spanOf, h.spanAt, h.spanAt, Machine.spanOf]

theorem putTube {s : State} {c : Ctx} {x y : Tube} (tube : tubeAt s c = some x) (stands : x.Stands y) :
    Standing K s (putTube c (some y) s) where
  free d h := by
    obtain rfl | rfl := Ctx.eq_or_other c d
    · rw [tube] at h; cases h
    · rwa [tubeAt_putTube_other]
  tube {d z} h := by
    obtain rfl | rfl := Ctx.eq_or_other c d
    · obtain rfl : x = z := Option.some.inj (tube.symm.trans h)
      exact ⟨y, tubeAt_putTube_same .., stands⟩
    · exact ⟨z, by rwa [tubeAt_putTube_other], .refl z⟩
  idCounter := by cases c <;> rfl
  newest := by cases c <;> rfl
  retired d := by cases c <;> cases d <;> rfl
  counts _ _ := rfl
  drain := rfl
  mapQ := rfl

theorem modTube (c : Ctx) {f : Tube → Tube} (stands : ∀ x : Tube, x.Stands (f x)) (s : State) :
    Standing K s (modTube c f s) := by
  cases tube : tubeAt s c with
  | none => rw [Machine.modTube, tube]; exact refl s
  | some x => rw [modTube_some tube]; exact putTube tube (stands x)

end Standing

/-! ### Occurrences and offers -/

theorem noteWorst_standing (s : State) : Standing K s (noteWorst s) where
  free c h := by cases c <;> exact congrArg (Option.map (Tube.noteWorst (worstCondition s))) h
  tube {c x} h :=
    ⟨x.noteWorst (worstCondition s), by cases c <;> exact congrArg (Option.map (Tube.noteWorst (worstCondition s))) h,
      .noteWorst _ x⟩
  idCounter := rfl
  newest := rfl
  retired c := by cases c <;> rfl
  counts _ _ := rfl
  drain := rfl
  mapQ := rfl

theorem countOccurrence_standing {k : EventKind} (hk : k ∉ K) (d : Detail) (s : State) :
    Standing K s (countOccurrence k d s) := by
  let recorded := s.setEvents { s.events with records := tableMod s.events.records k.index (EventRecord.occur s.now) }
  have stored : Standing K s recorded := .of_tubes rfl fun j hj => by
    have other : j.index ≠ k.index := fun same => hk (EventKind.index_injective same ▸ hj)
    exact congrArg EventRecord.count (tableGet_tableMod_other _ _ other)
  have first : Standing K s (noteWorst recorded) := stored.trans (noteWorst_standing recorded)
  simp only [countOccurrence]
  split
  · exact first.trans (.of_tubes (captureFailed_tubes ..) (fun j _ => by rw [occurrences, captureFailed_records, occurrences])
      (captureFailed_drain ..) (by rw [captureFailed_mill]))
  · exact first

theorem countDropped_standing (cl : Fin 6) (s : State) : Standing K s (countDropped cl s) := .of_tubes rfl fun _ _ => rfl

theorem offerNotice_standing (hn : .noticeLost ∉ K) (n : Notice) (s : State) : Standing K s (offerNotice n s) := by
  obtain ⟨_, h⟩ | ⟨_, h⟩ := offerNotice_cases n s <;> rw [h]
  · exact .of_tubes rfl fun _ _ => rfl
  · exact (countDropped_standing _ s).trans (countOccurrence_standing hn _ _)

theorem raise_standing {k : EventKind} (hk : k ∉ K) (hn : .noticeLost ∉ K) (d : Detail) (s : State) :
    Standing K s (raise k d s) := by
  obtain h | ⟨_, _, _, h⟩ := raise_cases k d s <;> rw [h]
  · exact countOccurrence_standing hk d s
  · exact (countOccurrence_standing hk d s).trans (offerNotice_standing hn _ _)

theorem noticeLost_notMem_tubeKinds : EventKind.noticeLost ∉ tubeKinds := by decide

theorem offerSummary_standing (f : SummaryFrame) (s : State) : Standing tubeKinds s (offerSummary f s) := by
  obtain ⟨_, h⟩ | ⟨_, h⟩ := offerSummary_cases f s <;> rw [h]
  · exact .of_tubes rfl fun _ _ => rfl
  · exact (countDropped_standing _ s).trans (raise_standing (by decide) noticeLost_notMem_tubeKinds _ _)

theorem decideReading_standing (r : Reading) (s : State) : Standing K s (decideReading r s) :=
  .of_tubes (decideReading_tubes r s) (fun k _ => by rw [occurrences, decideReading_events, occurrences])
    (decideReading_drain r s) (by obtain ⟨_, _, _, h⟩ := decideReading_mill r s; rw [h])

theorem decideMirror_standing (m : MirrorFrame) (s : State) : Standing K s (decideMirror m s) :=
  .of_tubes (decideMirror_tubes m s) (fun k _ => by rw [occurrences, decideMirror_events, occurrences])
    (decideMirror_drain m s) (by obtain ⟨_, _, _, h⟩ := decideMirror_mill m s; rw [h])

theorem setWall_standing (s : State) (w : WallMap) : Standing K s (s.setWall w) := .of_tubes rfl fun _ _ => rfl

theorem compareSnapshot_standing (h : HeadNo) (s : State) : Standing tubeKinds s (compareSnapshot h s) := by
  unfold compareSnapshot
  split
  · exact .refl s
  · exact raise_standing (by decide) noticeLost_notMem_tubeKinds _ s

theorem modPose_standing (f : PoseTracker → PoseTracker) (s : State) : Standing K s (modPose f s) := .of_tubes rfl fun _ _ => rfl

theorem modHead_standing (h : HeadNo) (f : HeadRecord → HeadRecord) (s : State) : Standing K s (modHead h f s) :=
  .of_tubes rfl fun _ _ => rfl

/-! ### Readings -/

theorem updateCell_standing (c : Ctx) (page bin sector : Nat) (r : Reading) (s : State) :
    Standing K s (updateCell c page bin sector r s) := by
  cases tube : tubeAt s c with
  | none => rw [updateCell, tube]; exact .refl s
  | some t =>
    rw [updateCell_some tube]
    exact (setWall_standing s _).trans (.putTube (s := s.setWall _) tube (.update t _ _ _ _ _ _ _ _))

theorem allocatePage_standing (c : Ctx) (segment page : Nat) (rest : List Nat) (s : State) :
    Standing K s (allocatePage c segment page rest s) :=
  (setWall_standing s _).trans (.modTube c (fun x => .update x _ _ _ _ _ _ _ _) (s.setWall _))

theorem reclaimPage_standing (c : Ctx) (segment : Nat) (lost : Nat × DirEntry) (s : State) :
    Standing tubeKinds s (reclaimPage c segment lost s) := by
  have gave (f : Tube → Tube) (stands : ∀ x : Tube, x.Stands (f x)) (w : WallMap) :
      Standing tubeKinds s ((modTube (otherCtx c) f s).setWall w) :=
    (Standing.modTube _ stands s).trans (.of_tubes rfl fun _ _ => rfl)
  simp only [reclaimPage]
  split
  · exact ((gave _ (fun x => .update x _ _ _ _ _ _ _ _) _).trans (.modTube c (fun x => .update x _ _ _ _ _ _ _ _) _)).trans
      (raise_standing (by decide) noticeLost_notMem_tubeKinds _ _)
  · exact (gave _ (fun x => .update x _ _ _ _ _ _ _ _) _).trans (.modTube c (fun x => .update x _ _ _ _ _ _ _ _) _)

theorem placeValid_standing (c : Ctx) (t : Tube) (bin sector : Nat) (r : Reading) (s : State) :
    Standing tubeKinds s (placeValid c t bin sector r s).2 := by
  simp only [placeValid]
  split
  · exact .refl s
  split
  · exact updateCell_standing c _ bin sector r s
  split
  · exact (allocatePage_standing c _ _ _ s).trans (updateCell_standing c _ bin sector r _)
  split
  · exact (reclaimPage_standing c _ _ s).trans (updateCell_standing c _ bin sector r _)
  · exact raise_standing (by decide) noticeLost_notMem_tubeKinds _ s

theorem countAndOffer_standing (c : Ctx) (r : Reading) (p : Placement) (s : State) :
    Standing K s (countAndOffer c r p s) :=
  (Standing.modTube c (fun x => .update x _ _ _ _ _ _ _ _) s).trans (decideReading_standing _ _)

theorem assignLive_standing (c : Ctx) (t : Tube) (r : Reading) (p : Pose) (s : State) :
    Standing tubeKinds s (assignLive c t r p s) := by
  simp only [assignLive]
  split
  · exact countAndOffer_standing c _ _ s
  split
  · exact countAndOffer_standing c _ _ s
  split
  · exact countAndOffer_standing c _ _ s
  · exact (placeValid_standing c t _ _ _ s).trans (countAndOffer_standing c _ _ _)

theorem assignPosed_standing (r : Reading) (p : Pose) (s : State) : Standing tubeKinds s (assignPosed r p s) := by
  unfold assignPosed
  split
  · exact decideReading_standing _ s
  · exact (raise_standing (by decide) noticeLost_notMem_tubeKinds _ s).trans (decideReading_standing _ _)
  · split
    · exact .refl s
    · exact assignLive_standing _ _ r p s

theorem assignUnposed_standing (r : Reading) (p : Placement) (s : State) : Standing K s (assignUnposed r p s) := by
  unfold assignUnposed
  split
  · split
    · exact .refl s
    · exact countAndOffer_standing _ _ p s
  all_goals exact decideReading_standing _ s

theorem extrapolate_standing (r : Reading) (s : State) : Standing tubeKinds s (extrapolate r s) := by
  unfold extrapolate
  split
  · exact assignUnposed_standing r _ s
  · split
    · exact assignPosed_standing _ _ s
    · exact assignUnposed_standing r _ s

theorem interpolateNewest_standing (r : Reading) (s : State) : Standing tubeKinds s (interpolateNewest r s) := by
  unfold interpolateNewest
  split
  · exact assignUnposed_standing r _ s
  · exact assignPosed_standing r _ s

theorem resolvePending_standing (due : Reading → Bool) {how : Reading → State → State}
    (resolves : ∀ r s, Standing tubeKinds s (how r s)) (s : State) : Standing tubeKinds s (resolvePending due how s) :=
  (modPose_standing _ s).trans (.foldl (fun x r => resolves r x) _ _)

theorem joinPending_standing (r : Reading) (s : State) : Standing tubeKinds s (joinPending r s) := by
  unfold joinPending
  split
  · split
    · exact (modPose_standing _ s).trans ((extrapolate_standing _ _).trans (modPose_standing _ _))
    · exact modPose_standing _ s
  · exact modPose_standing _ s

theorem resolveReading_standing (r : Reading) (s : State) : Standing tubeKinds s (resolveReading r s) := by
  unfold resolveReading
  split
  · split
    · exact assignUnposed_standing r _ s
    split
    · split
      · exact assignPosed_standing r _ s
      · exact assignUnposed_standing r _ s
    split
    · exact joinPending_standing r s
    · exact extrapolate_standing r s
  · exact assignUnposed_standing r _ s

/-! ### Heads lost (R141) -/

theorem loseHead_standing (h : HeadNo) (s : State) : Standing tubeKinds s (loseHead h s) := by
  unfold loseHead
  split
  · exact .refl s
  split
  · exact .refl s
  · exact (Standing.modTube _ (fun x => .update x _ _ _ _ _ _ _ _) s).trans
      (raise_standing (by decide) noticeLost_notMem_tubeKinds _ _)

theorem allHeadsLost_standing (s : State) : Standing tubeKinds s (allHeadsLost s) := by
  unfold allHeadsLost
  split
  · exact .refl s
  split
  · exact .refl s
  split
  · exact raise_standing (by decide) noticeLost_notMem_tubeKinds _ s
  · exact .refl s

theorem expireHead_standing (h : HeadNo) (s : State) : Standing tubeKinds s (expireHead h s) := by
  unfold expireHead
  split
  · exact (modHead_standing _ _ s).trans ((loseHead_standing h _).trans
      ((allHeadsLost_standing _).trans (compareSnapshot_standing h _)))
  · exact .refl s

end Sys2Proof.Machine
end

section
/-! What ends a step leaves of the tubes: rings closed and summaries offered, settling completed, the drain carried on. -/

namespace Sys2Proof.Machine

variable {K : List EventKind}

/-! ### Rings closed and frames offered -/

/-- `Standing`, and beyond it every directory, the wall map and the READING class queue stand; the NOTICE class queue only
grows at its tail. -/
structure Reports (K : List EventKind) (s t : State) : Prop extends Standing K s t where
  directories : ∀ {c x y}, tubeAt s c = some x → tubeAt t c = some y → y.directory = x.directory
  wall : t.wall = s.wall
  readingQ : t.mill.readingQ = s.mill.readingQ
  noticeQ : s.mill.noticeQ <+: t.mill.noticeQ

namespace Reports

theorem refl (s : State) : Reports K s s where
  toStanding := .refl s
  directories hx hy := by rw [Option.some.inj (hx.symm.trans hy)]
  wall := rfl
  readingQ := rfl
  noticeQ := List.prefix_refl _

theorem trans {s t u : State} (a : Reports K s t) (b : Reports K t u) : Reports K s u where
  toStanding := a.toStanding.trans b.toStanding
  directories hx hz := by
    obtain ⟨y, hy, _⟩ := a.tube hx
    exact (b.directories hy hz).trans (a.directories hx hy)
  wall := b.wall.trans a.wall
  readingQ := b.readingQ.trans a.readingQ
  noticeQ := a.noticeQ.trans b.noticeQ

theorem setMill (s : State) {m : MillPort} (readings : m.readingQ = s.mill.readingQ) (maps : m.mapQ = s.mill.mapQ)
    (notices : s.mill.noticeQ <+: m.noticeQ) : Reports K s (s.setMill m) where
  toStanding := .of_tubes rfl (fun _ _ => rfl) rfl maps
  directories hx hy := by rw [Option.some.inj (hx.symm.trans hy)]
  wall := rfl
  readingQ := readings
  noticeQ := notices

end Reports

/-- A notice is offered at the tail of its class queue, or dropped. -/
theorem offerNotice_noticeQ (n : Notice) (s : State) : s.mill.noticeQ <+: (offerNotice n s).mill.noticeQ := by
  obtain ⟨_, h⟩ | ⟨_, h⟩ := offerNotice_cases n s <;> rw [h]
  · exact List.prefix_append _ _
  · rw [countOccurrence_mill]; exact List.prefix_refl _

theorem raise_noticeQ (k : EventKind) (d : Detail) (s : State) : s.mill.noticeQ <+: (raise k d s).mill.noticeQ := by
  obtain h | ⟨_, _, _, h⟩ := raise_cases k d s <;> rw [h]
  · simp
  · simpa using offerNotice_noticeQ (noticeOf .occurrence k (some d) (countOccurrence k d s)) (countOccurrence k d s)

theorem raise_reports {k : EventKind} (hk : k ∉ K) (hn : .noticeLost ∉ K) (d : Detail) (s : State) :
    Reports K s (raise k d s) where
  toStanding := raise_standing hk hn d s
  directories hx hy := by
    obtain ⟨worst, h⟩ := (raise_noticeOnly k d s).tube hx
    rw [Option.some.inj (hy.symm.trans h)]
  wall := raise_wall k d s
  readingQ := (raise_noticeOnly k d s).readingQ
  noticeQ := raise_noticeQ k d s

theorem countDropped_reports (cl : Fin 6) (s : State) : Reports K s (countDropped cl s) :=
  .setMill s rfl rfl (List.prefix_refl _)

theorem offerSummary_reports (f : SummaryFrame) (s : State) : Reports tubeKinds s (offerSummary f s) := by
  obtain ⟨_, h⟩ | ⟨_, h⟩ := offerSummary_cases f s <;> rw [h]
  · exact .setMill s rfl rfl (List.prefix_refl _)
  · exact (countDropped_reports _ s).trans (raise_reports (by decide) noticeLost_notMem_tubeKinds _ _)

theorem offerTube_reports (c : Ctx) (s : State) : Reports tubeKinds s (offerTube c s) := by
  unfold offerTube
  split
  · exact .refl s
  · split
    · exact .refl s
    · exact offerSummary_reports _ s

/-- R103: a digest entry is of the bin that closes. -/
theorem digestOf_bin {r : RingRecord} {e : DigestEntry} (h : digestOf r = some e) : e.bin = r.bin := by
  unfold digestOf at h
  split at h
  · cases h; rfl
  · cases h

/-- R103: the next ring bin closed keeps the digest ascending below the next. -/
theorem Tube.closeRing_stands (x : Tube) (r : RingRecord) (closed : r.bin = x.nextRing) (n : Nat) :
    x.Stands { x with binsClosed := n, digest := x.digest ++ (digestOf r).toList, nextRing := x.nextRing + 1 } := by
  refine ⟨rfl, rfl, rfl, rfl, rfl, rfl, rfl, rfl, rfl, fun lists => ?_⟩
  simp only [Tube.listsOk, Bool.and_eq_true, decide_eq_true_eq, List.all_eq_true] at lists ⊢
  obtain ⟨⟨ascending, below⟩, heads⟩ := lists
  have last : ∀ e ∈ (digestOf r).toList, e.bin = x.nextRing := fun e he => by
    rw [Option.mem_toList] at he
    exact (digestOf_bin he).trans closed
  have short : ((digestOf r).toList.map DigestEntry.bin).Pairwise (· < ·) := by cases digestOf r <;> simp
  refine ⟨⟨?_, fun e he => ?_⟩, heads⟩
  · rw [List.map_append, List.pairwise_append]
    refine ⟨ascending, short, fun i hi j hj => ?_⟩
    obtain ⟨e, he, rfl⟩ := List.mem_map.mp hi
    obtain ⟨g, hg, rfl⟩ := List.mem_map.mp hj
    rw [last g hg]
    exact below e he
  · obtain he | he := List.mem_append.mp he
    · exact Nat.lt_succ_of_lt (below e he)
    · rw [last e he]; exact Nat.lt_succ_self _

theorem closeRing_reports (c : Ctx) (closeTime : Time) {x : Tube} {s : State} (tube : tubeAt s c = some x) :
    Reports tubeKinds s (closeRing c x.nextRing closeTime s) := by
  have offered := offerSummary_reports (.ring (ringRecord s x x.nextRing closeTime)) s
  obtain ⟨y, hy, stands⟩ := offered.tube tube
  have next : y.nextRing = x.nextRing ∧ y.digest = x.digest := by
    obtain ⟨_, h⟩ | ⟨_, h⟩ := offerSummary_cases (.ring (ringRecord s x x.nextRing closeTime)) s <;> rw [h] at hy
    · rw [Option.some.inj (hy.symm.trans tube)]; exact ⟨rfl, rfl⟩
    · obtain ⟨worst, same⟩ := (raise_noticeOnly _ _ (countDropped summaryClass s)).tube (c := c) (x := x) tube
      rw [Option.some.inj (hy.symm.trans same)]; exact ⟨rfl, rfl⟩
  unfold closeRing
  rw [tube]
  simp only
  rw [modTube_some hy]
  refine offered.trans
    { toStanding := .putTube hy ?_, directories := ?_, wall := ?_, readingQ := ?_, noticeQ := ?_ }
  · rw [← next.1]
    exact Tube.closeRing_stands y (ringRecord s x y.nextRing closeTime) rfl _
  · intro d z w hz hw
    obtain rfl | rfl := Ctx.eq_or_other c d
    · rw [tubeAt_putTube_same] at hw
      cases hw
      rw [Option.some.inj (hz.symm.trans hy)]
    · rw [tubeAt_putTube_other, hz] at hw
      cases hw; rfl
  · cases c <;> rfl
  · cases c <;> rfl
  · cases c <;> exact List.prefix_refl _

theorem closeByLead_reports (c : Ctx) (x : Int) (closeTime : Time) (n : Nat) (s : State) :
    Reports tubeKinds s (closeByLead c x closeTime n s) := by
  induction n generalizing s with
  | zero => exact .refl s
  | succ n ih =>
    unfold closeByLead
    split
    · exact .refl s
    · split
      · exact (closeRing_reports c closeTime ‹_›).trans (ih _)
      · exact .refl s

theorem closeRingsByLead_reports (f : Sample) (s : State) : Reports tubeKinds s (closeRingsByLead f s) := by
  unfold closeRingsByLead
  split
  · exact .refl s
  split
  · exact .refl s
  split
  · exact .refl s
  · exact closeByLead_reports _ _ _ _ s

theorem closeUpTo_reports (c : Ctx) (closeTime : Time) (n : Nat) (s : State) :
    Reports tubeKinds s (closeUpTo c closeTime n s) := by
  induction n generalizing s with
  | zero => exact .refl s
  | succ n ih =>
    unfold closeUpTo
    split
    · exact .refl s
    · split
      · exact (closeRing_reports c closeTime ‹_›).trans (ih _)
      · exact .refl s

theorem closeRemaining_reports (c : Ctx) (s : State) : Reports tubeKinds s (closeRemaining c s) := by
  unfold closeRemaining
  split
  · exact .refl s
  · split
    · exact closeUpTo_reports c _ _ s
    · exact .refl s

/-! ### Settling completed and the drain carried on -/

/-- `y` is the tube `x` later on, with its identity and its end; only settling may have completed and the drain begun. -/
structure Tube.Settles (x y : Tube) : Prop where
  id : y.id = x.id
  ended : y.ended = x.ended
  heads : y.heads = x.heads
  active : y.stage = .active → x.stage = .active
  settling : y.stage = .settling → x.stage = .settling ∧ y.settleEntry = x.settleEntry
  shape : x.shapeOk = true → y.shapeOk = true
  lists : x.listsOk = true → y.listsOk = true

theorem Tube.Stands.settles {x y : Tube} (h : x.Stands y) : x.Settles y where
  id := h.id
  ended := h.ended
  heads := h.heads
  active stage := h.stage.symm.trans stage
  settling stage := ⟨h.stage.symm.trans stage, h.settleEntry⟩
  shape ok := by rw [Tube.shapeOk, h.stage, h.ended, h.settleEntry]; exact ok
  lists := h.lists

theorem Tube.Settles.trans {x y z : Tube} (a : x.Settles y) (b : y.Settles z) : x.Settles z where
  id := b.id.trans a.id
  ended := b.ended.trans a.ended
  heads := b.heads.trans a.heads
  active := a.active ∘ b.active
  settling stage :=
    let ⟨first, entry⟩ := b.settling stage
    ⟨(a.settling first).1, entry.trans (a.settling first).2⟩
  shape := b.shape ∘ a.shape
  lists := b.lists ∘ a.lists

/-- A tube that ended: CLOSED_WAIT after SETTLING, or DRAINING after CLOSED_WAIT. -/
theorem Tube.settles_closedWait {x : Tube} (settling : x.stage = .settling) :
    x.Settles { x with stage := .closedWait, settleEntry := none } where
  id := rfl
  ended := rfl
  heads := rfl
  active h := by cases h
  settling h := by cases h
  shape ok := by
    rw [Tube.shapeOk, settling] at ok
    unfold Tube.shapeOk
    cases he : x.ended with
    | none => rw [he] at ok; cases ok
    | some e => simp
  lists ok := ok

theorem Tube.settles_draining {x : Tube} (waiting : x.stage = .closedWait) : x.Settles { x with stage := .draining } where
  id := rfl
  ended := rfl
  heads := rfl
  active h := by cases h
  settling h := by cases h
  shape ok := by
    rw [Tube.shapeOk, waiting] at ok
    unfold Tube.shapeOk
    simp only
    split at ok <;> simp_all
  lists ok := ok

/-- From `s` to `t` no tube starts or ends: each context's is one of `s` that settled or drained meanwhile. The MAP class queue
and the free list grow at their tails by what the drain sends; with that queue full nothing is sent and every context keeps its
tube. -/
structure Wraps (s t : State) : Prop where
  tube : ∀ {c y}, tubeAt t c = some y → ∃ x, tubeAt s c = some x ∧ x.Settles y
  idCounter : t.tubes.idCounter = s.tubes.idCounter
  newest : t.tubes.newest = s.tubes.newest
  counts : ∀ k ∈ tubeKinds, occurrences t k = occurrences s k
  pool : t.wall.pool = s.wall.pool
  readingQ : t.mill.readingQ = s.mill.readingQ
  noticeQ : s.mill.noticeQ <+: t.mill.noticeQ
  sent : ∃ pages frames, t.wall.free = s.wall.free ++ pages ∧ t.mill.mapQ = s.mill.mapQ ++ frames ∧
    (4 ≤ s.mill.mapQ.length → pages = [] ∧ frames = [])
  stays : 4 ≤ s.mill.mapQ.length → ∀ {c x}, tubeAt s c = some x → ∃ y, tubeAt t c = some y

namespace Wraps

theorem trans {s t u : State} (a : Wraps s t) (b : Wraps t u) : Wraps s u where
  tube h := by
    obtain ⟨y, hy, second⟩ := b.tube h
    obtain ⟨x, hx, first⟩ := a.tube hy
    exact ⟨x, hx, first.trans second⟩
  idCounter := b.idCounter.trans a.idCounter
  newest := b.newest.trans a.newest
  counts k hk := (b.counts k hk).trans (a.counts k hk)
  pool := b.pool.trans a.pool
  readingQ := b.readingQ.trans a.readingQ
  noticeQ := a.noticeQ.trans b.noticeQ
  sent := by
    obtain ⟨p, f, free, maps, full⟩ := a.sent
    obtain ⟨p', f', free', maps', full'⟩ := b.sent
    refine ⟨p ++ p', f ++ f', by rw [free', free, List.append_assoc], by rw [maps', maps, List.append_assoc], fun h => ?_⟩
    obtain ⟨rfl, rfl⟩ := full h
    obtain ⟨rfl, rfl⟩ := full' (by rwa [maps, List.append_nil])
    exact ⟨rfl, rfl⟩
  stays h _ _ hx := by
    obtain ⟨p, f, _, maps, full⟩ := a.sent
    obtain ⟨rfl, rfl⟩ := full h
    obtain ⟨y, hy⟩ := a.stays h hx
    exact b.stays (by rwa [maps, List.append_nil]) hy

theorem foldl {α : Type} {f : State → α → State} (step : ∀ s x, Wraps s (f s x)) (x : α) (l : List α) (s : State) :
    Wraps s ((x :: l).foldl f s) := by
  induction l generalizing s x with
  | nil => exact step s x
  | cons y rest ih => exact (step s x).trans (ih y _)

end Wraps

theorem Reports.wraps {s t : State} (h : Reports tubeKinds s t) : Wraps s t where
  tube hy := by
    obtain ⟨x, hx, stands⟩ := h.back hy
    exact ⟨x, hx, stands.settles⟩
  idCounter := h.idCounter
  newest := h.newest
  counts := h.counts
  pool := by rw [h.wall]
  readingQ := h.readingQ
  noticeQ := h.noticeQ
  sent := ⟨[], [], by rw [h.wall, List.append_nil], by rw [h.mapQ, List.append_nil], fun _ => ⟨rfl, rfl⟩⟩
  stays _ _ _ hx := let ⟨y, hy, _⟩ := h.tube hx; ⟨y, hy⟩

theorem Wraps.refl (s : State) : Wraps s s := (Reports.refl s).wraps

/-- One context's tube replaced by the same tube later on. -/
theorem putTube_wraps {c : Ctx} {x y : Tube} {s : State} (tube : tubeAt s c = some x) (settles : x.Settles y) :
    Wraps s (putTube c (some y) s) where
  tube {d z} h := by
    obtain rfl | rfl := Ctx.eq_or_other c d
    · rw [tubeAt_putTube_same] at h; cases h
      exact ⟨x, tube, settles⟩
    · exact ⟨z, by rwa [tubeAt_putTube_other] at h, (Tube.Stands.refl z).settles⟩
  idCounter := by cases c <;> rfl
  newest := by cases c <;> rfl
  counts _ _ := rfl
  pool := rfl
  readingQ := rfl
  noticeQ := List.prefix_refl _
  sent := ⟨[], [], (List.append_nil _).symm, (List.append_nil _).symm, fun _ => ⟨rfl, rfl⟩⟩
  stays _ d z h := by
    obtain rfl | rfl := Ctx.eq_or_other c d
    · exact ⟨y, tubeAt_putTube_same ..⟩
    · exact ⟨z, by rwa [tubeAt_putTube_other]⟩

theorem setDrain_wraps (x : Option Drain) (s : State) : Wraps s (s.setDrain x) where
  tube {_ y} h := ⟨y, h, (Tube.Stands.refl y).settles⟩
  idCounter := rfl
  newest := rfl
  counts _ _ := rfl
  pool := rfl
  readingQ := rfl
  noticeQ := List.prefix_refl _
  sent := ⟨[], [], (List.append_nil _).symm, (List.append_nil _).symm, fun _ => ⟨rfl, rfl⟩⟩
  stays _ _ x h := ⟨x, h⟩

theorem not_full_of_room {s : State} (room : mapRoom s = true) : ¬4 ≤ s.mill.mapQ.length := by
  have below : s.mill.mapQ.length < mapCap := by simpa [mapRoom] using room
  exact Nat.not_le.mpr below

/-- R96: a frame and a page sent, with room in the MAP class queue. -/
theorem send_wraps (f : MapClassFrame) (pages : List Nat) {s : State} (room : mapRoom s = true) :
    Wraps s ((pushMap f s).setWall { s.wall with free := s.wall.free ++ pages }) where
  tube {_ y} h := ⟨y, h, (Tube.Stands.refl y).settles⟩
  idCounter := rfl
  newest := rfl
  counts _ _ := rfl
  pool := rfl
  readingQ := rfl
  noticeQ := List.prefix_refl _
  sent := ⟨pages, [f], rfl, rfl, fun full => absurd full (not_full_of_room room)⟩
  stays _ _ x h := ⟨x, h⟩

theorem queueMapFrame_wraps {d : Drain} {t : Tube} (n : Nat) (e : DirEntry) {s : State} (room : mapRoom s = true)
    (tube : tubeAt s d.ctx = some t) : Wraps s (queueMapFrame d t n e s) :=
  (send_wraps _ _ room).trans ((putTube_wraps (s := (pushMap _ s).setWall _) tube
    (Tube.Stands.update t _ _ _ _ _ _ _ _).settles).trans (setDrain_wraps _ _))

theorem queueMapEnd_wraps {d : Drain} {t : Tube} {s : State} (room : mapRoom s = true) :
    Wraps s (queueMapEnd d t s) where
  tube {c y} h := by
    obtain rfl | rfl := Ctx.eq_or_other d.ctx c
    · exact absurd h (by unfold queueMapEnd; cases d.ctx <;> simp [tubeAt, TubeTracker.get, TubeTracker.put, TubeTracker.putRetired])
    · refine ⟨y, ?_, (Tube.Stands.refl y).settles⟩
      rw [← h]
      unfold queueMapEnd
      cases d.ctx <;> rfl
  idCounter := by unfold queueMapEnd; cases d.ctx <;> rfl
  newest := by unfold queueMapEnd; cases d.ctx <;> rfl
  counts _ _ := rfl
  pool := rfl
  readingQ := rfl
  noticeQ := List.prefix_refl _
  sent := ⟨[], [_], (List.append_nil _).symm, rfl, fun full => absurd full (not_full_of_room room)⟩
  stays full := absurd full (not_full_of_room room)

/-- R78: the context that the engine takes is CLOSED_WAIT. -/
theorem oldestWaiting_stage {s : State} {c : Ctx} (h : oldestWaiting s = some c) :
    ∃ x, tubeAt s c = some x ∧ x.stage = .closedWait := by
  have stage := List.find?_some h
  unfold stageIs at stage
  split at stage
  · cases stage
  next x hx => exact ⟨x, hx, by simpa using stage⟩

theorem takeContext_wraps (s : State) : Wraps s (takeContext s) := by
  unfold takeContext
  split
  next found =>
    obtain ⟨x, hx, stage⟩ := oldestWaiting_stage found
    rw [modTube_some hx]
    exact (putTube_wraps hx (Tube.settles_draining stage)).trans (setDrain_wraps _ _)
  next => exact .refl s

theorem drainOne_wraps (s : State) : Wraps s (drainOne s) := by
  unfold drainOne
  split
  · exact .refl s
  split
  next room =>
    split
    · exact .refl s
    next tube =>
      split
      · exact queueMapFrame_wraps _ _ room tube
      · exact queueMapEnd_wraps room
  next => exact setDrain_wraps _ s

theorem drainOn_wraps (n : Nat) (s : State) : Wraps s (drainOn n s) := by
  induction n generalizing s with
  | zero => exact .refl s
  | succ n ih =>
    unfold drainOn
    split
    · exact (drainOne_wraps s).trans ((takeContext_wraps _).trans (ih _))
    · exact .refl s

theorem runDrain_wraps (s : State) : Wraps s (runDrain s) := drainOn_wraps _ s

theorem examineDrain_wraps (s : State) : Wraps s (examineDrain s) := (takeContext_wraps s).trans (runDrain_wraps _)

/-- R77: rings and TUBE frame, before the context becomes CLOSED_WAIT. -/
theorem offerClosing_reports (c : Ctx) (s : State) : Reports tubeKinds s (offerTube c (closeRemaining c s)) :=
  (closeRemaining_reports c s).trans (offerTube_reports c _)

/-- R77: a context whose settling completes becomes CLOSED_WAIT. -/
theorem closedWait_wraps {c : Ctx} {x : Tube} {s : State} (tube : tubeAt s c = some x) (settling : x.stage = .settling) :
    Wraps s (modTube c (fun t => { t with stage := .closedWait, settleEntry := none }) (offerTube c (closeRemaining c s))) := by
  obtain ⟨y, hy, stands⟩ := (offerClosing_reports c s).tube tube
  rw [modTube_some hy]
  exact (offerClosing_reports c s).wraps.trans (putTube_wraps hy (Tube.settles_closedWait (stands.stage.trans settling)))

theorem completeSettling_wraps {c : Ctx} {x : Tube} {s : State} (tube : tubeAt s c = some x)
    (settling : x.stage = .settling) : Wraps s (completeSettling c s) :=
  (closedWait_wraps tube settling).trans (examineDrain_wraps _)

theorem examineSettle_wraps (c : Ctx) (s : State) : Wraps s (examineSettle c s) := by
  unfold examineSettle
  split
  · exact .refl s
  next tube =>
    split
    next stage _ =>
      split
      · exact completeSettling_wraps tube stage
      · exact .refl s
    next => exact .refl s

/-- Both contexts are examined, in one order or the other. -/
theorem examineBoth_eq (s : State) : ∃ c, examineBoth s = examineSettle (otherCtx c) (examineSettle c s) := by
  unfold examineBoth olderFirst
  cases s.tubes.newest with
  | none => exact ⟨.a, rfl⟩
  | some c => exact ⟨otherCtx c, by rw [otherCtx_otherCtx]; rfl⟩

theorem examineBoth_wraps (s : State) : Wraps s (examineBoth s) := by
  obtain ⟨c, h⟩ := examineBoth_eq s
  rw [h]
  exact (examineSettle_wraps c s).trans (examineSettle_wraps _ _)

/-! ### No settle condition left true (R75) -/

/-- R74: the settle condition looks at the latched heads, the Trace Queue, the evaluator, the pending list and the heads'
records alone. -/
theorem settleCondition_congr {s t : State} {x y : Tube} (heads : y.heads = x.heads) (traceQueue : t.traceQueue = s.traceQueue)
    (evaluator : t.evaluator.map Evaluation.trace = s.evaluator.map Evaluation.trace)
    (waiting : t.pose.waiting = s.pose.waiting)
    (records : ∀ h : HeadNo, (tableGet t.headPort.heads h).state = (tableGet s.headPort.heads h).state ∧
      (tableGet t.headPort.heads h).lastTimestamp = (tableGet s.headPort.heads h).lastTimestamp) (e : Time) :
    settleCondition t y e = settleCondition s x e := by
  have headWaited : headWaitedFor t e = headWaitedFor s e := funext fun h => by
    simp only [headWaitedFor, (records h.head).1, (records h.head).2]
  unfold settleCondition
  rw [heads, traceQueue, waiting, headWaited]
  cases hs : s.evaluator <;> cases ht : t.evaluator <;> simp_all

theorem Downstream.settleCondition {s t : State} (h : Downstream K s t) {x y : Tube} (heads : y.heads = x.heads) (e : Time) :
    settleCondition t y e = settleCondition s x e :=
  settleCondition_congr heads h.traceQueue (by rw [h.evaluator]) (by rw [h.pose]) (by simp [h.headPort]) e

theorem settledOk_iff (s : State) (c : Ctx) :
    settledOk s c = true ↔
      ∀ x e, tubeAt s c = some x → x.stage = .settling → x.ended = some e → settleCondition s x e.time = false := by
  unfold settledOk
  cases tubeAt s c with
  | none => simp
  | some x =>
    constructor
    · rintro ok y e hy settling ended
      cases hy
      simpa [settling, ended] using ok
    · intro ok
      split
      next => rfl
      next tube =>
        cases tube
        split
        next settling ended => simpa using ok x _ rfl settling ended
        next => rfl

theorem settledOk_of_wraps {s t : State} (wraps : Wraps s t) (same : Downstream K s t) {c : Ctx} (h : settledOk s c = true) :
    settledOk t c = true := by
  rw [settledOk_iff] at h ⊢
  intro y e hy settling ended
  obtain ⟨x, hx, settles⟩ := wraps.tube hy
  rw [same.settleCondition settles.heads]
  exact h x e hx (settles.settling settling).1 (settles.ended.symm.trans ended)

theorem examineSettle_settledOk (c : Ctx) (s : State) : settledOk (examineSettle c s) c = true := by
  rw [settledOk_iff]
  intro y e hy settling ended
  obtain ⟨x, hx, settles⟩ := (examineSettle_wraps c s).tube hy
  obtain ⟨stage, _⟩ := settles.settling settling
  have ended' : x.ended = some e := settles.ended.symm.trans ended
  rw [(examineSettle_downstream c s).settleCondition settles.heads]
  by_contra holds
  rw [Bool.not_eq_false] at holds
  have completed : examineSettle c s = completeSettling c s := by
    unfold examineSettle
    simp only [hx, stage, ended', holds, if_true]
  rw [completed] at hy
  obtain ⟨z, hz, drains⟩ := (examineDrain_wraps _).tube hy
  obtain ⟨w, hw, _⟩ := (offerClosing_reports c s).tube hx
  rw [modTube_some hw, tubeAt_putTube_same] at hz
  cases hz
  exact Stage.noConfusion (drains.settling settling).1

/-- R75: whatever the state, both examinations leave no settle condition true. -/
theorem examineBoth_settleLaw (s : State) : SettleLaw (examineBoth s) := by
  obtain ⟨c, h⟩ := examineBoth_eq s
  rw [h]
  have first := settledOk_of_wraps (examineSettle_wraps (otherCtx c) (examineSettle c s)) (examineSettle_downstream _ _)
    (examineSettle_settledOk c s)
  have second := examineSettle_settledOk (otherCtx c) (examineSettle c s)
  cases c
  · exact ⟨first, second⟩
  · exact ⟨second, first⟩

end Sys2Proof.Machine
end

section
/-! What a step leaves of the tubes' laws (R57, R61, R63, R75, R80), command by command. -/

namespace Sys2Proof.Machine

variable {K J : List EventKind}

/-! ### Commands that leave the settle conditions alone -/

/-- From `s` to `t` no tube starts or ends, and nothing that the presence run or a settle condition looks at changes. -/
structure Undisturbed (s t : State) : Prop where
  tube : ∀ {c y}, tubeAt t c = some y → ∃ x, tubeAt s c = some x ∧ x.Settles y
  idCounter : t.tubes.idCounter = s.tubes.idCounter
  newest : t.tubes.newest = s.tubes.newest
  presence : t.pose.presence = s.pose.presence
  runLength : t.pose.runLength = s.pose.runLength
  runFirst : t.pose.runFirst = s.pose.runFirst
  waiting : t.pose.waiting = s.pose.waiting
  traceQueue : t.traceQueue = s.traceQueue
  evaluated : t.evaluator.map Evaluation.trace = s.evaluator.map Evaluation.trace
  intake : ∀ h : HeadNo, (tableGet t.headPort.heads h).state = (tableGet s.headPort.heads h).state ∧
    (tableGet t.headPort.heads h).lastTimestamp = (tableGet s.headPort.heads h).lastTimestamp

namespace Undisturbed

theorem trans {s t u : State} (a : Undisturbed s t) (b : Undisturbed t u) : Undisturbed s u where
  tube h := by
    obtain ⟨y, hy, second⟩ := b.tube h
    obtain ⟨x, hx, first⟩ := a.tube hy
    exact ⟨x, hx, first.trans second⟩
  idCounter := b.idCounter.trans a.idCounter
  newest := b.newest.trans a.newest
  presence := b.presence.trans a.presence
  runLength := b.runLength.trans a.runLength
  runFirst := b.runFirst.trans a.runFirst
  waiting := b.waiting.trans a.waiting
  traceQueue := b.traceQueue.trans a.traceQueue
  evaluated := b.evaluated.trans a.evaluated
  intake h := ⟨(b.intake h).1.trans (a.intake h).1, (b.intake h).2.trans (a.intake h).2⟩

theorem of_wraps {s t : State} (wraps : Wraps s t) (same : Downstream J s t) : Undisturbed s t where
  tube := wraps.tube
  idCounter := wraps.idCounter
  newest := wraps.newest
  presence := by rw [same.pose]
  runLength := by rw [same.pose]
  runFirst := by rw [same.pose]
  waiting := by rw [same.pose]
  traceQueue := same.traceQueue
  evaluated := by rw [same.evaluator]
  intake h := by rw [same.headPort]; exact ⟨rfl, rfl⟩

theorem of_standing {s t : State} (stands : Standing K s t) (same : Downstream J s t) : Undisturbed s t where
  tube hy := by
    obtain ⟨x, hx, h⟩ := stands.back hy
    exact ⟨x, hx, h.settles⟩
  idCounter := stands.idCounter
  newest := stands.newest
  presence := by rw [same.pose]
  runLength := by rw [same.pose]
  runFirst := by rw [same.pose]
  waiting := by rw [same.pose]
  traceQueue := same.traceQueue
  evaluated := by rw [same.evaluator]
  intake h := by rw [same.headPort]; exact ⟨rfl, rfl⟩

/-- The tubes, the pose, the queue and the evaluator stand. -/
theorem of_eq {s t : State} (tubes : t.tubes = s.tubes) (pose : t.pose = s.pose) (traceQueue : t.traceQueue = s.traceQueue)
    (evaluated : t.evaluator.map Evaluation.trace = s.evaluator.map Evaluation.trace)
    (intake : ∀ h : HeadNo, (tableGet t.headPort.heads h).state = (tableGet s.headPort.heads h).state ∧
      (tableGet t.headPort.heads h).lastTimestamp = (tableGet s.headPort.heads h).lastTimestamp) : Undisturbed s t where
  tube {_ y} hy := ⟨y, by rwa [tubeAt, tubes] at hy, (Tube.Stands.refl y).settles⟩
  idCounter := by rw [tubes]
  newest := by rw [tubes]
  presence := by rw [pose]
  runLength := by rw [pose]
  runFirst := by rw [pose]
  waiting := by rw [pose]
  traceQueue := traceQueue
  evaluated := evaluated
  intake := intake

theorem refl (s : State) : Undisturbed s s := .of_eq rfl rfl rfl rfl fun _ => ⟨rfl, rfl⟩

theorem setMill (s : State) (x : MillPort) : Undisturbed s (s.setMill x) := .of_eq rfl rfl rfl rfl fun _ => ⟨rfl, rfl⟩

theorem setAgent (s : State) (x : Agent) : Undisturbed s (s.setAgent x) := .of_eq rfl rfl rfl rfl fun _ => ⟨rfl, rfl⟩

theorem setEvents (s : State) (x : EventUnit) : Undisturbed s (s.setEvents x) := .of_eq rfl rfl rfl rfl fun _ => ⟨rfl, rfl⟩

theorem setHeadPort (s : State) (x : HeadPort) (heads : x.heads = s.headPort.heads := by rfl) :
    Undisturbed s (s.setHeadPort x) :=
  .of_eq rfl rfl rfl rfl fun h => by rw [State.setHeadPort_headPort, heads]; exact ⟨rfl, rfl⟩

/-- An intake record whose counts alone change. -/
theorem modHead (h : HeadNo) (f : HeadRecord → HeadRecord) (s : State) (state : ∀ r, (f r).state = r.state := by intro; rfl)
    (last : ∀ r, (f r).lastTimestamp = r.lastTimestamp := by intro; rfl) : Undisturbed s (modHead h f s) :=
  .of_eq rfl rfl rfl rfl fun g => by
    by_cases same : g = h
    · subst same
      simp only [Machine.modHead, State.setHeadPort_headPort, tableGet_tableMod_same]
      exact ⟨state _, last _⟩
    · simp only [Machine.modHead, State.setHeadPort_headPort, tableGet_tableMod_other _ _ same, and_self]

theorem settledOk {s t : State} (h : Undisturbed s t) {c : Ctx} (ok : settledOk s c = true) : settledOk t c = true := by
  rw [settledOk_iff] at ok ⊢
  intro y e hy settling ended
  obtain ⟨x, hx, settles⟩ := h.tube hy
  rw [settleCondition_congr settles.heads h.traceQueue h.evaluated h.waiting h.intake]
  exact ok x e hx (settles.settling settling).1 (settles.ended.symm.trans ended)

end Undisturbed

/-! ### No tube starts -/

/-- R57: the first frame of the presence run is recorded exactly while the run counts a frame. -/
def PoseTracker.RunLawful (p : PoseTracker) : Prop := (p.runFirst.isSome = true ↔ 1 ≤ p.runLength) ∧ p.runLength ≤ 8

/-- `y` is the tube `x` later on: with its identity, and ACTIVE only if it was. -/
structure Tube.GoesOn (x y : Tube) : Prop where
  id : y.id = x.id
  active : y.stage = .active → x.stage = .active
  shape : x.shapeOk = true → y.shapeOk = true
  lists : x.listsOk = true → y.listsOk = true

theorem Tube.Settles.goesOn {x y : Tube} (h : x.Settles y) : x.GoesOn y := ⟨h.id, h.active, h.shape, h.lists⟩

theorem Tube.Stands.goesOn {x y : Tube} (h : x.Stands y) : x.GoesOn y := h.settles.goesOn

/-- From `s` to `t` no tube starts, the presence state stands, and the presence run stays lawful. -/
structure Proceeds (s t : State) : Prop where
  tube : ∀ {c y}, tubeAt t c = some y → ∃ x, tubeAt s c = some x ∧ x.GoesOn y
  idCounter : t.tubes.idCounter = s.tubes.idCounter
  newest : t.tubes.newest = s.tubes.newest
  presence : t.pose.presence = s.pose.presence
  run : s.pose.RunLawful → t.pose.RunLawful

namespace Proceeds

theorem trans {s t u : State} (a : Proceeds s t) (b : Proceeds t u) : Proceeds s u where
  tube h := by
    obtain ⟨y, hy, second⟩ := b.tube h
    obtain ⟨x, hx, first⟩ := a.tube hy
    exact ⟨x, hx, ⟨second.id.trans first.id, first.active ∘ second.active, second.shape ∘ first.shape,
      second.lists ∘ first.lists⟩⟩
  idCounter := b.idCounter.trans a.idCounter
  newest := b.newest.trans a.newest
  presence := b.presence.trans a.presence
  run := b.run ∘ a.run

theorem of_standing {s t : State} (h : Standing K s t) (presence : t.pose.presence = s.pose.presence)
    (run : s.pose.RunLawful → t.pose.RunLawful) : Proceeds s t where
  tube hy := by
    obtain ⟨x, hx, stands⟩ := h.back hy
    exact ⟨x, hx, stands.goesOn⟩
  idCounter := h.idCounter
  newest := h.newest
  presence := presence
  run := run

/-- Tubes that stand beside a Pose Tracker that does not change. -/
theorem of_pose {s t : State} (h : Standing K s t) (pose : t.pose = s.pose) : Proceeds s t :=
  .of_standing h (by rw [pose]) (by rw [pose]; exact id)

theorem of_downstream {s t : State} (h : Standing K s t) (same : Downstream J s t) : Proceeds s t := .of_pose h same.pose

theorem of_undisturbed {s t : State} (h : Undisturbed s t) : Proceeds s t where
  tube hy := by
    obtain ⟨x, hx, settles⟩ := h.tube hy
    exact ⟨x, hx, settles.goesOn⟩
  idCounter := h.idCounter
  newest := h.newest
  presence := h.presence
  run := by unfold PoseTracker.RunLawful; rw [h.runFirst, h.runLength]; exact id

theorem refl (s : State) : Proceeds s s := of_undisturbed (.refl s)

/-- Neither the tubes nor the Pose Tracker change. -/
theorem of_eq {s t : State} (tubes : t.tubes = s.tubes) (pose : t.pose = s.pose) : Proceeds s t where
  tube {_ y} hy := ⟨y, by rwa [tubeAt, tubes] at hy, (Tube.Stands.refl y).goesOn⟩
  idCounter := by rw [tubes]
  newest := by rw [tubes]
  presence := by rw [pose]
  run := by rw [pose]; exact id

theorem setHeadPort (s : State) (x : HeadPort) : Proceeds s (s.setHeadPort x) := .of_eq rfl rfl

theorem setEvaluator (s : State) (x : Option Evaluation) : Proceeds s (s.setEvaluator x) := .of_eq rfl rfl

theorem setAgent (s : State) (x : Agent) : Proceeds s (s.setAgent x) := .of_eq rfl rfl

theorem modHead (h : HeadNo) (f : HeadRecord → HeadRecord) (s : State) : Proceeds s (modHead h f s) := .setHeadPort s _

theorem of_wraps {s t : State} (h : Wraps s t) (same : Downstream J s t) : Proceeds s t := of_undisturbed (.of_wraps h same)

theorem modPose (f : PoseTracker → PoseTracker) (s : State) (presence : (f s.pose).presence = s.pose.presence)
    (run : s.pose.RunLawful → (f s.pose).RunLawful) : Proceeds s (modPose f s) :=
  .of_standing (K := []) (.of_tubes rfl (by simp)) presence run

theorem foldl {α : Type} {f : State → α → State} (step : ∀ s x, Proceeds s (f s x)) (l : List α) (s : State) :
    Proceeds s (l.foldl f s) := by
  induction l generalizing s with
  | nil => exact refl s
  | cons x rest ih => exact (step s x).trans (ih _)

end Proceeds

/-! ### The laws of the tubes -/

/-- A law of the tube record in both contexts. -/
theorem all_tubes_iff (s : State) (p : Tube → Bool) :
    (s.tubes.a.all p = true ∧ s.tubes.b.all p = true) ↔ ∀ c x, tubeAt s c = some x → p x = true := by
  simp only [Option.all_eq_true, tubeAt]
  constructor
  · rintro ⟨ha, hb⟩ c x hx
    cases c
    · exact ha x hx
    · exact hb x hx
  · exact fun h => ⟨fun x hx => h .a x hx, fun x hx => h .b x hx⟩

theorem activeCtx_none_iff (s : State) : activeCtx s = none ↔ ∀ c, stageIs s c .active = false := by
  unfold activeCtx
  constructor
  · intro h c
    split at h
    · cases h
    split at h
    · cases h
    · cases c <;> simp_all
  · intro h
    rw [h .a, h .b]
    rfl

/-- `TubeLaw` by context. -/
theorem tubeLaw_iff (s : State) :
    TubeLaw s ↔ (∀ c x, tubeAt s c = some x → x.shapeOk = true) ∧ (∀ c x, tubeAt s c = some x → x.listsOk = true) ∧
      ¬(stageIs s .a .active = true ∧ stageIs s .b .active = true) ∧
      (s.pose.presence = .absent → ∀ c, stageIs s c .active = false) ∧ s.pose.RunLawful := by
  rw [← all_tubes_iff, ← all_tubes_iff, ← activeCtx_none_iff]
  unfold PoseTracker.RunLawful
  constructor
  · rintro ⟨sa, sb, la, lb, one, absent, run, le⟩; exact ⟨⟨sa, sb⟩, ⟨la, lb⟩, one, absent, run, le⟩
  · rintro ⟨⟨sa, sb⟩, ⟨la, lb⟩, one, absent, run, le⟩; exact ⟨sa, sb, la, lb, one, absent, run, le⟩

/-- `IdLaw` by context. -/
theorem idLaw_iff (s : State) :
    IdLaw s ↔ (s.tubes.newest = none → ∀ c, tubeAt s c = none) ∧
      ∀ n, s.tubes.newest = some n → (∀ x, tubeAt s n = some x → x.id = s.tubes.idCounter) ∧
        ∀ x, tubeAt s (otherCtx n) = some x → x.id ≠ s.tubes.idCounter := by
  unfold IdLaw tubeIdsOk
  cases s.tubes.newest with
  | none =>
    simp only [Bool.and_eq_true, Option.isNone_iff_eq_none, true_implies, reduceCtorEq, false_implies, implies_true, and_true]
    constructor
    · rintro ⟨ha, hb⟩ c
      cases c
      · exact ha
      · exact hb
    · exact fun h => ⟨h .a, h .b⟩
  | some n => simp [Option.all_eq_true]

namespace Proceeds

variable {s t : State}

theorem stageIs_active (h : Proceeds s t) {c : Ctx} (active : stageIs t c .active = true) : stageIs s c .active = true := by
  cases hy : tubeAt t c with
  | none => simp [stageIs, hy] at active
  | some y =>
    obtain ⟨x, hx, goes⟩ := h.tube hy
    rw [stageIs_of_tubeAt hy, beq_iff_eq] at active
    rw [stageIs_of_tubeAt hx, beq_iff_eq]
    exact goes.active active

theorem tubeLaw (h : Proceeds s t) (hs : TubeLaw s) : TubeLaw t := by
  rw [tubeLaw_iff] at hs ⊢
  obtain ⟨shape, lists, one, absent, run⟩ := hs
  refine ⟨fun c y hy => ?_, fun c y hy => ?_, fun both => one ⟨h.stageIs_active both.1, h.stageIs_active both.2⟩,
    fun gone c => ?_, h.run run⟩
  · obtain ⟨x, hx, goes⟩ := h.tube hy
    exact goes.shape (shape c x hx)
  · obtain ⟨x, hx, goes⟩ := h.tube hy
    exact goes.lists (lists c x hx)
  · rw [← Bool.not_eq_true]
    exact fun active => Bool.false_ne_true ((absent (h.presence.symm.trans gone) c).symm.trans (h.stageIs_active active))

theorem idLaw (h : Proceeds s t) (hs : IdLaw s) : IdLaw t := by
  rw [idLaw_iff] at hs ⊢
  rw [h.newest, h.idCounter]
  refine ⟨fun unmarked c => ?_, fun n newest => ⟨fun y hy => ?_, fun y hy => ?_⟩⟩
  · cases hy : tubeAt t c with
    | none => rfl
    | some y =>
      obtain ⟨x, hx, _⟩ := h.tube hy
      rw [hs.1 unmarked c] at hx
      cases hx
  · obtain ⟨x, hx, goes⟩ := h.tube hy
    exact goes.id.trans ((hs.2 n newest).1 x hx)
  · obtain ⟨x, hx, goes⟩ := h.tube hy
    rw [goes.id]
    exact (hs.2 n newest).2 x hx

end Proceeds

/-- What a command keeps of the tubes' laws. -/
structure KeepsTubes (s t : State) : Prop where
  tubes : TubeLaw s → TubeLaw t
  ids : IdLaw s → IdLaw t
  settled : SettleLaw s → SettleLaw t

theorem KeepsTubes.trans {s t u : State} (a : KeepsTubes s t) (b : KeepsTubes t u) : KeepsTubes s u :=
  ⟨b.tubes ∘ a.tubes, b.ids ∘ a.ids, b.settled ∘ a.settled⟩

theorem Undisturbed.keeps {s t : State} (h : Undisturbed s t) : KeepsTubes s t where
  tubes := (Proceeds.of_undisturbed h).tubeLaw
  ids := (Proceeds.of_undisturbed h).idLaw
  settled ok := ⟨h.settledOk ok.1, h.settledOk ok.2⟩

theorem KeepsTubes.refl (s : State) : KeepsTubes s s := (Undisturbed.refl s).keeps

/-- R75: a step that ends with both settle conditions examined. -/
theorem Proceeds.examined {s t : State} (h : Proceeds s t) : KeepsTubes s (examineBoth t) where
  tubes hs := (Proceeds.of_wraps (examineBoth_wraps t) (examineBoth_downstream t)).tubeLaw (h.tubeLaw hs)
  ids hs := (Proceeds.of_wraps (examineBoth_wraps t) (examineBoth_downstream t)).idLaw (h.idLaw hs)
  settled _ := examineBoth_settleLaw t

/-! ### The operations that leave the settle conditions alone -/

theorem raise_undisturbed (k : EventKind) (d : Detail) (s : State) : Undisturbed s (raise k d s) :=
  .of_standing (K := []) (raise_standing (by simp) (by simp) d s) (raise_downstream (K := []) (by simp) (by simp) d s)

theorem dropRun_undisturbed (s : State) : Undisturbed s (dropRun s) :=
  .of_eq rfl rfl rfl (by simp [dropRun, Option.map_map]; rfl) fun _ => ⟨rfl, rfl⟩

theorem writeFactor_undisturbed (r : CalRun) (o : CalOutcome) (k : Option Nat) (s : State) :
    Undisturbed s (writeFactor r o k s) := by
  unfold writeFactor
  split
  · exact .setAgent s _
  · exact .refl s

theorem endRun_undisturbed (r : CalRun) (o : CalOutcome) (k : Option Nat) (s : State) : Undisturbed s (endRun r o k s) :=
  (writeFactor_undisturbed r o k s).trans ((Undisturbed.of_standing (offerSummary_standing _ _) (offerSummary_downstream _ _)).trans
    ((raise_undisturbed _ _ _).trans (dropRun_undisturbed _)))

theorem abortRun_undisturbed (s : State) : Undisturbed s (abortRun s) := by
  unfold abortRun
  split
  · exact .refl s
  · exact endRun_undisturbed _ _ _ s

theorem expireRun_undisturbed (s : State) : Undisturbed s (expireRun s) := by
  unfold expireRun
  split
  · exact .refl s
  split
  · exact endRun_undisturbed _ _ _ s
  · exact .refl s

theorem runTakes_undisturbed (r : Reading) (s : State) : Undisturbed s (runTakes r s) := by
  have decided (x : Reading) (u : State) : Undisturbed u (decideReading x u) :=
    .of_standing (decideReading_standing (K := []) x u) (decideReading_downstream (K := []) x u)
  simp only [runTakes]
  split
  · exact .refl s
  split
  · exact (Undisturbed.setAgent s _).trans ((endRun_undisturbed _ _ _ _).trans (decided _ _))
  · exact (Undisturbed.setAgent s _).trans (decided _ _)

theorem countIdleDiscard_undisturbed (h : HeadNo) (s : State) : Undisturbed s (countIdleDiscard h s) :=
  .modHead h _ s

theorem rejectHeadFrame_undisturbed (r : HeadReject) (s : State) : Undisturbed s (rejectHeadFrame r s) := by
  cases r with
  | traceFields h =>
    exact (Undisturbed.setHeadPort s _).trans ((Undisturbed.modHead h _ _).trans
      (raise_undisturbed _ _ _))
  | frameCheck | kind | source | length => exact (Undisturbed.setHeadPort s _).trans (raise_undisturbed _ _ _)

theorem releaseHeld_undisturbed (s : State) : Undisturbed s (releaseHeld s) := by
  unfold releaseHeld
  split
  · exact .refl s
  split
  · exact (Undisturbed.setMill s _).trans (.setAgent _ _)
  · exact .refl s

theorem startTransmission_undisturbed (s : State) : Undisturbed s (startTransmission s) := by
  unfold startTransmission
  split
  · split
    · exact (Undisturbed.setMill s _).trans (releaseHeld_undisturbed _)
    · exact .setMill s _
    · exact .setMill s _
    · exact (Undisturbed.setMill s _).trans (.of_wraps (runDrain_wraps _) (runDrain_downstream (K := []) _))
    · exact .setMill s _
    · exact .setMill s _
    · exact .refl s
  · exact .refl s

theorem rejectMillFrame_undisturbed (r : MillReject) (s : State) : Undisturbed s (rejectMillFrame r s) := by
  cases r <;> exact (Undisturbed.setMill s _).trans (raise_undisturbed _ _ _)

theorem queueRequest_undisturbed (r : Request) (s : State) : Undisturbed s (queueRequest r s) := by
  unfold queueRequest
  split
  · exact .setMill s _
  · exact (Undisturbed.setMill s _).trans (raise_undisturbed _ _ _)

theorem respond_undisturbed (r : Request) (a : Response) (s : State) : Undisturbed s (respond r a s) := by
  obtain ⟨_, h⟩ | ⟨_, h⟩ := respond_cases r a s <;> rw [h]
  · exact .setMill s _
  · exact .setAgent s _

theorem compareSnapshot_undisturbed (h : HeadNo) (s : State) : Undisturbed s (compareSnapshot h s) :=
  .of_standing (compareSnapshot_standing h s) (compareSnapshot_downstream h s)

theorem reraiseHeadChange_undisturbed (s : State) : Undisturbed s (reraiseHeadChange s) := by
  unfold reraiseHeadChange
  split
  · exact .refl s
  · exact compareSnapshot_undisturbed _ s

theorem clearEvent_undisturbed (k : EventKind) (s : State) : Undisturbed s (clearEvent k s) := by
  simp only [clearEvent]
  split
  · exact (Undisturbed.setEvents s _).trans (reraiseHeadChange_undisturbed _)
  · exact .setEvents s _

theorem storeEvent_undisturbed (k : EventKind) (severity : Severity) (report : Bool) (s : State) :
    Undisturbed s (storeEvent k severity report s) := by
  have noted (x : EventUnit) : Standing [] s (noteWorst (s.setEvents x)) :=
    (Standing.of_tubes (s := s) (t := s.setEvents x) rfl (by simp)).trans (noteWorst_standing _)
  refine .of_standing (K := []) ?_ (storeEvent_downstream k severity report s)
  simp only [storeEvent]
  split
  · exact (noted _).trans (offerNotice_standing (by simp) _ _)
  · exact noted _

theorem clearEntry_undisturbed (e : EntryName) (s : State) : Undisturbed s (clearEntry e s) := by
  cases e with
  | headStatus h => exact .modHead h _ s
  | tempChannel ch => exact .setHeadPort s _
  | event k => exact clearEvent_undisturbed k s
  | fault => exact .setEvents s _
  | portCounters => exact (Undisturbed.setHeadPort s _).trans (.setMill _ _)
  | head | gate | velocity | velocityCount | mapSetup | timing | output | calib | pose | context | directory | mapPage =>
    exact .refl s

theorem afterRead_undisturbed (e : EntryName) (s : State) : Undisturbed s (afterRead e s) := by
  unfold afterRead
  split
  · exact .setEvents s _
  all_goals exact .refl s

/-! ### The operations that a settle condition may look at -/

theorem resolvePending_proceeds (due : Reading → Bool) {how : Reading → State → State}
    (stands : ∀ r s, Standing tubeKinds s (how r s)) (resolves : ∀ r s, Downstream evaluationKinds s (how r s)) (s : State) :
    Proceeds s (resolvePending due how s) :=
  (Proceeds.modPose _ s rfl id).trans (.foldl (fun x r => .of_downstream (stands r x) (resolves r x)) _ _)

theorem joinPending_proceeds (r : Reading) (s : State) : Proceeds s (joinPending r s) := by
  unfold joinPending
  split
  · split
    · exact (Proceeds.modPose _ s rfl id).trans
        ((Proceeds.of_downstream (extrapolate_standing _ _) (extrapolate_downstream _ _)).trans (.modPose _ _ rfl id))
    · exact .modPose _ s rfl id
  · exact .modPose _ s rfl id

theorem resolveReading_proceeds (r : Reading) (s : State) : Proceeds s (resolveReading r s) := by
  have unposed (p : Placement) : Proceeds s (assignUnposed r p s) :=
    .of_downstream (assignUnposed_standing (K := []) r p s) (assignUnposed_downstream (K := []) r p s)
  unfold resolveReading
  split
  · split
    · exact unposed _
    split
    · split
      · exact .of_downstream (assignPosed_standing r _ s) (assignPosed_downstream r _ s)
      · exact unposed _
    split
    · exact joinPending_proceeds r s
    · exact .of_downstream (extrapolate_standing r s) (extrapolate_downstream r s)
  · exact unposed _

theorem completeEvaluation_proceeds (ev : Evaluation) (s : State) : Proceeds s (completeEvaluation ev s) := by
  have handed : Proceeds s (handOn ev.tie (evaluate ev) (s.setEvaluator none)) := by
    refine (Proceeds.setEvaluator s none).trans ?_
    unfold handOn
    split
    · exact resolveReading_proceeds _ _
    · exact .of_undisturbed (runTakes_undisturbed _ _)
    · exact .refl _
  have flawed (u : State) : Proceeds u (raiseFlaw (evaluate ev) u) := by
    unfold raiseFlaw
    split
    · exact .of_undisturbed (raise_undisturbed _ _ _)
    · exact .refl u
  have fallen (u : State) : Proceeds u (raiseTempFallback (evaluate ev) ev.slice.channel u) := by
    unfold raiseTempFallback
    split
    · exact .of_undisturbed (raise_undisturbed _ _ _)
    · exact .refl u
  exact handed.trans ((flawed _).trans ((fallen _).trans
    (.of_downstream (decideMirror_standing (K := []) _ _) (decideMirror_downstream (K := []) _ _))))

theorem startEvaluation_proceeds (t : Trace) (rest : List Trace) (s : State) : Proceeds s (startEvaluation t rest s) := by
  simp only [startEvaluation]
  split
  · exact .of_eq rfl rfl
  split <;> exact .of_eq rfl rfl

theorem expireHead_proceeds (h : HeadNo) (s : State) : Proceeds s (expireHead h s) := by
  unfold expireHead
  split
  · exact (Proceeds.modHead h _ s).trans
      ((Proceeds.of_downstream (loseHead_standing h _) (loseHead_downstream h _)).trans
        ((Proceeds.of_downstream (allHeadsLost_standing _) (allHeadsLost_downstream _)).trans
          (.of_undisturbed (compareSnapshot_undisturbed h _))))
  · exact .refl s

/-- R57: the presence run reset. -/
theorem runLawful_reset (p : PoseTracker) : ({ p with runLength := 0, runFirst := none } : PoseTracker).RunLawful := by
  simp [PoseTracker.RunLawful]

/-- R67: a tube that ends is SETTLING, with its end and its settle entry time. -/
theorem Tube.finish_goesOn {x : Tube} (active : x.stage = .active) (now time : Time) (travel : Nat) (reason : CloseReason) :
    x.GoesOn (x.finish now time travel reason) :=
  ⟨rfl, fun _ => active, fun _ => rfl, fun h => h⟩

theorem activeCtx_some {s : State} {c : Ctx} (h : activeCtx s = some c) : ∃ x, tubeAt s c = some x ∧ x.stage = .active := by
  have stage : stageIs s c .active = true := by
    unfold activeCtx at h
    split at h
    · cases h; assumption
    split at h
    · cases h; assumption
    · cases h
  cases hx : tubeAt s c with
  | none => simp [stageIs, hx] at stage
  | some x => exact ⟨x, rfl, by rwa [stageIs_of_tubeAt hx, beq_iff_eq] at stage⟩

theorem endTube_proceeds (time : Time) (travel : Nat) (reason : CloseReason) (s : State) :
    Proceeds s (endTube time travel reason s) := by
  unfold endTube
  split
  · exact .refl s
  next c active =>
    obtain ⟨x, hx, stage⟩ := activeCtx_some active
    rw [modTube_some hx]
    exact
      { tube := fun {d y} hy => by
          obtain rfl | rfl := Ctx.eq_or_other c d
          · rw [tubeAt_putTube_same] at hy
            cases hy
            exact ⟨x, hx, Tube.finish_goesOn stage _ _ _ _⟩
          · rw [tubeAt_putTube_other] at hy
            exact ⟨y, hy, (Tube.Stands.refl y).goesOn⟩
        idCounter := by cases c <;> rfl
        newest := by cases c <;> rfl
        presence := rfl
        run := id }

theorem losePosition_proceeds (s : State) : Proceeds s (losePosition s) := by
  unfold losePosition
  split
  · split
    · exact .refl s
    · exact (endTube_proceeds _ _ _ s).trans (.of_undisturbed (raise_undisturbed _ _ _))
  · exact .refl s

theorem expirePosition_proceeds (s : State) : Proceeds s (expirePosition s) := by
  simp only [expirePosition]
  split
  · exact (Proceeds.modPose _ s rfl id).trans ((resolvePending_proceeds _ extrapolate_standing extrapolate_downstream _).trans
      ((losePosition_proceeds _).trans (.modPose _ _ rfl fun _ => runLawful_reset _)))
  · exact .refl s

/-- R76: a settle limit that is due is of a SETTLING context. -/
theorem settleDue_stage {s : State} {c : Ctx} (h : settleDue s c = true) :
    ∃ x e, tubeAt s c = some x ∧ x.stage = .settling ∧ x.settleEntry = some e ∧
      s.agent.timing.settle * 1000 ≤ age s.now e := by
  unfold settleDue at h
  split at h
  · cases h
  next x hx =>
    split at h
    next stage entry => exact ⟨x, _, hx, stage, entry, by simpa using h⟩
    next => cases h

theorem expireSettle_proceeds (c : Ctx) (s : State) : Proceeds s (expireSettle c s) := by
  unfold expireSettle
  split
  · exact .refl s
  next t tube =>
    split
    · exact .refl s
    next e _ =>
      split
      next due =>
        obtain ⟨x, _, hx, settling, _⟩ := settleDue_stage due
        have stands : Standing tubeKinds s
            (resolvePending (fun r => notLater r.timestamp e.time) extrapolate (raise .settleTimeout (.tube t.id) s)) :=
          (raise_standing (by decide) noticeLost_notMem_tubeKinds _ s).trans (resolvePending_standing _ extrapolate_standing _)
        obtain ⟨y, hy, same⟩ := stands.tube hx
        exact (Proceeds.of_undisturbed (raise_undisturbed _ _ s)).trans
          ((resolvePending_proceeds _ extrapolate_standing extrapolate_downstream _).trans
            (.of_wraps (completeSettling_wraps hy (same.stage.trans settling)) (completeSettling_downstream c _)))
      next => exact .refl s

theorem fireDueTimers_keepsTubes (s : State) : KeepsTubes s (fireDueTimers s) :=
  ((Proceeds.foldl (fun x h => expireHead_proceeds h x) allHeads s).trans ((expirePosition_proceeds _).trans
    ((Proceeds.foldl (fun x c => expireSettle_proceeds c x) _ _).trans (.of_undisturbed (expireRun_undisturbed _))))).examined

/-! ### A pending apply (R131, R132) -/

theorem endRun_standing (r : CalRun) (o : CalOutcome) (k : Option Nat) (s : State) : Standing tubeKinds s (endRun r o k s) := by
  have factor : Standing tubeKinds s (writeFactor r o k s) := by
    unfold writeFactor
    split
    · exact .of_tubes rfl fun _ _ => rfl
    · exact .refl s
  exact factor.trans ((offerSummary_standing _ _).trans ((raise_standing (by decide) noticeLost_notMem_tubeKinds _ _).trans
    (.of_tubes rfl fun _ _ => rfl)))

theorem endRun_pose (r : CalRun) (o : CalOutcome) (k : Option Nat) (s : State) : (endRun r o k s).pose = s.pose := by
  unfold endRun writeFactor
  split <;> simp [dropRun]

theorem abortDisabledRun_standing (s : State) : Standing tubeKinds s (abortDisabledRun s) := by
  unfold abortDisabledRun
  split
  · exact .refl s
  split
  · exact .refl s
  · unfold abortRun
    split
    · exact .refl s
    · exact endRun_standing _ _ _ s

theorem abortDisabledRun_pose (s : State) : (abortDisabledRun s).pose = s.pose := by
  unfold abortDisabledRun
  split
  · rfl
  split
  · rfl
  · unfold abortRun
    split
    · rfl
    · exact endRun_pose _ _ _ s

theorem reportRebank_standing (old : State) (h : HeadNo) (s : State) : Standing tubeKinds s (reportRebank old h s) := by
  unfold reportRebank
  split
  · exact .refl s
  · exact compareSnapshot_standing h s

theorem reportRebank_pose (old : State) (h : HeadNo) (s : State) : (reportRebank old h s).pose = s.pose := by
  unfold reportRebank
  split
  · rfl
  · exact (compareSnapshot_downstream h s).pose

theorem foldl_pose {α : Type} {f : State → α → State} (step : ∀ s x, (f s x).pose = s.pose) (l : List α) (s : State) :
    (l.foldl f s).pose = s.pose := by
  induction l generalizing s with
  | nil => rfl
  | cons x rest ih => exact (ih _).trans (step s x)

theorem carryOutApply_standing (s : State) : Standing tubeKinds s (carryOutApply s) := by
  have rebanked (u : State) : Standing tubeKinds u (allHeads.foldl (fun x h => rebankHead s h x) u) :=
    .foldl (fun x h => modHead_standing h _ x) _ u
  have reported (u : State) : Standing tubeKinds u (allHeads.foldl (fun x h => reportRebank s h x) u) :=
    .foldl (fun x h => reportRebank_standing s h x) _ u
  have copied : Standing tubeKinds s (copyBank s) := .of_tubes rfl fun _ _ => rfl
  exact copied.trans ((rebanked _).trans ((reported _).trans (abortDisabledRun_standing _)))

theorem carryOutApply_pose (s : State) : (carryOutApply s).pose = s.pose :=
  calc (carryOutApply s).pose
    _ = _ := abortDisabledRun_pose _
    _ = _ := foldl_pose (fun x h => reportRebank_pose s h x) _ _
    _ = _ := foldl_pose (f := fun x h => rebankHead s h x) (fun _ _ => rfl) _ _

theorem pendingApply_standing (s : State) : Standing [] s (pendingApply s) := by
  unfold pendingApply
  split
  · split
    · exact (carryOutApply_standing s).forget
    · have cleared : Standing [] s (s.setAgent { s.agent with applyPending := false }) := .of_tubes rfl (by simp)
      exact cleared.trans (raise_standing (by simp) (by simp) _ _)
  · exact .refl s

theorem pendingApply_pose (s : State) : (pendingApply s).pose = s.pose := by
  unfold pendingApply
  split
  · split
    · exact carryOutApply_pose s
    · simp
  · rfl

/-! ### TRACE frames -/

theorem admitTrace_proceeds (t : Trace) (s : State) : Proceeds s (admitTrace t s) := by
  unfold admitTrace
  split
  · split
    · exact .of_eq rfl rfl
    · exact (Proceeds.modHead t.head _ s).trans (.of_undisturbed (raise_undisturbed _ _ _))
  · exact .of_undisturbed (countIdleDiscard_undisturbed _ s)

theorem acceptTrace_keepsTubes (t : Trace) (g : Nat) (s : State) : KeepsTubes s (acceptTrace t g s) := by
  have counted : Proceeds s (modHead t.head (HeadRecord.accept s.now t) (countGap t.head g s)) := by
    refine Proceeds.trans ?_ (.modHead _ _ _)
    unfold countGap
    split
    · exact .refl s
    · exact (Proceeds.modHead t.head _ s).trans (.of_undisturbed (raise_undisturbed _ _ _))
  refine Proceeds.examined (counted.trans (Proceeds.trans ?_ (admitTrace_proceeds t _)))
  split
  · exact .refl _
  · exact .of_undisturbed (compareSnapshot_undisturbed _ _)

theorem checkSequence_keepsTubes (t : Trace) (s : State) : KeepsTubes s (checkSequence t s) := by
  simp only [checkSequence]
  split
  · exact (countIdleDiscard_undisturbed _ s).keeps
  · exact acceptTrace_keepsTubes t 0 s
  all_goals
    split
    · exact acceptTrace_keepsTubes t _ s
    · exact ((Undisturbed.modHead _ _ s).trans (raise_undisturbed _ _ _)).keeps

end Sys2Proof.Machine
end

section
/-! A tube's start, and the tubes' laws command by command. -/

namespace Sys2Proof.Machine

/-! ### Truncation and tube start (R64, R65) -/

theorem stopDrain_tubes (c : Ctx) (s : State) : (stopDrain c s).tubes = s.tubes := by
  unfold stopDrain
  split
  · rfl
  split <;> rfl

theorem truncateSummary_other {c : Ctx} {y : Tube} {s : State}
    (h : tubeAt (truncateSummary c s) (otherCtx c) = some y) : ∃ x, tubeAt s (otherCtx c) = some x ∧ x.Stands y := by
  unfold truncateSummary at h
  split at h
  · obtain ⟨x, hx, stands⟩ := (offerTube_reports c _).back h
    exact ⟨x, by rwa [tubeAt_modTube_other] at hx, stands⟩
  · exact ⟨y, h, .refl y⟩

theorem truncateSummary_ids (c : Ctx) (s : State) :
    (truncateSummary c s).tubes.idCounter = s.tubes.idCounter ∧ (truncateSummary c s).tubes.newest = s.tubes.newest := by
  have marked : (modTube c Tube.markTruncated s).tubes.idCounter = s.tubes.idCounter ∧
      (modTube c Tube.markTruncated s).tubes.newest = s.tubes.newest := by
    unfold modTube
    split
    · exact ⟨rfl, rfl⟩
    · cases c <;> exact ⟨rfl, rfl⟩
  unfold truncateSummary
  split
  · have offered := offerTube_reports c (modTube c Tube.markTruncated s)
    exact ⟨offered.idCounter.trans marked.1, offered.newest.trans marked.2⟩
  · exact ⟨rfl, rfl⟩

/-- R65: a truncated context is FREE. -/
theorem truncate_gone (c : Ctx) (s : State) : tubeAt (truncate c s) c = none := by
  unfold truncate
  split
  · assumption
  · exact (raise_standing (K := []) (by simp) (by simp) _ _).free c (tubeAt_putTube_same ..)

theorem truncate_other {c : Ctx} {y : Tube} {s : State} (h : tubeAt (truncate c s) (otherCtx c) = some y) :
    ∃ x, tubeAt s (otherCtx c) = some x ∧ x.Stands y := by
  unfold truncate at h
  split at h
  · exact ⟨y, h, .refl y⟩
  · obtain ⟨x, hx, second⟩ := (raise_standing (K := []) (by simp) (by simp) _ _).back h
    rw [tubeAt_putTube_other, tubeAt, State.setWall_tubes, stopDrain_tubes] at hx
    obtain ⟨w, hw, first⟩ := truncateSummary_other hx
    exact ⟨w, hw, first.trans second⟩

theorem truncate_ids (c : Ctx) (s : State) :
    (truncate c s).tubes.idCounter = s.tubes.idCounter ∧ (truncate c s).tubes.newest = s.tubes.newest := by
  unfold truncate
  split
  · exact ⟨rfl, rfl⟩
  next t _ =>
    have raised := raise_standing (K := []) (k := .drainTruncated) (by simp) (by simp) (.tubeContext t.id c)
      (putTube c none ((stopDrain c (truncateSummary c s)).setWall
        { (stopDrain c (truncateSummary c s)).wall with
          free := (stopDrain c (truncateSummary c s)).wall.free ++ dirPages t.directory }))
    obtain ⟨id, newest⟩ := truncateSummary_ids c s
    rw [← stopDrain_tubes c] at id newest
    refine ⟨raised.idCounter.trans ?_, raised.newest.trans ?_⟩
    · rw [← id]; cases c <;> rfl
    · rw [← newest]; cases c <;> rfl

theorem takeTube_same (c : Ctx) (b : Bank) (time : Time) (travel : Nat) (s : State) :
    tubeAt (takeTube c b time travel s) c =
      some (freshTube (s.tubes.idCounter + 1) time travel s.agent.generation b (worstCondition s)) := by
  cases c <;> rfl

theorem takeTube_other (c : Ctx) (b : Bank) (time : Time) (travel : Nat) (s : State) :
    tubeAt (takeTube c b time travel s) (otherCtx c) = tubeAt s (otherCtx c) := by
  cases c <;> rfl

/-- R61: the latched heads stand each once, in ascending order. -/
theorem latchHeads_ascending (b : Bank) : ((latchHeads b).map LatchedHead.head).Pairwise (· < ·) := by
  have heads : (latchHeads b).map LatchedHead.head = enabledHeads b := by
    rw [latchHeads, List.map_map]
    exact List.map_id _
  rw [heads]
  exact List.Pairwise.filter _ (by decide)

theorem freshTube_lawful (id : TubeId) (time : Time) (travel generation : Nat) (b : Bank) (w : Condition) :
    (freshTube id time travel generation b w).shapeOk = true ∧ (freshTube id time travel generation b w).listsOk = true := by
  refine ⟨rfl, ?_⟩
  simp only [Tube.listsOk, freshTube, List.map_nil, List.Pairwise.nil, List.all_nil, decide_true, Bool.true_and]
  exact decide_eq_true (latchHeads_ascending b)

/-- What a tube start leaves of the tubes: the fresh one in the context it chose, beside what stood in the other. -/
structure Starts (s t : State) : Prop where
  fresh : ∃ time travel generation b w, tubeAt t (chooseCtx s) =
    some (freshTube (s.tubes.idCounter + 1) time travel generation b w)
  other : ∀ {y}, tubeAt t (otherCtx (chooseCtx s)) = some y → ∃ x, tubeAt s (otherCtx (chooseCtx s)) = some x ∧ x.Stands y
  idCounter : t.tubes.idCounter = s.tubes.idCounter + 1
  newest : t.tubes.newest = some (chooseCtx s)
  pose : t.pose = s.pose

/-- R64: the choice of context looks at which contexts are FREE and at the mark alone. -/
theorem Standing.chooseCtx {K : List EventKind} {s t : State} (h : Standing K s t) : chooseCtx t = chooseCtx s := by
  have frees (c : Ctx) : (tubeAt t c).isNone = (tubeAt s c).isNone := by
    cases hx : tubeAt s c with
    | none => rw [h.free c hx]
    | some x => obtain ⟨y, hy, _⟩ := h.tube hx; rw [hy]; rfl
  have fa : t.tubes.a.isNone = s.tubes.a.isNone := frees .a
  have fb : t.tubes.b.isNone = s.tubes.b.isNone := frees .b
  unfold Machine.chooseCtx
  rw [h.newest]
  cases ha : s.tubes.a <;> cases hb : s.tubes.b <;> cases ha' : t.tubes.a <;> cases hb' : t.tubes.b <;> simp_all

theorem startTube_starts (time : Time) (travel : Nat) (s : State) :
    startTube time travel s = pendingApply s ∨ Starts s (startTube time travel s) := by
  simp only [startTube]
  split
  · exact .inl rfl
  next b _ =>
    have stood := pendingApply_standing s
    rw [stood.chooseCtx]
    obtain ⟨id, newest⟩ := truncate_ids (chooseCtx s) (pendingApply s)
    refine .inr { fresh := ?_, other := fun hy => ?_, idCounter := ?_, newest := ?_, pose := ?_ }
    · rw [takeTube_same, id, stood.idCounter]
      exact ⟨_, _, _, _, _, rfl⟩
    · rw [takeTube_other] at hy
      obtain ⟨x, hx, second⟩ := truncate_other hy
      obtain ⟨w, hw, first⟩ := stood.back hx
      exact ⟨w, hw, first.trans second⟩
    · rw [← stood.idCounter, ← id]
      cases chooseCtx s <;> rfl
    · cases chooseCtx s <;> rfl
    · exact (takeTube_downstream (K := []) _ b time travel _).pose.trans
        ((truncate_downstream _ _).pose.trans (pendingApply_pose s))

/-- R57: a tube starts while none is ACTIVE. -/
theorem Starts.tubeLaw {s t : State} (h : Starts s t) (hs : TubeLaw s) (idle : activeCtx s = none)
    (present : s.pose.presence = .present) : TubeLaw t := by
  rw [tubeLaw_iff] at hs ⊢
  rw [activeCtx_none_iff] at idle
  obtain ⟨shape, lists, -, -, run⟩ := hs
  obtain ⟨time, travel, generation, b, w, fresh⟩ := h.fresh
  have each (p : Tube → Prop) (new : p (freshTube (s.tubes.idCounter + 1) time travel generation b w))
      (old : ∀ x y : Tube, tubeAt s (otherCtx (chooseCtx s)) = some x → x.Stands y → p y) (d : Ctx) (y : Tube)
      (hy : tubeAt t d = some y) : p y := by
    obtain rfl | rfl := Ctx.eq_or_other (chooseCtx s) d
    · rw [fresh] at hy
      cases hy
      exact new
    · obtain ⟨x, hx, stands⟩ := h.other hy
      exact old x y hx stands
  refine ⟨each _ (freshTube_lawful ..).1 fun x y hx stands => stands.goesOn.shape (shape _ x hx),
    each _ (freshTube_lawful ..).2 fun x y hx stands => stands.lists (lists _ x hx), fun both => ?_, fun absent => ?_,
    by rw [h.pose]; exact run⟩
  · have active : stageIs t (otherCtx (chooseCtx s)) .active = true := by
      cases chooseCtx s
      · exact both.2
      · exact both.1
    cases hy : tubeAt t (otherCtx (chooseCtx s)) with
    | none => simp [stageIs, hy] at active
    | some y =>
      obtain ⟨x, hx, stands⟩ := h.other hy
      rw [stageIs_of_tubeAt hy, stands.stage, ← stageIs_of_tubeAt hx, idle] at active
      cases active
  · rw [h.pose, present] at absent
    cases absent

theorem tubeId_succ_ne (id : TubeId) : id ≠ id + 1 := by bv_omega

/-- R62, R64: with neither context FREE, the start takes the one that the mark does not name. -/
theorem chooseCtx_ne_newest {s : State} {n : Ctx} {x y : Tube} (newest : s.tubes.newest = some n) (here : tubeAt s n = some x)
    (there : tubeAt s (otherCtx n) = some y) : chooseCtx s = otherCtx n := by
  unfold chooseCtx
  cases n <;> simp_all [tubeAt, TubeTracker.get, otherCtx]

/-- R63, R66: the fresh tube id differs from the other context's, as long as the counter does not come round to it. -/
theorem Starts.idLaw {s t : State} (h : Starts s t) (hs : IdLaw s)
    (distinct : ∀ c x, s.tubes.newest = some c → tubeAt s c = none → tubeAt s (otherCtx c) = some x →
      x.id ≠ s.tubes.idCounter + 1) : IdLaw t := by
  rw [idLaw_iff] at hs ⊢
  rw [h.newest, h.idCounter]
  obtain ⟨time, travel, generation, b, w, fresh⟩ := h.fresh
  refine ⟨(fun unmarked => nomatch unmarked), fun n newest => ?_⟩
  cases newest
  refine ⟨fun y hy => ?_, fun y hy => ?_⟩
  · rw [fresh] at hy
    cases hy
    rfl
  · obtain ⟨x, hx, stands⟩ := h.other hy
    rw [stands.id]
    cases newest : s.tubes.newest with
    | none => rw [hs.1 newest] at hx; cases hx
    | some n =>
      obtain same | other := Ctx.eq_or_other n (chooseCtx s)
      · cases here : tubeAt s n with
        | none => exact distinct n x newest here (by rwa [same] at hx)
        | some z =>
          have chosen := chooseCtx_ne_newest newest here (by rwa [same] at hx)
          rw [same] at chosen
          cases n <;> cases chosen
      · rw [other, otherCtx_otherCtx] at hx
        rw [(hs.2 n newest).1 x hx]
        exact tubeId_succ_ne _

/-! ### The presence run (R57 to R59) -/

/-- R57: an advanced run stays lawful: it is broken, begun with its first frame, or one longer. -/
theorem advanceRun_runLawful {p : PoseTracker} (f : Sample) (h : p.RunLawful) : (p.advanceRun f).RunLawful := by
  obtain ⟨first, le⟩ := h
  unfold PoseTracker.advanceRun PoseTracker.RunLawful
  split
  · simp
  split
  · simp
  · exact ⟨first.trans (by simp only; omega), Nat.min_le_left _ _⟩

theorem advanceRun_presence (p : PoseTracker) (f : Sample) : (p.advanceRun f).presence = p.presence := by
  unfold PoseTracker.advanceRun
  split
  · rfl
  split <;> rfl

/-- R57: the presence state changed and the run reset. -/
def flipPresence (s : State) : State :=
  modPose (fun p => { p with presence := p.presence.flip, runLength := 0, runFirst := none }) s

/-- R58: a run of present frames starts a tube in MEASURE. -/
theorem changePresence_absent {s : State} {f : RunFirst} (first : s.pose.runFirst = some f)
    (absent : s.pose.presence = .absent) : changePresence s =
      if s.agent.mode = .measure then startTube f.timestamp f.travel (flipPresence s) else flipPresence s := by
  simp only [changePresence, first, absent]
  rfl

/-- R59: a run of absent frames ends the tube. -/
theorem changePresence_present {s : State} {f : RunFirst} (first : s.pose.runFirst = some f)
    (present : s.pose.presence = .present) :
    changePresence s = endTube f.timestamp f.travel .presenceEnd (flipPresence s) := by
  simp only [changePresence, first, present]
  rfl

/-- `TubeLaw` with no context ACTIVE. -/
theorem tubeLaw_of_idle {s : State} (shape : ∀ c x, tubeAt s c = some x → x.shapeOk = true)
    (lists : ∀ c x, tubeAt s c = some x → x.listsOk = true) (idle : ∀ c, stageIs s c .active = false)
    (run : s.pose.RunLawful) : TubeLaw s :=
  (tubeLaw_iff s).mpr ⟨shape, lists, fun both => Bool.false_ne_true ((idle .a).symm.trans both.1), fun _ => idle, run⟩

theorem endTube_some {s : State} {c : Ctx} {x : Tube} (active : activeCtx s = some c) (tube : tubeAt s c = some x)
    (time : Time) (travel : Nat) (reason : CloseReason) :
    endTube time travel reason s = putTube c (some (x.finish s.now time travel reason)) s := by
  unfold endTube
  rw [active]
  exact modTube_some tube _

/-- R67: with at most one context ACTIVE, none is once its tube has ended. -/
theorem endTube_idle {s : State} (one : ¬(stageIs s .a .active = true ∧ stageIs s .b .active = true)) (time : Time)
    (travel : Nat) (reason : CloseReason) (c : Ctx) : stageIs (endTube time travel reason s) c .active = false := by
  cases active : activeCtx s with
  | none =>
    unfold endTube
    rw [active]
    exact (activeCtx_none_iff s).mp active c
  | some d =>
    obtain ⟨x, hx, stage⟩ := activeCtx_some active
    rw [endTube_some active hx]
    obtain rfl | rfl := Ctx.eq_or_other d c
    · rw [stageIs_of_tubeAt (tubeAt_putTube_same ..)]
      rfl
    · rw [stageIs, tubeAt_putTube_other]
      have here : stageIs s d .active = true := by rw [stageIs_of_tubeAt hx, beq_iff_eq]; exact stage
      change stageIs s (otherCtx d) .active = false
      cases d <;> simp_all [otherCtx]

theorem changePresence_tubeLaw {s : State} (hs : TubeLaw s) (counts : 1 ≤ s.pose.runLength) :
    TubeLaw (changePresence s) := by
  obtain ⟨shape, lists, one, absent, run⟩ := (tubeLaw_iff s).mp hs
  obtain ⟨f, first⟩ := Option.isSome_iff_exists.mp (run.1.mpr counts)
  have reset : (flipPresence s).pose.RunLawful := runLawful_reset { s.pose with presence := s.pose.presence.flip }
  cases presence : s.pose.presence with
  | absent =>
    rw [changePresence_absent first presence]
    have turned : TubeLaw (flipPresence s) := tubeLaw_of_idle shape lists (absent presence) reset
    split
    · obtain h | h := startTube_starts f.timestamp f.travel (flipPresence s)
      · rw [h]
        exact (Proceeds.of_pose (pendingApply_standing _) (pendingApply_pose _)).tubeLaw turned
      · exact h.tubeLaw turned ((activeCtx_none_iff _).mpr (absent presence))
          (show s.pose.presence.flip = .present by rw [presence]; rfl)
    · exact turned
  | present =>
    rw [changePresence_present first presence]
    have ended := endTube_proceeds f.timestamp f.travel .presenceEnd (flipPresence s)
    refine tubeLaw_of_idle (fun c y hy => ?_) (fun c y hy => ?_)
      (endTube_idle (s := flipPresence s) one f.timestamp f.travel .presenceEnd) (ended.run reset)
    · obtain ⟨x, hx, goes⟩ := ended.tube hy
      exact goes.shape (shape c x hx)
    · obtain ⟨x, hx, goes⟩ := ended.tube hy
      exact goes.lists (lists c x hx)

theorem acceptSample_proceeds (f : Sample) (s : State) : Proceeds s (acceptSample f s) := .modPose _ s rfl id

theorem advancePresence_tubeLaw (f : Sample) {s : State} (hs : TubeLaw s) : TubeLaw (advancePresence f s) := by
  have advanced : TubeLaw (modPose (fun p => p.advanceRun f) s) :=
    (Proceeds.modPose _ s (advanceRun_presence _ _) (advanceRun_runLawful f)).tubeLaw hs
  simp only [advancePresence]
  split
  next reached => exact changePresence_tubeLaw advanced reached.1
  next => exact advanced

/-- The premise of `IdLaw`'s preservation: the next tube id is not that of an older tube which has outlived the newest. -/
def NextIdUnused (s : State) : Prop :=
  ∀ c x, s.tubes.newest = some c → tubeAt s c = none → tubeAt s (otherCtx c) = some x → x.id ≠ s.tubes.idCounter + 1

theorem advancePresence_idLaw (f : Sample) {s : State} (hs : IdLaw s) (unused : NextIdUnused s) :
    IdLaw (advancePresence f s) := by
  simp only [advancePresence]
  split
  next =>
    simp only [changePresence]
    split
    · exact hs
    · split
      · obtain h | h := startTube_starts _ _ _
        · rw [h]
          exact (Proceeds.of_pose (pendingApply_standing _) (pendingApply_pose _)).idLaw hs
        · exact h.idLaw hs unused
      · exact hs
    · exact (endTube_proceeds _ _ _ _).idLaw hs
  next => exact hs

theorem acceptFrame_tail_proceeds (f : Sample) (s : State) : Proceeds s (closeRingsByLead f (resolveCovered f s)) :=
  (resolvePending_proceeds _ interpolateNewest_standing interpolateNewest_downstream s).trans
    (.of_downstream (closeRingsByLead_reports f _).toStanding (closeRingsByLead_downstream f _))

theorem takePosition_keepsTubes (f : PositionFrame) {s : State} :
    (TubeLaw s → TubeLaw (takePosition f s)) ∧ (IdLaw s → NextIdUnused s → IdLaw (takePosition f s)) ∧
    (SettleLaw s → SettleLaw (takePosition f s)) := by
  have rejected (g : PoseTracker → PoseTracker) (k : EventKind) (d : Detail)
      (same : Undisturbed s (modPose g s)) : KeepsTubes s (raise k d (modPose g s)) :=
    (same.trans (raise_undisturbed k d _)).keeps
  have ended (u : State) : KeepsTubes u (examineDrain u) :=
    (Undisturbed.of_wraps (examineDrain_wraps u) (examineDrain_downstream (K := []) u)).keeps
  unfold takePosition
  split
  · have kept := rejected (fun p => { p with rangeDiscards := satInc cap16 p.rangeDiscards }) .malformed (.source 0x10)
      ⟨fun {_ y} hy => ⟨y, hy, (Tube.Stands.refl y).settles⟩, rfl, rfl, rfl, rfl, rfl, rfl, rfl, rfl, fun _ => ⟨rfl, rfl⟩⟩
    exact ⟨kept.tubes, fun hs _ => kept.ids hs, kept.settled⟩
  split
  · have kept := rejected (fun p => { p with orderDiscards := satInc cap16 p.orderDiscards }) .positionOrder (.time f.timestamp)
      ⟨fun {_ y} hy => ⟨y, hy, (Tube.Stands.refl y).settles⟩, rfl, rfl, rfl, rfl, rfl, rfl, rfl, rfl, fun _ => ⟨rfl, rfl⟩⟩
    exact ⟨kept.tubes, fun hs _ => kept.ids hs, kept.settled⟩
  · have tail := (acceptFrame_tail_proceeds (sampleOf f)
      (advancePresence (sampleOf f) (acceptSample (sampleOf f) s))).examined.trans (ended _)
    have joined := acceptSample_proceeds (sampleOf f) s
    refine ⟨fun hs => tail.tubes (advancePresence_tubeLaw _ (joined.tubeLaw hs)), fun hs unused => ?_,
      fun _ => (ended _).settled (examineBoth_settleLaw _)⟩
    exact tail.ids (advancePresence_idLaw _ (joined.idLaw hs) unused)

/-! ### The requests -/

theorem storeEntry_keepsTubes (e : EntryName) (d : List Byte) (s : State) : KeepsTubes s (storeEntry e d s).1 := by
  unfold storeEntry
  cases e <;> dsimp only
  case timing => exact (Undisturbed.setAgent s _).keeps.trans (fireDueTimers_keepsTubes _)
  case output h => exact ((Undisturbed.setAgent s _).trans (.setMill _ _)).keeps
  case calib h => exact (Undisturbed.setAgent s _).keeps
  case event k => exact (storeEvent_undisturbed k _ _ s).keeps
  case headStatus | tempChannel | pose | context | directory | mapPage | fault | portCounters => exact .refl s
  case head | gate | velocity | velocityCount | mapSetup => exact (Undisturbed.setAgent s _).keeps

theorem readWork_keepsTubes (r : Request) (s : State) : KeepsTubes s (readWork r s).state := by
  unfold readWork
  split
  · exact .refl s
  · exact (afterRead_undisturbed _ s).keeps

theorem writeWork_keepsTubes (r : Request) (s : State) : KeepsTubes s (writeWork r s).state := by
  unfold writeWork
  split
  · exact .refl s
  · exact storeEntry_keepsTubes _ _ s

theorem exchangeWork_keepsTubes (r : Request) (s : State) : KeepsTubes s (exchangeWork r s).state := by
  unfold exchangeWork
  split
  · exact .refl s
  · exact storeEntry_keepsTubes _ _ s

theorem clearWork_keepsTubes (r : Request) (s : State) : KeepsTubes s (clearWork r s).state := by
  unfold clearWork
  split
  · exact .refl s
  · exact (clearEntry_undisturbed _ s).keeps

theorem applyWork_keepsTubes (r : Request) (s : State) : KeepsTubes s (applyWork r s).state := by
  unfold applyWork
  split
  · exact (Undisturbed.setAgent s _).keeps
  split
  · exact (Undisturbed.setAgent s _).keeps
  split
  · exact .refl s
  · exact (Proceeds.of_pose (carryOutApply_standing s) (carryOutApply_pose s)).examined

theorem changeMode_keepsTubes (m : Mode) (s : State) : KeepsTubes s (changeMode m s) := by
  have left : Proceeds s (leaveCalibrate s) := by
    unfold leaveCalibrate
    split
    · exact .of_undisturbed (abortRun_undisturbed s)
    · exact .refl s
  have ended (u : State) : Proceeds u (leaveMeasure m u) := by
    unfold leaveMeasure
    split
    · exact endTube_proceeds _ _ _ u
    · exact .refl u
  exact (left.trans ((ended _).trans (.setAgent _ _))).examined

theorem modeWork_keepsTubes (r : Request) (s : State) : KeepsTubes s (modeWork r s).state := by
  unfold modeWork
  split
  · exact .refl s
  split
  · exact .refl s
  split
  · exact .refl s
  split
  · exact .refl s
  · exact changeMode_keepsTubes _ s

theorem calibrateWork_keepsTubes (r : Request) (s : State) : KeepsTubes s (calibrateWork r s).state := by
  unfold calibrateWork
  split
  · exact .refl s
  split
  · exact .refl s
  split
  · exact .refl s
  split
  · exact .refl s
  · exact (Undisturbed.setAgent s _).keeps

/-- R144, R164: with both contexts FREE, no mark and the Pose Tracker reset, the laws hold. -/
theorem keepsTubes_of_reset {s t : State} (a : t.tubes.a = none) (b : t.tubes.b = none) (newest : t.tubes.newest = none)
    (pose : t.pose = PoseTracker.reset) : KeepsTubes s t where
  tubes _ := by simp [TubeLaw, a, b, stageIs, tubeAt, TubeTracker.get, activeCtx, pose, PoseTracker.reset]
  ids _ := by simp [IdLaw, tubeIdsOk, newest, a, b]
  settled _ := by simp [SettleLaw, settledOk, tubeAt, TubeTracker.get, a, b]

/-- R155: taking the oldest request keeps the tubes' laws when its work does. -/
theorem takeOldest_keepsTubes (want : Request → Bool) {work : Request → State → Answer}
    (works : ∀ r s, KeepsTubes s (work r s).state) (s : State) : KeepsTubes s (takeOldest want work s) := by
  obtain h | ⟨r, rest, -, -, -, h⟩ := takeOldest_cases want work s <;> rw [h]
  · exact .refl s
  · exact (Undisturbed.setMill s _).keeps.trans ((works r _).trans (respond_undisturbed _ _ _).keeps)

/-! ### Command by command -/

/-- An outcome that keeps the tubes' laws of the state it starts from. -/
theorem keepsTubes_of_next {s t u : State} (w : KeepsTubes s u)
    (h : Host.Outcome.next u = (.next t : Host.Outcome State Fault Refusal)) : KeepsTubes s t := by
  cases h; exact w

/-- Work done under a condition, the state unchanged without it. -/
theorem keepsTubes_of_ite {c : Prop} [Decidable c] {s t u : State} (w : KeepsTubes s u)
    (h : (if c then .next u else .next s) = (.next t : Host.Outcome State Fault Refusal)) : KeepsTubes s t := by
  split at h
  · exact keepsTubes_of_next w h
  · exact keepsTubes_of_next (.refl s) h

theorem execTraceFrame_keepsTubes {x : Trace} {s t : State} (h : execTraceFrame x s = .next t) : KeepsTubes s t := by
  have counted : KeepsTubes s (countHeadFrame s) := (Undisturbed.setHeadPort s _).keeps
  unfold execTraceFrame at h
  split at h
  · split at h
    · exact keepsTubes_of_next (counted.trans ((Undisturbed.modHead x.head _ _).keeps.trans (checkSequence_keepsTubes x _))) h
    · exact keepsTubes_of_next (counted.trans (rejectHeadFrame_undisturbed _ _).keeps) h
  · exact keepsTubes_of_next (.refl s) h

theorem execRequestFrame_keepsTubes {r : Request} {s t : State} (h : execRequestFrame r s = .next t) : KeepsTubes s t := by
  have counted : Undisturbed s (countMillFrame s) := .setMill s _
  unfold execRequestFrame at h
  split at h
  · split at h
    · exact keepsTubes_of_next (counted.trans (queueRequest_undisturbed r _)).keeps h
    · exact keepsTubes_of_next (counted.trans (rejectMillFrame_undisturbed _ _)).keeps h
  · exact keepsTubes_of_next (.refl s) h

theorem execEvaluationStart_keepsTubes {s t : State} (h : execEvaluationStart s = .next t) : KeepsTubes s t := by
  unfold execEvaluationStart at h
  split at h
  · exact keepsTubes_of_next (startEvaluation_proceeds _ _ s).examined h
  · exact keepsTubes_of_next (.refl s) h

theorem execEvaluationCompletion_keepsTubes {s t : State} (h : execEvaluationCompletion s = .next t) : KeepsTubes s t := by
  unfold execEvaluationCompletion at h
  split at h
  · exact keepsTubes_of_next (.refl s) h
  · exact keepsTubes_of_next (completeEvaluation_proceeds _ s).examined h

theorem execTimeMarkSent_keepsTubes {s t : State} (h : execTimeMarkSent s = .next t) : KeepsTubes s t := by
  unfold execTimeMarkSent at h
  split at h
  · exact keepsTubes_of_next (.refl s) h
  · exact keepsTubes_of_next (Undisturbed.setHeadPort s _).keeps h

theorem execTransmissionCompletion_keepsTubes {s t : State} (h : execTransmissionCompletion s = .next t) : KeepsTubes s t := by
  unfold execTransmissionCompletion at h
  split at h
  · exact keepsTubes_of_next (.refl s) h
  · exact keepsTubes_of_next (Undisturbed.setMill s _).keeps h

/-- A link that comes UP or goes DOWN changes its port alone, unless it already stood so. -/
theorem keepsTubes_of_link {c : Prop} [Decidable c] {s t u : State} (w : KeepsTubes s u)
    (h : (if c then .next s else .next u) = (.next t : Host.Outcome State Fault Refusal)) : KeepsTubes s t := by
  split at h
  · exact keepsTubes_of_next (.refl s) h
  · exact keepsTubes_of_next w h

theorem markWaiting_wraps (s : State) : Wraps s (markWaiting s) := by
  unfold markWaiting
  split
  · exact .refl s
  · exact setDrain_wraps _ s

theorem execMapFrameQueued_keepsTubes {s t : State} (h : execMapFrameQueued s = .next t) : KeepsTubes s t := by
  unfold execMapFrameQueued at h
  split at h
  · exact keepsTubes_of_next (.refl s) h
  split at h
  · exact keepsTubes_of_next (.refl s) h
  next tube =>
    split at h
    · split at h
      next room =>
        exact keepsTubes_of_next (Undisturbed.of_wraps ((queueMapFrame_wraps _ _ room tube).trans (markWaiting_wraps _))
          ((queueMapFrame_downstream (K := []) _ _ _ _ room).trans (markWaiting_downstream _))).keeps h
      next => exact keepsTubes_of_next (.refl s) h
    · exact keepsTubes_of_next (.refl s) h

theorem execMapEndQueued_keepsTubes {s t : State} (h : execMapEndQueued s = .next t) : KeepsTubes s t := by
  unfold execMapEndQueued at h
  split at h
  · exact keepsTubes_of_next (.refl s) h
  split at h
  · exact keepsTubes_of_next (.refl s) h
  split at h
  · exact keepsTubes_of_next (.refl s) h
  split at h
  next room =>
    exact keepsTubes_of_next (Undisturbed.of_wraps ((queueMapEnd_wraps room).trans (examineDrain_wraps _))
      ((queueMapEnd_downstream (K := []) _ _ room).trans (examineDrain_downstream _))).keeps h
  next => exact keepsTubes_of_next (.refl s) h

theorem exec_keepsTubes {i : Instr} {s t : State} (other : ∀ f, i ≠ .positionFrame f) (h : exec i s = .next t) :
    KeepsTubes s t := by
  have asked {want : Request → Bool} {work : Request → State → Answer} (works : ∀ r s, KeepsTubes s (work r s).state)
      (h : Host.Outcome.next (takeOldest want work s) = (.next t : Host.Outcome State Fault Refusal)) : KeepsTubes s t := by
    cases h; exact takeOldest_keepsTubes want works s
  have counted : Undisturbed s (countHeadFrame s) := .setHeadPort s _
  cases i with
  | positionFrame f => exact absurd rfl (other f)
  | powerOnReset => cases h; exact keepsTubes_of_reset rfl rfl rfl rfl
  | headLinkUp => exact keepsTubes_of_link ((Undisturbed.setHeadPort s _).trans (.setHeadPort _ _)).keeps h
  | headLinkDown cut => exact keepsTubes_of_link (Undisturbed.setHeadPort s _).keeps h
  | traceFrame x => exact execTraceFrame_keepsTubes h
  | temperatureFrame f => exact keepsTubes_of_ite (counted.trans (.setHeadPort _ _)).keeps h
  | headFrameRejected r => exact keepsTubes_of_ite (counted.trans (rejectHeadFrame_undisturbed r _)).keeps h
  | timeMark => exact keepsTubes_of_ite (Undisturbed.setHeadPort s _).keeps h
  | timeMarkSent => exact execTimeMarkSent_keepsTubes h
  | headSilenceExpiry x => exact keepsTubes_of_ite (expireHead_proceeds x s).examined h
  | tempRecordExpiry ch => exact keepsTubes_of_next (Undisturbed.setHeadPort s _).keeps h
  | evaluationStart => exact execEvaluationStart_keepsTubes h
  | evaluationCompletion => exact execEvaluationCompletion_keepsTubes h
  | positionSilenceExpiry => exact keepsTubes_of_ite (expirePosition_proceeds s).examined h
  | settleLimitExpiry c => exact keepsTubes_of_ite (expireSettle_proceeds c s).examined h
  | settleCompletion => exact keepsTubes_of_next (Proceeds.refl s).examined h
  | calibrationTimeout => exact keepsTubes_of_next (expireRun_undisturbed s).keeps h
  | drainBegin =>
    exact keepsTubes_of_next (Undisturbed.of_wraps (examineDrain_wraps s) (examineDrain_downstream (K := []) s)).keeps h
  | mapFrameQueued => exact execMapFrameQueued_keepsTubes h
  | mapEndQueued => exact execMapEndQueued_keepsTubes h
  | millLinkUp => exact keepsTubes_of_link ((Undisturbed.setMill s _).trans (startTransmission_undisturbed _)).keeps h
  | millLinkDown cut => exact keepsTubes_of_link (Undisturbed.setMill s _).keeps h
  | requestFrame r => exact execRequestFrame_keepsTubes h
  | millFrameRejected r =>
    exact keepsTubes_of_ite ((Undisturbed.setMill s _).trans (rejectMillFrame_undisturbed r _)).keeps h
  | transmissionStart => exact keepsTubes_of_next (startTransmission_undisturbed s).keeps h
  | transmissionCompletion => exact execTransmissionCompletion_keepsTubes h
  | responseHeldRelease => exact keepsTubes_of_next (releaseHeld_undisturbed s).keeps h
  | read => exact asked readWork_keepsTubes h
  | write => exact asked writeWork_keepsTubes h
  | exchange => exact asked exchangeWork_keepsTubes h
  | clear => exact asked clearWork_keepsTubes h
  | apply => exact asked applyWork_keepsTubes h
  | mode => exact asked modeWork_keepsTubes h
  | calibrate => exact asked calibrateWork_keepsTubes h
  | abortCal => exact asked (fun _ s => (abortRun_undisturbed s).keeps) h
  | restart => exact asked (fun _ s => keepsTubes_of_reset rfl rfl rfl rfl) h
  | status => exact asked (fun _ s => .refl s) h
  | undefinedOperation => exact asked (fun _ s => .refl s) h

/-- A command keeps the tubes' laws; a tube start, the distinct ids while the next one is unused. -/
theorem exec_tubeLaws {i : Instr} {s t : State} (h : exec i s = .next t) :
    (TubeLaw s → TubeLaw t) ∧ (IdLaw s → NextIdUnused s → IdLaw t) ∧ (SettleLaw s → SettleLaw t) := by
  by_cases position : ∃ f, i = .positionFrame f
  · obtain ⟨f, rfl⟩ := position
    have counted : KeepsTubes s (countHeadFrame s) := (Undisturbed.setHeadPort s _).keeps
    obtain ⟨tubes, ids, settled⟩ := takePosition_keepsTubes f (s := countHeadFrame s)
    change execPositionFrame f s = .next t at h
    unfold execPositionFrame at h
    split at h <;> cases h
    · exact ⟨tubes ∘ counted.tubes, fun hs => ids (counted.ids hs), settled ∘ counted.settled⟩
    · exact ⟨id, fun hs _ => hs, id⟩
  · have kept := exec_keepsTubes (fun f same => position ⟨f, same⟩) h
    exact ⟨kept.tubes, fun hs _ => kept.ids hs, kept.settled⟩

theorem step_tubeLaws {s t : State} (h : step s = .next t) :
    (TubeLaw s → TubeLaw t) ∧ (IdLaw s → NextIdUnused s → IdLaw t) ∧ (SettleLaw s → SettleLaw t) := by
  unfold step at h
  split at h
  · have kept := keepsTubes_of_next (Undisturbed.setHeadPort s _).keeps h
    exact ⟨kept.tubes, fun hs _ => kept.ids hs, kept.settled⟩
  · obtain ⟨tubes, ids, settled⟩ := exec_tubeLaws h
    exact ⟨tubes, ids, settled⟩

/-- Settles O7: the tubes' laws are kept command by command; a settle condition is examined by every step that can make one
true, and only a tube start draws an id. -/
theorem tubeContextsStayLawful : Obligations.TubeContextsStayLawful := by
  refine ⟨fun s t hs h => (step_tubeLaws h).1 hs, fun s t hs h => (step_tubeLaws h).2.2 hs,
    fun s t hs unused h => (step_tubeLaws h).2.1 hs unused, fun s x y hs ha hb => ?_⟩
  obtain ⟨unmarked, marked⟩ := (idLaw_iff s).mp hs
  cases newest : s.tubes.newest with
  | none => exact absurd (ha.symm.trans (unmarked newest .a)) (by simp)
  | some n =>
    obtain ⟨here, there⟩ := marked n newest
    cases n with
    | a => rw [here x ha]; exact (there y hb).symm
    | b => rw [here y hb]; exact there x ha

end Sys2Proof.Machine
end

section
/-! Interpolation between two position samples (R49, R50). -/

namespace Sys2Proof.Machine

/-- R49: the signed difference of two angles is the one of -2048..2047 that agrees with it modulo 4096. -/
theorem angleStep_eq {a1 a2 : Nat} {da : Int} (low : -2048 ≤ da) (high : da ≤ 2047)
    (same : da % 4096 = ((a2 : Int) - a1) % 4096) : angleStep a1 a2 = da := by
  simp only [angleStep]
  split <;> omega

/-- R49: the pose's two formulas, the angle's for any difference of angles that stands for the two samples'. -/
theorem poseAt_formulas (x y : Sample) (t : Time) {da : Int} (low : -2048 ≤ da) (high : da ≤ 2047)
    (same : da % 4096 = ((y.angle : Int) - x.angle) % 4096) :
    ((poseAt x y t).angle : Int) =
      (x.angle + roundHalfAway (da * (t - x.timestamp).toNat) (y.timestamp - x.timestamp).toNat) % 4096 ∧
    (poseAt x y t).travel =
      x.travel + roundHalfAway (((y.travel : Int) - x.travel) * (t - x.timestamp).toNat) (y.timestamp - x.timestamp).toNat := by
  refine ⟨?_, rfl⟩
  simp only [poseAt, angleStep_eq low high same]
  omega

theorem poseAt_angle_lt (x y : Sample) (t : Time) : (poseAt x y t).angle < 4096 := by
  simp only [poseAt]
  omega

/-- R49: within the interval the rounded share of the travelled difference does not pass it. -/
theorem poseAt_travel_mem {x y : Sample} (apart : y.timestamp ≠ x.timestamp) {t : Time}
    (within : (t - x.timestamp).toNat ≤ (y.timestamp - x.timestamp).toNat) :
    min (x.travel : Int) y.travel ≤ (poseAt x y t).travel ∧ (poseAt x y t).travel ≤ max (x.travel : Int) y.travel := by
  have span := span_ne_zero apart
  have share := roundHalfAway_share_mem (k := (t - x.timestamp).toNat) (d := (y.timestamp - x.timestamp).toNat)
    ((y.travel : Int) - x.travel) (by omega) (by omega) (by omega)
  simp only [poseAt]
  omega

/-- Settles O22: the formulas by the uniqueness of the signed difference, both endpoints by an exact quotient, the bounds by
the rounded share of a difference. -/
theorem interpolationMeetsTheSamples : Obligations.InterpolationMeetsTheSamples := by
  intro x y apart hx hy
  refine ⟨fun t da low high same => poseAt_formulas x y t low high same, ?_, ?_, fun t within =>
    ⟨poseAt_angle_lt x y t, poseAt_travel_mem apart.symm within⟩⟩
  · rw [poseAt_first apart.symm, Nat.mod_eq_of_lt hx]
  · rw [poseAt_second apart.symm, Nat.mod_eq_of_lt hy]

end Sys2Proof.Machine
end

section
/-! The acceptance of a POSITION frame (R43 to R46) and the presence run (R57 to R59). -/

namespace Sys2Proof.Machine

/-! ### The three ways of a frame -/

theorem exec_positionFrame {s : State} (up : s.headPort.link = .up) (f : PositionFrame) :
    exec (.positionFrame f) s = .next (takePosition f (countHeadFrame s)) := if_pos up

theorem positionInRange_iff (f : PositionFrame) :
    positionInRange f = true ↔ f.angle.toNat ≤ 4095 ∧ f.travel.toNat ≤ 4000000 := by
  simp [positionInRange]

theorem positionInOrder_iff (s : State) (f : PositionFrame) :
    positionInOrder s f = true ↔ ∀ y, newestSample s = some y → laterThan f.timestamp y.timestamp = true := by
  unfold positionInOrder
  cases newestSample s <;> simp

theorem takePosition_outOfRange {f : PositionFrame} (bad : 4095 < f.angle.toNat ∨ 4000000 < f.travel.toNat) (s : State) :
    takePosition f s =
      raise .malformed (.source 0x10) (modPose (fun p => { p with rangeDiscards := satInc cap16 p.rangeDiscards }) s) := by
  have out : positionInRange f = false := by
    rw [← Bool.not_eq_true, positionInRange_iff]
    omega
  simp [takePosition, out]

theorem takePosition_notLater {f : PositionFrame} {s : State} {y : Sample} (angle : f.angle.toNat ≤ 4095)
    (travel : f.travel.toNat ≤ 4000000) (newest : newestSample s = some y) (old : laterThan f.timestamp y.timestamp = false) :
    takePosition f s =
      raise .positionOrder (.time f.timestamp)
        (modPose (fun p => { p with orderDiscards := satInc cap16 p.orderDiscards }) s) := by
  have range : positionInRange f = true := (positionInRange_iff f).mpr ⟨angle, travel⟩
  have order : positionInOrder s f = false := by
    rw [← Bool.not_eq_true, positionInOrder_iff]
    intro all
    exact Bool.false_ne_true (old.symm.trans (all y newest))
  simp [takePosition, range, order]

theorem takePosition_accepted {f : PositionFrame} {s : State} (angle : f.angle.toNat ≤ 4095)
    (travel : f.travel.toNat ≤ 4000000)
    (later : ∀ y, newestSample s = some y → laterThan f.timestamp y.timestamp = true) :
    takePosition f s = examineDrain (examineBoth (acceptFrame (sampleOf f) s)) := by
  have range : positionInRange f = true := (positionInRange_iff f).mpr ⟨angle, travel⟩
  have order : positionInOrder s f = true := (positionInOrder_iff s f).mpr later
  simp [takePosition, range, order]

/-- An accepted frame: the command's whole outcome. -/
theorem exec_positionFrame_accepted {f : PositionFrame} {s : State} (up : s.headPort.link = .up)
    (angle : f.angle.toNat ≤ 4095) (travel : f.travel.toNat ≤ 4000000)
    (later : ∀ y, newestSample s = some y → laterThan f.timestamp y.timestamp = true) :
    exec (.positionFrame f) s =
      .next (examineDrain (examineBoth (acceptFrame (sampleOf f) (countHeadFrame s)))) := by
  rw [exec_positionFrame up, takePosition_accepted (s := countHeadFrame s) angle travel later]

/-- R44 to R46: the Pose Tracker once the sample has joined its ring. -/
def joinedPose (x : Sample) (now : Time) (p : PoseTracker) : PoseTracker :=
  { p with
    ring := (p.ring ++ [x]).drop (p.ring.length - 15), accepted := min 65535 (p.accepted + 1), feed := .live,
    lastAcceptance := some now }

theorem acceptSample_eq (x : Sample) (s : State) : acceptSample x s = modPose (joinedPose x s.now) s := by
  have kept : s.pose.ring.length + 1 - 16 = s.pose.ring.length - 15 := by omega
  simp only [acceptSample, modPose, joinRing, joinedPose, kept]
  rfl

/-! ### The presence run -/

theorem agrees_iff (p : Presence) (present : Bool) : p.agrees present = true ↔ (p = .present ↔ present = true) := by
  cases p <;> cases present <;> simp [Presence.agrees]

theorem advanceRun_agrees {p : PoseTracker} {x : Sample} (h : p.presence.agrees x.present = true) :
    p.advanceRun x = { p with runLength := 0, runFirst := none } := by
  simp [PoseTracker.advanceRun, h]

/-- The length and the first frame of the run after a frame that disagrees with the presence state. -/
theorem advanceRun_disagrees {p : PoseTracker} {x : Sample} (h : p.presence.agrees x.present = false) :
    p.advanceRun x = { p with
      runLength := if p.runLength = 0 then 1 else min 8 (p.runLength + 1),
      runFirst := if p.runLength = 0 then some { timestamp := x.timestamp, travel := x.travel } else p.runFirst } := by
  unfold PoseTracker.advanceRun
  simp only [h, Bool.false_eq_true, if_false]
  split <;> rfl

theorem advancePresence_agrees {s : State} {x : Sample} (h : s.pose.presence.agrees x.present = true) :
    advancePresence x s = modPose (fun p => { p with runLength := 0, runFirst := none }) s := by
  simp [advancePresence, modPose, advanceRun_agrees h]

theorem advancePresence_short {s : State} {x : Sample} (h : (s.pose.advanceRun x).runLength < presenceCount s) :
    advancePresence x s = modPose (fun p => p.advanceRun x) s := by
  have below : ¬(1 ≤ (modPose (fun p => p.advanceRun x) s).pose.runLength ∧
      presenceCount (modPose (fun p => p.advanceRun x) s) ≤ (modPose (fun p => p.advanceRun x) s).pose.runLength) :=
    fun reached => absurd reached.2 (Nat.not_le.mpr h)
  simp only [advancePresence]
  exact if_neg below

theorem advancePresence_reached {s : State} {x : Sample} (counts : 1 ≤ (s.pose.advanceRun x).runLength)
    (h : presenceCount s ≤ (s.pose.advanceRun x).runLength) :
    advancePresence x s = changePresence (modPose (fun p => p.advanceRun x) s) := by
  simp only [advancePresence]
  exact if_pos ⟨counts, h⟩

/-- R58, R59: where no tube can start or end, the presence state changes and the run is reset. -/
theorem changePresence_alone {s : State} (idle : activeCtx s = none)
    (off : s.pose.presence = .absent → s.agent.mode ≠ .measure) : changePresence s = flipPresence s := by
  cases first : s.pose.runFirst with
  | none => simp only [changePresence, first]; rfl
  | some f =>
    cases presence : s.pose.presence with
    | absent => rw [changePresence_absent first presence, if_neg (off presence)]
    | present =>
      rw [changePresence_present first presence, endTube, show activeCtx (flipPresence s) = none from idle]

theorem presenceCount_eq (s : State) :
    presenceCount s = (s.agent.active.map (fun b => b.map.presenceCount.toNat)).getD 2 := by
  unfold presenceCount
  cases s.agent.active <;> rfl

/-! ### What ends an acceptance, with nothing to do -/

theorem modPose_self {f : PoseTracker → PoseTracker} {s : State} (h : f s.pose = s.pose) : modPose f s = s := by
  rw [modPose, h]
  rfl

theorem resolvePending_nil {s : State} (empty : s.pose.waiting = []) (due : Reading → Bool)
    (how : Reading → State → State) : resolvePending due how s = s := by
  unfold resolvePending
  rw [empty, List.filter_nil, List.foldl_nil]
  refine modPose_self ?_
  rw [empty, List.filter_nil, ← empty]

theorem examineDrain_idle {s : State} (idle : s.drain = none) (settled : ∀ c, stageIs s c .closedWait = false) :
    examineDrain s = s := by
  have none : oldestWaiting s = none := by
    unfold oldestWaiting
    simp [List.find?_eq_none, settled]
  have waits : takeContext s = s := by
    unfold takeContext
    rw [idle, none]
  simp [examineDrain, waits, runDrain, drainOn, idle]

theorem stageIs_of_free {s : State} {c : Ctx} (free : tubeAt s c = none) (g : Stage) : stageIs s c g = false := by
  simp [stageIs, free]

/-- R45: with both contexts FREE, no reading pending and the engine IDLE, the steps after the presence run do nothing. -/
theorem acceptFrame_free {f : Sample} {s u : State} (advanced : advancePresence f (acceptSample f s) = u)
    (a : u.tubes.a = none) (b : u.tubes.b = none) (empty : u.pose.waiting = []) (idle : u.drain = none) :
    examineDrain (examineBoth (acceptFrame f s)) = u := by
  have free (c : Ctx) (g : Stage) : stageIs u c g = false := stageIs_of_free (by cases c <;> assumption) g
  have accepted : acceptFrame f s = u := by
    unfold acceptFrame resolveCovered
    rw [advanced, resolvePending_nil empty, closeRingsByLead, (activeCtx_none_iff u).mpr fun c => free c .active]
  rw [accepted, examineBoth_of_quiet (quiet_of_free a b), examineDrain_idle idle fun c => free c .closedWait]

/-- Settles O35: each way of a frame by its equation; the presence run by what it was and by whether it reaches the count. -/
theorem positionFrameIsJudgedAndJoins : Obligations.PositionFrameIsJudgedAndJoins := by
  refine ⟨fun p x => ⟨agrees_iff _ _, advanceRun_agrees, fun off none => ?_, fun off some => ?_⟩, fun f s up => ⟨fun bad => ?_,
    fun y angle travel newest old => ?_, fun angle travel later empty a b idle _ => ?_⟩⟩
  · rw [advanceRun_disagrees off, if_pos none, if_pos none]
  · rw [advanceRun_disagrees off, if_neg (by omega), if_neg (by omega)]
  · rw [exec_positionFrame up, takePosition_outOfRange bad]
    rfl
  · rw [exec_positionFrame up, takePosition_notLater (s := countHeadFrame s) angle travel newest old]
    rfl
  · let joined := modPose (joinedPose (sampleOf f) s.now) (countHeadFrame s)
    have accepted : acceptSample (sampleOf f) (countHeadFrame s) = joined := acceptSample_eq _ _
    have ends {u : State} (advanced : advancePresence (sampleOf f) joined = u) (tubes : u.tubes = s.tubes)
        (waiting : u.pose.waiting = []) (drain : u.drain = none) : exec (.positionFrame f) s = .next u := by
      rw [exec_positionFrame_accepted up angle travel later,
        acceptFrame_free (accepted ▸ advanced) (tubes ▸ a) (tubes ▸ b) waiting drain]
    intro joins count length first
    have counted : presenceCount joined = count := presenceCount_eq s
    have idle : activeCtx joined = none := (activeCtx_none_iff s).mpr fun c => stageIs_of_free (by cases c <;> assumption) _
    have longer (off : s.pose.presence.agrees f.present = false) :
        joined.pose.advanceRun (sampleOf f) = { joined.pose with runLength := length, runFirst := first } :=
      advanceRun_disagrees off
    have turned (off : s.pose.presence.agrees f.present = false) (le : count ≤ length)
        (alone : s.pose.presence = .absent → s.agent.mode ≠ .measure) :
        advancePresence (sampleOf f) joined =
          modPose (fun p => { p with presence := s.pose.presence.flip, runLength := 0, runFirst := none }) joined := by
      have positive : 1 ≤ length := by simp only [length]; split <;> omega
      rw [advancePresence_reached (by rw [longer off]; exact positive) (by rw [longer off, counted]; exact le)]
      simp only [modPose, longer off]
      exact changePresence_alone idle alone
    refine ⟨fun agrees => ends (advancePresence_agrees agrees) rfl empty ‹_›, fun off short => ?_,
      fun here absent le off => ?_, fun gone present le => ?_⟩
    · refine ends (u := modPose (fun p => { p with runLength := length, runFirst := first }) joined) ?_ rfl empty ‹_›
      rw [advancePresence_short (by rw [longer off, counted]; exact short), modPose, longer off]
      rfl
    · have off' : s.pose.presence.agrees f.present = false := by rw [absent, here]; rfl
      have gives := turned off' le fun _ => off
      rw [absent] at gives
      exact ends gives rfl empty ‹_›
    · have off' : s.pose.presence.agrees f.present = false := by rw [present, gone]; rfl
      have gives := turned off' le fun absent => by rw [present] at absent; cases absent
      rw [present] at gives
      exact ends gives rfl empty ‹_›

end Sys2Proof.Machine
end

section
/-! What the end of a step spares: a tube that is ACTIVE, or SETTLING with its settle condition false, while the other context
settles and drains. -/

namespace Sys2Proof.Machine

variable {K : List EventKind}

/-! ### A context that the end of a step spares -/

/-- From `s` to `t` context `c` keeps its tube with its directory and its retired span, and the Drain Engine takes no hold of
it. -/
structure Spares (c : Ctx) (s t : State) : Prop where
  tube : ∀ {x}, tubeAt s c = some x → ∃ y, tubeAt t c = some y ∧ x.Stands y ∧ y.directory = x.directory
  retired : t.tubes.retired c = s.tubes.retired c
  drain : (∀ g, s.drain = some g → g.ctx ≠ c) → ∀ g, t.drain = some g → g.ctx ≠ c

/-- Context `c` holds a tube that is ACTIVE or SETTLING, and not the Drain Engine. -/
structure Live (c : Ctx) (s : State) : Prop where
  tube : ∃ x, tubeAt s c = some x ∧ (x.stage = .active ∨ x.stage = .settling)
  drain : ∀ g, s.drain = some g → g.ctx ≠ c

namespace Spares

variable {c : Ctx} {s t u : State}

theorem refl (c : Ctx) (s : State) : Spares c s s := ⟨fun {x} h => ⟨x, h, .refl x, rfl⟩, rfl, id⟩

theorem trans (a : Spares c s t) (b : Spares c t u) : Spares c s u where
  tube h := by
    obtain ⟨y, hy, first, same⟩ := a.tube h
    obtain ⟨z, hz, second, same'⟩ := b.tube hy
    exact ⟨z, hz, first.trans second, same'.trans same⟩
  retired := b.retired.trans a.retired
  drain := b.drain ∘ a.drain

theorem live (h : Spares c s t) (live : Live c s) : Live c t := by
  obtain ⟨⟨x, hx, stage⟩, away⟩ := live
  obtain ⟨y, hy, stands, _⟩ := h.tube hx
  exact ⟨⟨y, hy, by rwa [stands.stage]⟩, h.drain away⟩

/-- The context's tube, its retired span and the engine stand. -/
theorem of_eq (tube : tubeAt t c = tubeAt s c) (retired : t.tubes.retired c = s.tubes.retired c)
    (drain : (∀ g, s.drain = some g → g.ctx ≠ c) → ∀ g, t.drain = some g → g.ctx ≠ c) : Spares c s t :=
  ⟨fun {x} h => ⟨x, tube.trans h, .refl x, rfl⟩, retired, drain⟩

end Spares

theorem Reports.spares {s t : State} (h : Reports K s t) (c : Ctx) : Spares c s t where
  tube hx := by
    obtain ⟨y, hy, stands⟩ := h.tube hx
    exact ⟨y, hy, stands, h.directories hx hy⟩
  retired := h.retired c
  drain away := by rw [h.drain]; exact away

/-! ### The drain of the other context -/

theorem putTube_spares {c d : Ctx} (other : d ≠ c) (x : Option Tube) (s : State) : Spares c s (putTube d x s) := by
  obtain rfl : c = otherCtx d := (Ctx.eq_or_other d c).resolve_left fun same => other same.symm
  exact .of_eq (tubeAt_putTube_other ..) (by cases d <;> rfl) id

theorem modTube_spares {c d : Ctx} (other : d ≠ c) (f : Tube → Tube) (s : State) : Spares c s (modTube d f s) := by
  unfold modTube
  split
  · exact .refl c s
  · exact putTube_spares other _ s

theorem setDrain_spares {c : Ctx} {x : Option Drain} (away : ∀ g, x = some g → g.ctx ≠ c) (s : State) :
    Spares c s (s.setDrain x) := .of_eq rfl rfl fun _ => away

theorem takeContext_spares {c : Ctx} {s : State} (live : Live c s) : Spares c s (takeContext s) := by
  unfold takeContext
  split
  next d _ waits =>
    obtain ⟨x, hx, stage⟩ := oldestWaiting_stage waits
    have other : d ≠ c := by
      rintro rfl
      obtain ⟨⟨y, hy, or⟩, _⟩ := live
      obtain rfl : x = y := Option.some.inj (hx.symm.trans hy)
      rw [stage] at or
      obtain h | h := or <;> cases h
    exact (modTube_spares other _ s).trans (setDrain_spares (fun g hg => by cases hg; exact other) _)
  next => exact .refl c s

theorem queueMapFrame_spares {c : Ctx} {d : Drain} (other : d.ctx ≠ c) (t : Tube) (n : Nat) (e : DirEntry) (s : State) :
    Spares c s (queueMapFrame d t n e s) := by
  have sent : Spares c s ((pushMap (.page (mapFrameOf s t n e)) s).setWall
      { s.wall with free := s.wall.free ++ [e.page] }) := .of_eq rfl rfl id
  exact sent.trans ((putTube_spares other _ _).trans (setDrain_spares (fun g hg => by cases hg; exact other) _))

theorem queueMapEnd_spares {c : Ctx} {d : Drain} (other : d.ctx ≠ c) (t : Tube) (s : State) :
    Spares c s (queueMapEnd d t s) := by
  obtain rfl : c = otherCtx d.ctx := (Ctx.eq_or_other d.ctx c).resolve_left fun same => other same.symm
  refine .of_eq ?_ ?_ fun _ g hg => ?_
  · unfold queueMapEnd; cases d.ctx <;> rfl
  · unfold queueMapEnd; cases d.ctx <;> rfl
  · cases hg

theorem drainOne_spares {c : Ctx} {s : State} (live : Live c s) : Spares c s (drainOne s) := by
  unfold drainOne
  split
  · exact .refl c s
  next d hd =>
    have other : d.ctx ≠ c := live.drain d hd
    split
    · split
      · exact .refl c s
      · split
        · exact queueMapFrame_spares other _ _ _ s
        · exact queueMapEnd_spares other _ s
    · exact setDrain_spares (fun g hg => by cases hg; exact other) s

theorem drainOn_spares {c : Ctx} (n : Nat) {s : State} (live : Live c s) : Spares c s (drainOn n s) := by
  induction n generalizing s with
  | zero => exact .refl c s
  | succ n ih =>
    unfold drainOn
    split
    · have first := drainOne_spares live
      have second := takeContext_spares (first.live live)
      exact first.trans (second.trans (ih (second.live (first.live live))))
    · exact .refl c s

theorem examineDrain_spares {c : Ctx} {s : State} (live : Live c s) : Spares c s (examineDrain s) :=
  (takeContext_spares live).trans (drainOn_spares _ ((takeContext_spares live).live live))

/-! ### The settle conditions -/

theorem examineSettle_of_settledOk {c : Ctx} {s : State} (ok : settledOk s c = true) : examineSettle c s = s := by
  rw [settledOk_iff] at ok
  unfold examineSettle
  split
  · rfl
  next x hx =>
    split
    next stage ended => rw [ok x _ hx stage ended]; rfl
    next => rfl

theorem completeSettling_spares {c d : Ctx} (other : d ≠ c) {s : State} (live : Live c s) :
    Spares c s (completeSettling d s) := by
  have closed := ((offerClosing_reports d s).spares c).trans
    (modTube_spares other (fun t => { t with stage := .closedWait, settleEntry := none }) _)
  exact closed.trans (examineDrain_spares (closed.live live))

theorem examineSettle_spares {c : Ctx} (d : Ctx) {s : State} (live : Live c s) (ok : settledOk s c = true) :
    Spares c s (examineSettle d s) := by
  by_cases same : d = c
  · rw [same, examineSettle_of_settledOk ok]
    exact .refl c s
  · unfold examineSettle
    split
    · exact .refl c s
    split
    · split
      · exact completeSettling_spares same live
      · exact .refl c s
    · exact .refl c s

theorem examineBoth_spares {c : Ctx} {s : State} (live : Live c s) (ok : settledOk s c = true) :
    Spares c s (examineBoth s) := by
  obtain ⟨d, h⟩ := examineBoth_eq s
  rw [h]
  have first := examineSettle_spares d live ok
  have still := settledOk_of_wraps (examineSettle_wraps d s) (examineSettle_downstream d s) ok
  exact first.trans (examineSettle_spares _ (first.live live) still)

/-- An ACTIVE tube has no settle condition. -/
theorem settledOk_of_active {c : Ctx} {s : State} {x : Tube} (tube : tubeAt s c = some x) (active : x.stage = .active) :
    settledOk s c = true := by
  simp [settledOk, tube, active]

/-- R74 part 1: a queued trace not later than the end time keeps the settle condition false. -/
theorem settledOk_of_queued {c : Ctx} {s : State} {x : Tube} {e : TubeEnd} {y : Trace} (tube : tubeAt s c = some x)
    (ended : x.ended = some e) (queued : y ∈ s.traceQueue) (early : laterThan y.timestamp e.time = false) :
    settledOk s c = true := by
  rw [settledOk_iff]
  intro z g hz _ hg
  obtain rfl : x = z := Option.some.inj (tube.symm.trans hz)
  obtain rfl : e = g := Option.some.inj (ended.symm.trans hg)
  have awaited : s.traceQueue.all (fun t => laterThan t.timestamp e.time) = false := by
    rw [← Bool.not_eq_true, List.all_eq_true]
    exact fun all => Bool.false_ne_true (early.symm.trans (all y queued))
  rw [settleCondition, awaited]
  rfl

/-- R95: the Drain Engine holds the DRAINING context only. -/
theorem drainOk_ctx {s : State} {g : Drain} (ok : drainOk s = true) (drain : s.drain = some g) :
    stageIs s g.ctx .draining = true := by
  simp only [drainOk, drain, Bool.and_eq_true] at ok
  exact ok.1.1.1.1

/-- R95: the engine does not hold a context whose tube is not DRAINING. -/
theorem drain_away {s : State} {c : Ctx} {x : Tube} (ok : drainOk s = true) (tube : tubeAt s c = some x)
    (stage : x.stage ≠ .draining) (g : Drain) (drain : s.drain = some g) : g.ctx ≠ c := by
  rintro rfl
  have draining := drainOk_ctx ok drain
  rw [stageIs_of_tubeAt tube, beq_iff_eq] at draining
  exact stage draining

/-! ### The absence run -/

/-- A tube that ended stays SETTLING through the end of its step while a trace not later than its end time is queued. -/
theorem awaited_spares {c : Ctx} {s : State} {x : Tube} {e : TubeEnd} {y : Trace} (tube : tubeAt s c = some x)
    (settling : x.stage = .settling) (ended : x.ended = some e) (queued : y ∈ s.traceQueue)
    (early : laterThan y.timestamp e.time = false) (away : ∀ g, s.drain = some g → g.ctx ≠ c) :
    Spares c s (examineBoth s) :=
  examineBoth_spares ⟨⟨x, tube, .inr settling⟩, away⟩ (settledOk_of_queued tube ended queued early)

/-- The ACTIVE context, when at most one is. -/
theorem activeCtx_of_stage {s : State} {c : Ctx} {x : Tube}
    (one : ¬(stageIs s .a .active = true ∧ stageIs s .b .active = true)) (tube : tubeAt s c = some x)
    (active : x.stage = .active) : activeCtx s = some c := by
  have here : stageIs s c .active = true := by rw [stageIs_of_tubeAt tube, beq_iff_eq]; exact active
  unfold activeCtx
  cases c <;> simp_all

/-- R57, R59: an accepted frame that completes the run of absent frames, up to the end of the tube. -/
theorem advancePresence_ends {f : Sample} {s : State} {rf : RunFirst} (present : s.pose.presence = .present)
    (first : (s.pose.advanceRun f).runFirst = some rf) (counts : 1 ≤ (s.pose.advanceRun f).runLength)
    (reached : presenceCount s ≤ (s.pose.advanceRun f).runLength) :
    advancePresence f s = endTube rf.timestamp rf.travel .presenceEnd
      (flipPresence (modPose (fun p => p.advanceRun f) s)) := by
  rw [advancePresence_reached counts reached]
  exact changePresence_present first ((advanceRun_presence _ _).trans present)

/-- R57: the run looks at the presence state and at the run so far alone. -/
theorem acceptSample_run (f g : Sample) (s : State) :
    ((acceptSample f s).pose.advanceRun g).runFirst = (s.pose.advanceRun g).runFirst ∧
    ((acceptSample f s).pose.advanceRun g).runLength = (s.pose.advanceRun g).runLength := by
  cases h : s.pose.presence.agrees g.present with
  | true => rw [advanceRun_agrees h, advanceRun_agrees (p := (acceptSample f s).pose) h]; exact ⟨rfl, rfl⟩
  | false => rw [advanceRun_disagrees h, advanceRun_disagrees (p := (acceptSample f s).pose) h]; exact ⟨rfl, rfl⟩

theorem closeRingsByLead_idle {s : State} (idle : activeCtx s = none) (f : Sample) : closeRingsByLead f s = s := by
  unfold closeRingsByLead
  rw [idle]

theorem presenceCount_of_bank {s : State} {b : Bank} (bank : s.agent.active = some b) :
    presenceCount s = b.map.presenceCount.toNat := by
  rw [presenceCount, bank]

/-- Settles O37: the run ends the tube at its first frame; the queued trace keeps the settle condition false through both
examinations, and the engine never holds a SETTLING context. -/
theorem absenceRunEndsTheTube : Obligations.AbsenceRunEndsTheTube := by
  intro f s b rf c x y run up angle travel later present gone first counts bank reached empty tubes pages tube active queued early
  obtain ⟨-, -, one, -, -⟩ := (tubeLaw_iff s).mp tubes
  obtain ⟨-, -, -, ok⟩ := pages
  rw [exec_positionFrame_accepted up angle travel later]
  generalize hj : acceptSample (sampleOf f) (countHeadFrame s) = joined
  have run' := acceptSample_run (sampleOf f) (sampleOf f) (countHeadFrame s)
  rw [hj] at run'
  let turned := flipPresence (modPose (fun p => p.advanceRun (sampleOf f)) joined)
  have same : turned.tubes = s.tubes ∧ turned.now = s.now ∧ turned.pose.waiting = [] ∧ turned.drain = s.drain ∧
      turned.traceQueue = s.traceQueue ∧ turned.pose.presence = .absent := by
    subst hj
    refine ⟨rfl, rfl, ((advanceRun_lists _ _).2).trans empty, rfl, rfl, ?_⟩
    exact (congrArg Presence.flip ((advanceRun_presence (acceptSample _ (countHeadFrame s)).pose _).trans present)).trans rfl
  obtain ⟨tubes', now, waiting, drain, queue, absent⟩ := same
  have hx : tubeAt turned c = some x := by rw [tubeAt, tubes']; exact tube
  have one' : ¬(stageIs turned .a .active = true ∧ stageIs turned .b .active = true) := by
    simpa only [stageIs, tubeAt, tubes'] using one
  let ended := endTube rf.timestamp rf.travel .presenceEnd turned
  have finished : ended = putTube c (some (x.finish s.now rf.timestamp rf.travel .presenceEnd)) turned := by
    rw [← now]
    exact endTube_some (activeCtx_of_stage one' hx active) hx _ _ _
  have waiting' : ended.pose.waiting = [] := by rw [finished]; exact waiting
  have hz : tubeAt ended c = some (x.finish s.now rf.timestamp rf.travel .presenceEnd) := by
    rw [finished]; exact tubeAt_putTube_same ..
  have accepted : acceptFrame (sampleOf f) (countHeadFrame s) = ended := by
    have advanced : advancePresence (sampleOf f) joined = ended :=
      advancePresence_ends (by subst hj; exact present) (run'.1.trans first) (run'.2 ▸ counts)
        (by rw [run'.2, presenceCount_of_bank (b := b) (by subst hj; exact bank)]; exact reached)
    rw [acceptFrame, hj, advanced, resolveCovered, resolvePending_nil waiting',
      closeRingsByLead_idle ((activeCtx_none_iff _).mpr (endTube_idle one' _ _ _))]
  rw [accepted]
  have away : ∀ g, ended.drain = some g → g.ctx ≠ c := fun g hg =>
    drain_away ok tube (by simp [active]) g (by rw [finished] at hg; exact drain.symm.trans hg)
  have queue' : ended.traceQueue = s.traceQueue := by rw [finished]; exact queue
  have first' := awaited_spares hz rfl rfl (queue'.symm ▸ queued) early away
  have second := examineDrain_spares (first'.live ⟨⟨_, hz, .inr rfl⟩, away⟩)
  obtain ⟨z, hz', stands, directory⟩ := (first'.trans second).tube hz
  have ends := (examineBoth_downstream ended).forget.trans (examineDrain_downstream (K := []) _)
  refine ⟨_, z, rfl, hz', stands.stage, stands.ended, stands.settleEntry, stands.id, directory, ?_, ends.traceQueue.trans queue'⟩
  rw [ends.pose, finished]
  exact absent

end Sys2Proof.Machine
end

section
/-! The expiry of the position silence timer (R46, R47). -/

namespace Sys2Proof.Machine

theorem resolvePending_pose (due : Reading → Bool) {how : Reading → State → State}
    (resolves : ∀ r s, Downstream evaluationKinds s (how r s)) (s : State) :
    (resolvePending due how s).pose = { s.pose with waiting := s.pose.waiting.filter (fun r => !due r) } :=
  foldl_pose (fun x r => (resolves r x).pose) _ _

theorem resolvePending_rest (due : Reading → Bool) {how : Reading → State → State}
    (resolves : ∀ r s, Downstream evaluationKinds s (how r s)) (s : State) :
    (resolvePending due how s).headPort = s.headPort ∧ (resolvePending due how s).agent = s.agent ∧
    (resolvePending due how s).traceQueue = s.traceQueue :=
  have all := Downstream.foldl (fun x r => resolves r x) (s.pose.waiting.filter due)
    (modPose (fun p => { p with waiting := p.waiting.filter (fun r => !due r) }) s)
  ⟨all.headPort, all.agent, all.traceQueue⟩

theorem losePosition_idle {s : State} (idle : activeCtx s = none) : losePosition s = s := by
  unfold losePosition
  rw [idle]

theorem losePosition_some {s : State} {c : Ctx} {x : Tube} {y : Sample} (active : activeCtx s = some c)
    (tube : tubeAt s c = some x) (newest : newestSample s = some y) :
    losePosition s = raise .positionLost (.tube x.id)
      (putTube c (some (x.finish s.now y.timestamp y.travel .positionLost)) s) := by
  unfold losePosition
  rw [active, newest]
  simp only [tube]
  rw [endTube_some active tube]

/-- R46: the timer runs on a LIVE feed and is due. -/
theorem positionSilenceDue_of {s : State} {t : Time} (feed : s.pose.feed = .live) (last : s.pose.lastAcceptance = some t)
    (late : s.agent.timing.positionSilence * 1000 ≤ (s.headPort.partTime - t).toNat) : positionSilenceDue s = true := by
  simp only [positionSilenceDue, feed, last, decide_eq_true_eq]
  exact late

/-- R47 steps 1 and 2: the feed SILENT, the expiry counted, the pending list emptied by extrapolation. -/
def silencedFeed (s : State) : State :=
  resolvePending (fun _ => true) extrapolate
    (modPose (fun p => { p with silenceExpiries := satInc cap16 p.silenceExpiries, feed := .silent }) s)

/-- R47 step 4: the presence run reset. -/
def resetRun (s : State) : State := modPose (fun p => { p with runLength := 0, runFirst := none }) s

theorem expirePosition_due {s : State} (due : positionSilenceDue s = true) :
    expirePosition s = resetRun (losePosition (silencedFeed s)) := by
  unfold expirePosition
  rw [if_pos due]
  rfl

theorem exec_positionSilenceExpiry {s : State} (due : positionSilenceDue s = true) :
    exec .positionSilenceExpiry s = .next (examineBoth (resetRun (losePosition (silencedFeed s)))) := by
  rw [← expirePosition_due due]
  exact if_pos due

theorem silencedFeed_standing (s : State) : Standing tubeKinds s (silencedFeed s) :=
  (modPose_standing _ s).trans (resolvePending_standing _ extrapolate_standing _)

theorem silencedFeed_pose (s : State) :
    (silencedFeed s).pose = { s.pose with
      silenceExpiries := min 65535 (s.pose.silenceExpiries + 1), feed := .silent, waiting := [] } := by
  rw [silencedFeed, resolvePending_pose _ extrapolate_downstream]
  simp [modPose, satInc, satAdd, cap16]

theorem silencedFeed_rest (s : State) : (silencedFeed s).headPort = s.headPort ∧ (silencedFeed s).agent = s.agent ∧
    (silencedFeed s).traceQueue = s.traceQueue := resolvePending_rest _ extrapolate_downstream _

theorem silencedFeed_now (s : State) : (silencedFeed s).now = s.now :=
  congrArg HeadPort.partTime (silencedFeed_rest s).1

/-- R47 step 3: the state in which the ACTIVE tube of context `c`, which stands as `z`, has ended at the newest sample, up to
the examination of the settle conditions. -/
structure LostAt (c : Ctx) (x : Tube) (y : Sample) (s v : State) (z : Tube) : Prop where
  tube : tubeAt v c = some z
  id : z.id = x.id
  stage : z.stage = .settling
  settleEntry : z.settleEntry = some s.now
  ended : z.ended = some { time := y.timestamp, travel := y.travel, length := y.travel - x.startTravel, reason := .positionLost }
  idle : activeCtx v = none
  counts : occurrences v .positionLost = min 65535 (occurrences s .positionLost + 1)
  drain : v.drain = s.drain
  mapQ : v.mill.mapQ = s.mill.mapQ
  traceQueue : v.traceQueue = s.traceQueue
  pose : v.pose = { s.pose with
    silenceExpiries := min 65535 (s.pose.silenceExpiries + 1), feed := .silent, waiting := [], runLength := 0,
    runFirst := none }

theorem lostAt {s : State} {c : Ctx} {x : Tube} {y : Sample}
    (one : ¬(stageIs s .a .active = true ∧ stageIs s .b .active = true)) (active : activeCtx s = some c)
    (tube : tubeAt s c = some x) (newest : newestSample s = some y) :
    ∃ z, LostAt c x y s (resetRun (losePosition (silencedFeed s))) z := by
  have stood := silencedFeed_standing s
  obtain ⟨w, hw, stands⟩ := stood.tube tube
  have active' : activeCtx (silencedFeed s) = some c := stood.activeCtx.trans active
  have newest' : newestSample (silencedFeed s) = some y := by rw [newestSample, silencedFeed_pose]; exact newest
  have one' : ¬(stageIs (silencedFeed s) .a .active = true ∧ stageIs (silencedFeed s) .b .active = true) := by
    rw [stood.stageIs, stood.stageIs]; exact one
  have idle : activeCtx (endTube y.timestamp y.travel .positionLost (silencedFeed s)) = none :=
    (activeCtx_none_iff _).mpr (endTube_idle one' _ _ _)
  rw [endTube_some active' hw, silencedFeed_now] at idle
  rw [losePosition_some active' hw newest', silencedFeed_now]
  let ended := putTube c (some (w.finish s.now y.timestamp y.travel .positionLost)) (silencedFeed s)
  have raised := raise_reports (K := []) (k := .positionLost) (by simp) (by simp) (.tube w.id) ended
  obtain ⟨z, hz, after⟩ := raised.tube
    (tubeAt_putTube_same c (some (w.finish s.now y.timestamp y.travel .positionLost)) (silencedFeed s))
  refine ⟨z, hz, after.id.trans stands.id, after.stage, after.settleEntry, ?_, raised.activeCtx.trans idle, ?_,
    raised.drain.trans stood.drain, raised.mapQ.trans stood.mapQ, ?_, ?_⟩
  · rw [after.ended, Tube.finish, stands.startTravel]
  · have counted : occurrences (raise .positionLost (.tube w.id) ended) .positionLost =
        min 65535 (occurrences (silencedFeed s) .positionLost + 1) := by
      rw [occurrences_raise (by decide), if_pos rfl]
      rfl
    rw [← stood.counts .positionLost (by decide)]
    exact counted
  · exact (raise_traceQueue _ _ ended).trans (silencedFeed_rest s).2.2
  · have kept : (raise .positionLost (.tube w.id) ended).pose = (silencedFeed s).pose := raise_pose ..
    simp only [resetRun, modPose, State.setPose_pose]
    rw [kept, silencedFeed_pose]

theorem activeCtx_none_of_proceeds {s t : State} (h : Proceeds s t) (idle : activeCtx s = none) : activeCtx t = none := by
  rw [activeCtx_none_iff] at idle ⊢
  intro c
  rw [← Bool.not_eq_true]
  exact fun active => Bool.false_ne_true ((idle c).symm.trans (h.stageIs_active active))

/-- Settles O39: the expiry up to the tube's end, then the settle conditions: a full MAP class queue lets no context go FREE,
and a queued trace keeps the tube SETTLING. -/
theorem positionSilenceExpires : Obligations.PositionSilenceExpires := by
  intro s t count feed last late
  have due := positionSilenceDue_of feed last late
  rw [exec_positionSilenceExpiry due]
  refine ⟨fun a b empty => ?_, fun c y tubes active newest => ?_⟩
  · have free (d : Ctx) : stageIs s d .active = false := stageIs_of_free (by cases d <;> assumption) _
    let timed := modPose (fun p => { p with silenceExpiries := satInc cap16 p.silenceExpiries, feed := .silent }) s
    have silenced : silencedFeed s = timed := resolvePending_nil (s := timed) empty _ _
    rw [silenced, losePosition_idle (s := timed) ((activeCtx_none_iff s).mpr free),
      examineBoth_of_quiet (quiet_of_free (s := resetRun timed) a b)]
    rfl
  · obtain ⟨-, -, one, -, -⟩ := (tubeLaw_iff s).mp tubes
    obtain ⟨x, tube, stage⟩ := activeCtx_some active
    obtain ⟨z, lost⟩ := lostAt one active tube newest
    generalize resetRun (losePosition (silencedFeed s)) = v at lost
    have wraps := examineBoth_wraps v
    have same := examineBoth_downstream v
    have pose := same.pose.trans lost.pose
    refine ⟨_, rfl, by rw [pose], by rw [pose], by rw [pose], by rw [pose], by rw [pose], by rw [pose], by rw [pose],
      activeCtx_none_of_proceeds (.of_wraps wraps same) lost.idle, (wraps.counts .positionLost (by decide)).trans lost.counts,
      fun x' pages tube' => ?_⟩
    obtain rfl : x = x' := Option.some.inj (tube.symm.trans tube')
    refine ⟨fun full => ?_, fun tr queued early => ?_⟩
    · obtain ⟨w, hw⟩ := wraps.stays (lost.mapQ.symm ▸ full) lost.tube
      obtain ⟨z', hz', settles⟩ := wraps.tube hw
      obtain rfl : z = z' := Option.some.inj (lost.tube.symm.trans hz')
      exact ⟨w, hw, settles.id.trans lost.id, settles.ended.trans lost.ended⟩
    · obtain ⟨-, -, -, ok⟩ := pages
      have away : ∀ g, v.drain = some g → g.ctx ≠ c := fun g hg =>
        drain_away ok tube (by simp [stage]) g (lost.drain.symm.trans hg)
      have spared := awaited_spares lost.tube lost.stage lost.ended (lost.traceQueue.symm ▸ queued) early away
      obtain ⟨w, hw, stands, -⟩ := spared.tube lost.tube
      exact ⟨w, hw, stands.id.trans lost.id, stands.stage.trans lost.stage, stands.settleEntry.trans lost.settleEntry,
        stands.ended.trans lost.ended⟩

end Sys2Proof.Machine
end

section
/-! READ and CLEAR (R158 to R161, R170, R172, R174): the entry a request names, its data, and what a CLEAR leaves of it. -/

namespace Sys2Proof.Machine

/-! ### A request that is taken -/

section
variable {r : Request} {rest : List Request} {s : State}

theorem takeOldest_ready (ready : Ready r rest s) {op : Operation} (named : operationOf r.operation = some op)
    (work : Request → State → Answer) :
    takeOldest (names op) work s =
      answer r (work r (dequeued rest s)).status (work r (dequeued rest s)).data (work r (dequeued rest s)).state :=
  takeOldest_taken ready.1 ready.2 (by simp [names, named])

theorem exec_read_ok (ready : Ready r rest s) (named : operationOf r.operation = some .read) {e : EntryName} {p : Place}
    (ok : checkRequest .read r (dequeued rest s) = .ok (e, p)) :
    exec .read s = .next (answer r .ok (entryData (dequeued rest s) e p) (afterRead e (dequeued rest s))) := by
  have work : readWork r (dequeued rest s) =
      { status := .ok, data := entryData (dequeued rest s) e p, state := afterRead e (dequeued rest s) } := by
    rw [readWork, ok]
  exact congrArg _ ((takeOldest_ready ready named readWork).trans (by rw [work]))

theorem exec_read_error (ready : Ready r rest s) (named : operationOf r.operation = some .read) {st : Status}
    (error : checkRequest .read r (dequeued rest s) = .error st) :
    exec .read s = .next (answer r st (failureData st r.selector (dequeued rest s)) (dequeued rest s)) := by
  have work : readWork r (dequeued rest s) =
      { status := st, data := failureData st r.selector (dequeued rest s), state := dequeued rest s } := by
    rw [readWork, error]
  exact congrArg _ ((takeOldest_ready ready named readWork).trans (by rw [work]))

theorem exec_clear_ok (ready : Ready r rest s) (named : operationOf r.operation = some .clear) {e : EntryName} {p : Place}
    (ok : checkRequest .clear r (dequeued rest s) = .ok (e, p)) :
    exec .clear s = .next (answer r .ok (entryData (dequeued rest s) e p) (clearEntry e (dequeued rest s))) := by
  have work : clearWork r (dequeued rest s) =
      { status := .ok, data := entryData (dequeued rest s) e p, state := clearEntry e (dequeued rest s) } := by
    rw [clearWork, ok]
  exact congrArg _ ((takeOldest_ready ready named clearWork).trans (by rw [work]))

theorem exec_clear_error (ready : Ready r rest s) (named : operationOf r.operation = some .clear) {st : Status}
    (error : checkRequest .clear r (dequeued rest s) = .error st) :
    exec .clear s = .next (answer r st .none (dequeued rest s)) := by
  have work : clearWork r (dequeued rest s) = refuse st (dequeued rest s) := by rw [clearWork, error]
  exact congrArg _ ((takeOldest_ready ready named clearWork).trans (by rw [work]; rfl))

end

/-! ### The entry a READ names -/

/-- R158: a READ passes its checks on a defined table, selector, index and place, with the segment of a MAP_PAGE present. -/
theorem checkRequest_read {r : Request} {s : State} {t : TableName} {e : EntryName} {p : Place}
    (table : tableOf r.table = some t) (selector : selectorOk t r.selector = true)
    (entry : entryAt t r.index.toNat = some e) (place : placeOf s t r.selector = .ok p)
    (present : segmentPresent e p = true) : checkRequest .read r s = .ok (e, p) := by
  simp [checkRequest, table, selector, opFailure, entry, place, present]

/-- R161: only a HEAD_STATUS read changes anything. -/
theorem afterRead_other {e : EntryName} (other : ∀ h, e ≠ .headStatus h) (s : State) : afterRead e s = s := by
  cases e with
  | headStatus h => exact absurd rfl (other h)
  | head | gate | velocity | velocityCount | mapSetup | timing | output | calib | tempChannel | pose | context | directory
  | mapPage | event | fault | portCounters => rfl

theorem headIndex_val (h : HeadNo) : headIndex h.val = some h := dif_pos h.isLt

theorem eventKindOf_index (k : EventKind) : eventKindOf k.index.val = some k := by cases k <;> rfl

/-- R127, R159: the bank that a selector code names stands there. -/
theorem placeOf_bank {s : State} {t : TableName} {selector : Byte} {b : Bank} (recipe : t.isRecipe = true)
    (named : (selector.toNat = 0 ∧ b = s.agent.staged) ∨ (selector.toNat = 1 ∧ s.agent.active = some b)) :
    ∃ n, placeOf s t selector = .ok (.bank n b) := by
  obtain ⟨code, rfl⟩ | ⟨code, active⟩ := named
  · exact ⟨.staged, by simp [placeOf, recipe, bankNameOf, selectorOf, code]⟩
  · exact ⟨.active, by simp [placeOf, recipe, bankNameOf, selectorOf, code, active]⟩

theorem selectorOk_recipe {t : TableName} {selector : Byte} (plain : t.isContext = false)
    (code : selector.toNat = 0 ∨ selector.toNat = 1) : selectorOk t selector = true := by
  obtain code | code := code <;> simp [selectorOk, plain, bankNameOf, selectorOf, code]

theorem placeOf_part {t : TableName} (recipe : t.isRecipe = false) (context : t.isContext = false) (s : State)
    (selector : Byte) : placeOf s t selector = .ok .part ∧ selectorOk t selector = true := by
  simp [placeOf, selectorOk, recipe, context]

/-- R160: CURRENT names the newer of two tubes, or the only one. -/
theorem currentCtx_eq {s : State} {c : Ctx} (here : tubeAt s c ≠ none)
    (named : tubeAt s (otherCtx c) = none ∨ s.tubes.newest = some c) : currentCtx s = some c := by
  unfold currentCtx
  cases c <;> cases ha : s.tubes.a <;> cases hb : s.tubes.b <;> simp_all [tubeAt, TubeTracker.get, otherCtx]

/-- R160: PREVIOUS names the older of two tubes. -/
theorem previousCtx_eq {s : State} {c : Ctx} (here : tubeAt s c ≠ none) (there : tubeAt s (otherCtx c) ≠ none)
    (newest : s.tubes.newest = some (otherCtx c)) : previousCtx s = some c := by
  unfold previousCtx
  cases c <;> cases ha : s.tubes.a <;> cases hb : s.tubes.b <;> simp_all [tubeAt, TubeTracker.get, otherCtx]

theorem ctxOf_of_named {s : State} {selector : Byte} {c : Ctx} (named : CtxNamed s selector c) :
    ctxOf s selector = some c ∧ isContextSelector selector = true := by
  obtain ⟨here, ⟨code, or⟩ | ⟨code, there, newest⟩ | ⟨code, rfl⟩ | ⟨code, rfl⟩⟩ := named
  · simp [ctxOf, isContextSelector, selectorOf, code, currentCtx_eq here or]
  · simp [ctxOf, isContextSelector, selectorOf, code, previousCtx_eq here there newest]
  · simp [ctxOf, isContextSelector, selectorOf, code]
  · simp [ctxOf, isContextSelector, selectorOf, code]

theorem placeOf_ctx {s : State} {t : TableName} {selector : Byte} {c : Ctx} {x : Tube} (recipe : t.isRecipe = false)
    (context : t.isContext = true) (named : CtxNamed s selector c) (tube : tubeAt s c = some x) :
    placeOf s t selector = .ok (.ctx c x) ∧ selectorOk t selector = true := by
  obtain ⟨found, code⟩ := ctxOf_of_named named
  simp [placeOf, selectorOk, recipe, context, found, code, tube]

/-- R94: the data of a failed READ: none, but for an absent segment's context and tube id. -/
theorem failureData_none {st : Status} (other : st ≠ .emptySegment) (selector : Byte) (s : State) :
    failureData st selector s = .none := by
  unfold failureData
  split
  next => exact absurd rfl other
  next => rfl

theorem failureData_segment {s : State} {selector : Byte} {c : Ctx} {t : Tube} (named : CtxNamed s selector c)
    (tube : tubeAt s c = some t) : failureData .emptySegment selector s = .segmentAbsent c t.id := by
  simp [failureData, (ctxOf_of_named named).1, tube]

/-! ### The silence timer of a head (R146) -/

theorem silenceLeft_active {s : State} {h : HeadNo} {t : Time} (active : headStateOf s h = .active)
    (last : (tableGet s.headPort.heads h).lastArrival = some t) :
    silenceLeft s h = some (s.agent.timing.headSilence * 1000 - (s.headPort.partTime - t).toNat) := by
  unfold silenceLeft
  rw [show (tableGet s.headPort.heads h).state = .active from active, last]
  rfl

theorem silenceLeft_none {s : State} {h : HeadNo} (other : headStateOf s h ≠ .active) : silenceLeft s h = none := by
  unfold silenceLeft
  split
  next active _ => exact absurd active other
  next => rfl

/-! ### CLEAR of an EVENT record (R170, R172) -/

/-- R4: the heads stand in ascending order. -/
theorem allHeads_split : ∀ h : HeadNo,
    allHeads = allHeads.take h.val ++ h :: allHeads.drop (h.val + 1) ∧ ∀ g ∈ allHeads.take h.val, g < h := by decide

theorem allHeads_find {p : HeadNo → Bool} {h : HeadNo} (here : p h = true) (below : ∀ g, g < h → p g = false) :
    allHeads.find? p = some h := by
  obtain ⟨split, before⟩ := allHeads_split h
  rw [List.find?_eq_some_iff_append]
  exact ⟨here, _, _, split, fun g hg => by rw [below g (before g hg)]; rfl⟩

theorem reraiseHeadChange_same {s : State} (same : ∀ h, headStateOf s h = snapshotOf s h) : reraiseHeadChange s = s := by
  have none : allHeads.find? (fun h => headStateOf s h != snapshotOf s h) = none := by
    simp [List.find?_eq_none, same]
  rw [reraiseHeadChange, none]

theorem reraiseHeadChange_lowest {s : State} {h : HeadNo} (differs : headStateOf s h ≠ snapshotOf s h)
    (below : ∀ g, g < h → headStateOf s g = snapshotOf s g) :
    reraiseHeadChange s = raise .headChange (.headStates h (snapshotOf s h) (headStateOf s h)) s := by
  have found : allHeads.find? (fun g => headStateOf s g != snapshotOf s g) = some h :=
    allHeads_find (by simpa using differs) fun g hg => by simpa using below g hg
  rw [reraiseHeadChange, found]
  exact if_neg differs

/-! ### The data of a part-wide entry, wherever it stands -/

theorem entryData_headStatus (s : State) (h : HeadNo) (p : Place) :
    entryData s (.headStatus h) p = .headStatus (tableGet s.headPort.heads h) (silenceLeft s h) := by cases p <;> rfl

theorem entryData_tempChannel (s : State) (ch : ChannelNo) (p : Place) :
    entryData s (.tempChannel ch) p = .channel (tableGet s.headPort.channels ch) := by cases p <;> rfl

theorem entryData_event (s : State) (k : EventKind) (p : Place) :
    entryData s (.event k) p = .event (tableGet s.events.records k.index) := by cases p <;> rfl

theorem entryData_fault (s : State) (p : Place) : entryData s .fault p = .fault s.events.capture := by cases p <;> rfl

theorem entryData_portCounters (s : State) (p : Place) : entryData s .portCounters p = .portCounters (portView s) := by
  cases p <;> rfl

/-! ### The statement -/

/-- Settles O48: the checks of R158 lead to the entry of each table; its data follows by the table, and what a CLEAR changes by
the entry. -/
theorem readAndClearReturnTheEntry : Obligations.ReadAndClearReturnTheEntry := by
  intro r rest s e p s0 ready
  have reads {t : TableName} {x : EntryName} {q : Place} (named : operationOf r.operation = some .read)
      (table : tableOf r.table = some t) (place : placeOf s0 t r.selector = .ok q ∧ selectorOk t r.selector = true)
      (entry : entryAt t r.index.toNat = some x) (present : segmentPresent x q = true := by rfl)
      (other : ∀ h, x ≠ .headStatus h := by simp) : exec .read s = .next (answer r .ok (entryData s0 x q) s0) := by
    rw [exec_read_ok ready named (checkRequest_read table place.2 entry place.1 present), afterRead_other other]
  refine ⟨fun named ok => ⟨fun h he => ?_, fun other => ?_⟩,
    ⟨fun b bank => ?_, fun h hi => ?_, fun ch hi => ?_, fun hi => ?_, fun k hi => ?_, fun c x ctx tube => ?_, fun h => ?_⟩,
    fun st named error => ⟨fun other => ?_, fun c t same ctx tube => ?_⟩,
    fun st named error => exec_clear_error ready named error, fun named ok => ?_⟩
  · subst he
    rw [exec_read_ok ready named ok, entryData_headStatus]
    rfl
  · rw [exec_read_ok ready named ok, afterRead_other other]
  · have code : r.selector.toNat = 0 ∨ r.selector.toNat = 1 := bank.imp And.left And.left
    have place {t : TableName} (recipe : t.isRecipe = true) (plain : t.isContext = false) :
        ∃ n, placeOf s0 t r.selector = .ok (.bank n b) ∧ selectorOk t r.selector = true := by
      obtain ⟨n, found⟩ := placeOf_bank (s := s0) recipe bank
      exact ⟨n, found, selectorOk_recipe plain code⟩
    refine ⟨fun h hi named table => ?_, fun g hi named table => ?_, fun k hi named table => ?_, fun hi named table => ?_,
      fun hi named table => ?_⟩
    · obtain ⟨n, found⟩ := place (t := .head) rfl rfl
      exact reads named (by simp [tableOf, table]) found (x := .head h) (by simp [entryAt, hi, headIndex_val])
    · obtain ⟨n, found⟩ := place (t := .gate) rfl rfl
      exact reads named (by simp [tableOf, table]) found (x := .gate g) (by simp [entryAt, hi])
    · obtain ⟨n, found⟩ := place (t := .velocity) rfl rfl
      exact reads named (by simp [tableOf, table]) found (x := .velocity k) (by simp [entryAt, hi])
    · obtain ⟨n, found⟩ := place (t := .velocity) rfl rfl
      exact reads named (by simp [tableOf, table]) found (x := .velocityCount) (by simp [entryAt, hi])
    · obtain ⟨n, found⟩ := place (t := .mapSetup) rfl rfl
      exact reads named (by simp [tableOf, table]) found (x := .mapSetup) (by simp [entryAt, hi])
  · refine ⟨fun named table => ?_, fun named table => ?_⟩
    · exact reads named (t := .output) (by simp [tableOf, table]) (placeOf_part rfl rfl _ _) (x := .output h)
        (by simp [entryAt, hi, headIndex_val])
    · exact reads named (t := .calib) (by simp [tableOf, table]) (placeOf_part rfl rfl _ _) (x := .calib h)
        (by simp [entryAt, hi, headIndex_val])
  · intro named table
    exact reads named (t := .tempChannel) (by simp [tableOf, table]) (placeOf_part rfl rfl _ _) (x := .tempChannel ch)
      (by simp [entryAt, hi])
  · refine ⟨fun named table => ?_, fun named table => ?_, fun named table => ?_, fun named table => ?_⟩
    · exact reads named (t := .timing) (by simp [tableOf, table]) (placeOf_part rfl rfl _ _) (x := .timing)
        (by simp [entryAt, hi])
    · exact reads named (t := .fault) (by simp [tableOf, table]) (placeOf_part rfl rfl _ _) (x := .fault)
        (by simp [entryAt, hi])
    · exact reads named (t := .portCounters) (by simp [tableOf, table]) (placeOf_part rfl rfl _ _) (x := .portCounters)
        (by simp [entryAt, hi])
    · exact reads named (t := .pose) (by simp [tableOf, table]) (placeOf_part rfl rfl _ _) (x := .pose)
        (by simp [entryAt, hi])
  · intro named table
    exact reads named (t := .event) (by simp [tableOf, table]) (placeOf_part rfl rfl _ _) (x := .event k)
      (by simp [entryAt, hi, eventKindOf_index])
  · have place {t : TableName} (recipe : t.isRecipe = false) (context : t.isContext = true) :=
      placeOf_ctx (s := s0) recipe context ctx tube
    refine ⟨fun hi named table => ?_, fun hi => ⟨fun named table => ?_, fun d found named table => ?_⟩⟩
    · exact reads named (t := .context) (by simp [tableOf, table]) (place rfl rfl) (x := .context) (by simp [entryAt, hi])
    · exact reads named (t := .directory) (by simp [tableOf, table]) (place rfl rfl) (x := .directory r.index.toNat)
        (if_pos hi)
    · have read := reads named (t := .mapPage) (by simp [tableOf, table]) (place rfl rfl) (x := .mapPage r.index.toNat)
        (if_pos hi) (by simp [segmentPresent, found])
      simp only [entryData, found] at read
      exact read
  · refine ⟨fun t active last => silenceLeft_active active last, silenceLeft_none, fun named table hi => ?_⟩
    have ok : checkRequest .read r s0 = .ok (.headStatus h, .part) :=
      checkRequest_read (t := .headStatus) (by simp [tableOf, table]) (placeOf_part rfl rfl s0 _).2
        (by simp [entryAt, hi, headIndex_val]) (placeOf_part rfl rfl s0 _).1 rfl
    exact ⟨_, exec_read_ok ready named ok, tableGet_tableSet_same ..⟩
  · rw [exec_read_error ready named error, failureData_none other]
  · rw [exec_read_error ready named error, same, failureData_segment (s := s0) ctx tube]
  · rw [exec_clear_ok ready named ok]
    refine ⟨fun h he => ?_, fun ch he => ?_, fun he => ?_, fun he => ?_, fun k he => ?_⟩
    · subst he; rw [entryData_headStatus]; rfl
    · subst he; rw [entryData_tempChannel]; rfl
    · subst he; rw [entryData_portCounters]; rfl
    · subst he; rw [entryData_fault]; rfl
    · subst he
      intro cleared ends
      simp only [ends]
      rw [entryData_event]
      refine ⟨fun same => ?_, fun h change differs below => ?_⟩
      · have answered : clearEntry (.event k) s0 = cleared := by
          obtain other | same := same
          · exact if_neg other
          · by_cases change : k = .headChange
            · exact (if_pos change).trans (reraiseHeadChange_same (s := cleared) same)
            · exact if_neg change
        rw [answered]
        rfl
      · have answered : clearEntry (.event k) s0 =
            raise .headChange (.headStates h (snapshotOf s h) (headStateOf s h)) cleared :=
          (if_pos change).trans (reraiseHeadChange_lowest (s := cleared) differs below)
        rw [answered]
        rfl

end Sys2Proof.Machine
end

section
/-! A write of TIMING (R133) and the timers that it makes due (R46, R76, R119, R141). -/

namespace Sys2Proof.Machine

/-! ### What an expiry leaves of the other timers -/

/-- From `s` to `t` part time, the limits and the run stand, and no context became SETTLING at an earlier time. -/
structure Clocked (s t : State) : Prop where
  now : t.now = s.now
  timing : t.agent.timing = s.agent.timing
  run : t.agent.run = s.agent.run
  entries : ∀ {c y}, tubeAt t c = some y → y.stage = .settling →
    y.settleEntry = some s.now ∨ ∃ x, tubeAt s c = some x ∧ x.stage = .settling ∧ y.settleEntry = x.settleEntry

namespace Clocked

variable {K J : List EventKind} {s t u : State}

theorem trans (a : Clocked s t) (b : Clocked t u) : Clocked s u where
  now := b.now.trans a.now
  timing := b.timing.trans a.timing
  run := b.run.trans a.run
  entries hy settling := by
    obtain entry | ⟨x, hx, stage, entry⟩ := b.entries hy settling
    · exact .inl (a.now ▸ entry)
    · rw [entry]
      exact a.entries hx stage

theorem of_wraps (wraps : Wraps s t) (headPort : t.headPort = s.headPort) (agent : t.agent = s.agent) : Clocked s t where
  now := congrArg HeadPort.partTime headPort
  timing := by rw [agent]
  run := by rw [agent]
  entries hy settling := by
    obtain ⟨x, hx, settles⟩ := wraps.tube hy
    exact .inr ⟨x, hx, settles.settling settling⟩

theorem of_standing (stands : Standing K s t) (now : t.now = s.now) (agent : t.agent = s.agent) : Clocked s t where
  now := now
  timing := by rw [agent]
  run := by rw [agent]
  entries hy settling := by
    obtain ⟨x, hx, same⟩ := stands.back hy
    exact .inr ⟨x, hx, same.stage.symm.trans settling, same.settleEntry⟩

theorem refl (s : State) : Clocked s s := of_standing (Standing.refl (K := []) s) rfl rfl

/-- R76: a settle limit of at least a millisecond is not due at once. -/
theorem settleDue (h : Clocked s t) (positive : 1 ≤ s.agent.timing.settle) {c : Ctx} (off : settleDue s c = false) :
    settleDue t c = false := by
  rw [← Bool.not_eq_true]
  intro due
  obtain ⟨y, e, hy, settling, entry, late⟩ := settleDue_stage due
  rw [h.timing, h.now] at late
  obtain now | ⟨x, hx, stage, same⟩ := h.entries hy settling
  · obtain rfl : e = s.now := Option.some.inj (entry.symm.trans now)
    simp only [age, BitVec.sub_self, BitVec.toNat_zero] at late
    omega
  · have due' : Machine.settleDue s c = true := by
      simp only [Machine.settleDue, hx, stage, ← same, entry]
      exact decide_eq_true late
    exact Bool.false_ne_true (off.symm.trans due')

theorem calibrationDue (h : Clocked s t) : calibrationDue t = calibrationDue s := by
  simp only [Machine.calibrationDue, h.run, h.timing, h.now]

theorem positionSilenceDue (h : Clocked s t) (pose : t.pose = s.pose) : positionSilenceDue t = positionSilenceDue s := by
  have limit : silenceLimit t = silenceLimit s := by rw [silenceLimit, h.timing, silenceLimit]
  unfold Machine.positionSilenceDue
  rw [pose, limit, h.now]

end Clocked

/-! ### The four expiries -/

theorem expireHead_off {s : State} {h : HeadNo} (off : headSilenceDue s h = false) : expireHead h s = s := by
  simp [expireHead, off]

theorem expirePosition_off {s : State} (off : positionSilenceDue s = false) : expirePosition s = s := by
  simp [expirePosition, off]

theorem expireSettle_off {s : State} {c : Ctx} (off : settleDue s c = false) : expireSettle c s = s := by
  unfold expireSettle
  split
  · rfl
  split
  · rfl
  · rw [off]; rfl

theorem expireRun_off {s : State} (off : calibrationDue s = false) : expireRun s = s := by
  unfold expireRun
  split
  · rfl
  · rw [off]; rfl

/-- R141 step 1: the head SILENT. -/
def silencedHead (h : HeadNo) (s : State) : State := modHead h (fun r => { r with state := .silent }) s

theorem expireHead_due {s : State} {h : HeadNo} (due : headSilenceDue s h = true) :
    expireHead h s = compareSnapshot h (allHeadsLost (loseHead h (silencedHead h s))) := if_pos due

theorem expireHead_downstream {s : State} {h : HeadNo} (due : headSilenceDue s h = true) :
    Downstream evaluationKinds (silencedHead h s) (expireHead h s) := by
  rw [expireHead_due due]
  exact (loseHead_downstream h _).trans ((allHeadsLost_downstream _).trans (compareSnapshot_downstream h _))

theorem expireHead_clocked {s : State} {h : HeadNo} (due : headSilenceDue s h = true) : Clocked s (expireHead h s) :=
  .of_standing (expireHead_standing h s) ((congrArg HeadPort.partTime (expireHead_downstream due).headPort).trans rfl)
    (expireHead_downstream due).agent

/-- R141: a head's expiry leaves the other heads' timers. -/
theorem headSilenceDue_expireHead {s : State} {h g : HeadNo} (other : g ≠ h) :
    headSilenceDue (expireHead h s) g = headSilenceDue s g := by
  cases due : headSilenceDue s h with
  | false => rw [expireHead_off due]
  | true =>
    have clocked := expireHead_clocked due
    have record : tableGet (expireHead h s).headPort.heads g = tableGet s.headPort.heads g := by
      rw [(expireHead_downstream due).headPort]
      exact tableGet_tableMod_other _ _ other
    simp only [headSilenceDue, record, clocked.timing, clocked.now]

theorem endTube_clocked (time : Time) (travel : Nat) (reason : CloseReason) (s : State) :
    Clocked s (endTube time travel reason s) := by
  cases active : activeCtx s with
  | none => unfold endTube; rw [active]; exact .refl s
  | some c =>
    obtain ⟨x, hx, _⟩ := activeCtx_some active
    rw [endTube_some active hx]
    refine { now := rfl, timing := rfl, run := rfl, entries := fun {d y} hy settling => ?_ }
    obtain rfl | rfl := Ctx.eq_or_other c d
    · rw [tubeAt_putTube_same] at hy
      cases hy
      exact .inl rfl
    · rw [tubeAt_putTube_other] at hy
      exact .inr ⟨y, hy, settling, rfl⟩

theorem expirePosition_clocked (s : State) : Clocked s (expirePosition s) := by
  cases due : positionSilenceDue s with
  | false => rw [expirePosition_off due]; exact .refl s
  | true =>
    rw [expirePosition_due due]
    have silenced : Clocked s (silencedFeed s) :=
      .of_standing (silencedFeed_standing s) (silencedFeed_now s) (silencedFeed_rest s).2.1
    have lost (v : State) : Clocked v (losePosition v) := by
      unfold losePosition
      split
      · split
        · exact .refl v
        · exact (endTube_clocked _ _ _ v).trans
            (.of_standing (raise_standing (K := []) (by simp) (by simp) _ _) (congrArg HeadPort.partTime (raise_headPort ..))
              (raise_agent ..))
      · exact .refl v
    exact silenced.trans ((lost _).trans (.of_standing (modPose_standing (K := []) _ _) rfl rfl))

theorem expireSettle_clocked (c : Ctx) (s : State) : Clocked s (expireSettle c s) := by
  cases due : settleDue s c with
  | false => rw [expireSettle_off due]; exact .refl s
  | true =>
    obtain ⟨x, _, hx, settling, _⟩ := settleDue_stage due
    unfold expireSettle
    rw [hx]
    simp only
    split
    · exact .refl s
    next e _ =>
      rw [if_pos due]
      have raised : Standing tubeKinds s (raise .settleTimeout (.tube x.id) s) :=
        raise_standing (by decide) noticeLost_notMem_tubeKinds _ s
      have stands := raised.trans
        (resolvePending_standing (fun r => notLater r.timestamp e.time) extrapolate_standing _)
      obtain ⟨y, hy, same⟩ := stands.tube hx
      obtain ⟨headPort, agent, _⟩ := resolvePending_rest (fun r => notLater r.timestamp e.time) extrapolate_downstream
        (raise .settleTimeout (.tube x.id) s)
      have closed := completeSettling_downstream c (resolvePending (fun r => notLater r.timestamp e.time) extrapolate
        (raise .settleTimeout (.tube x.id) s))
      refine (Clocked.of_standing stands (congrArg HeadPort.partTime (headPort.trans (raise_headPort ..)))
        (agent.trans (raise_agent ..))).trans ?_
      exact .of_wraps (completeSettling_wraps hy (same.stage.trans settling)) closed.headPort closed.agent

theorem examineBoth_clocked (s : State) : Clocked s (examineBoth s) :=
  .of_wraps (examineBoth_wraps s) (examineBoth_downstream s).headPort (examineBoth_downstream s).agent

/-! ### Each of a list expired in turn -/

section
variable {α : Type} {f : State → α → State} {due : State → α → Bool}

/-- With none due, none expires. -/
theorem foldl_off (off : ∀ s x, due s x = false → f s x = s) {l : List α} {s : State} (none : ∀ x ∈ l, due s x = false) :
    l.foldl f s = s := by
  induction l with
  | nil => rfl
  | cons x rest ih =>
    rw [List.foldl_cons, off s x (none x (List.mem_cons_self ..))]
    exact ih fun y hy => none y (List.mem_cons_of_mem _ hy)

/-- With one due, and none made due by its expiry, that one expires. -/
theorem foldl_one (off : ∀ s x, due s x = false → f s x = s) {l : List α} {s : State} {x : α} (mem : x ∈ l) (nodup : l.Nodup)
    (others : ∀ y, y ≠ x → due s y = false ∧ due (f s x) y = false) : l.foldl f s = f s x := by
  induction l with
  | nil => cases mem
  | cons z rest ih =>
    obtain ⟨fresh, nodup⟩ := List.nodup_cons.mp nodup
    rw [List.foldl_cons]
    by_cases same : x = z
    · subst same
      exact foldl_off off fun y hy => (others y fun e => fresh (e ▸ hy)).2
    · rw [off s z (others z (Ne.symm same)).1]
      exact ih ((List.mem_cons.mp mem).resolve_left same) nodup

end

theorem olderFirst_mem (s : State) (c : Ctx) : c ∈ olderFirst s := by
  unfold olderFirst
  cases s.tubes.newest with
  | none => cases c <;> simp
  | some n =>
    obtain rfl | rfl := Ctx.eq_or_other n c <;> simp

theorem olderFirst_nodup (s : State) : (olderFirst s).Nodup := by
  unfold olderFirst
  cases s.tubes.newest with
  | none => simp
  | some n => cases n <;> simp [otherCtx]

/-! ### The timers that a write makes due -/

theorem mem_timersDue (s : State) (i : Instr) :
    i ∈ timersDue s ↔
      (∃ h, headSilenceDue s h = true ∧ i = .headSilenceExpiry h) ∨
      (positionSilenceDue s = true ∧ i = .positionSilenceExpiry) ∨
      (∃ c, settleDue s c = true ∧ i = .settleLimitExpiry c) ∨ (calibrationDue s = true ∧ i = .calibrationTimeout) := by
  have heads : ∀ h : HeadNo, h ∈ allHeads := by decide
  have ctxs : ∀ c : Ctx, c = .a ∨ c = .b := fun c => by cases c <;> simp
  simp only [timersDue, List.mem_append, List.mem_map, List.mem_filter, heads, true_and, List.mem_ite_nil_right,
    List.mem_cons, List.not_mem_nil, or_false, ctxs, eq_comm (b := i), or_assoc]

/-- The timers that have not reached their limits. -/
structure NotDue (s : State) : Prop where
  heads : ∀ h, headSilenceDue s h = false
  position : positionSilenceDue s = false
  settles : ∀ c, settleDue s c = false
  run : calibrationDue s = false

theorem foldl_heads_off {s : State} (off : ∀ h, headSilenceDue s h = false) :
    allHeads.foldl (fun x h => expireHead h x) s = s :=
  foldl_off (due := headSilenceDue) (fun _ _ h => expireHead_off h) fun h _ => off h

theorem foldl_settles_off {s : State} (off : ∀ c, settleDue s c = false) :
    (olderFirst s).foldl (fun x c => expireSettle c x) s = s :=
  foldl_off (due := settleDue) (fun _ _ h => expireSettle_off h) fun c _ => off c

theorem fireDueTimers_off {s : State} (none : NotDue s) (quiet : Quiet s) : fireDueTimers s = s := by
  simp only [fireDueTimers]
  rw [foldl_heads_off none.heads, expirePosition_off none.position, foldl_settles_off none.settles, expireRun_off none.run,
    examineBoth_of_quiet quiet]

theorem expireRun_timing (s : State) : (expireRun s).agent.timing = s.agent.timing := by
  unfold expireRun
  split
  · rfl
  split
  · rw [endRun_agent]
    unfold writeFactor
    split <;> rfl
  · rfl

theorem stageIs_expireRun (s : State) (c : Ctx) (g : Stage) : stageIs (expireRun s) c g = stageIs s c g := by
  unfold expireRun
  split
  · rfl
  next r _ =>
    split
    · exact (endRun_keeps r .timeout none s).2.2 c g
    · rfl

theorem fireDueTimers_timing (s : State) : (fireDueTimers s).agent.timing = s.agent.timing := by
  have heads (v : State) : (allHeads.foldl (fun x h => expireHead h x) v).agent.timing = v.agent.timing := by
    induction allHeads generalizing v with
    | nil => rfl
    | cons h rest ih =>
      refine (ih _).trans ?_
      change (expireHead h v).agent.timing = _
      cases due : headSilenceDue v h with
      | false => rw [expireHead_off due]
      | true => exact (expireHead_clocked due).timing
  have settles (l : List Ctx) (v : State) : (l.foldl (fun x c => expireSettle c x) v).agent.timing = v.agent.timing := by
    induction l generalizing v with
    | nil => rfl
    | cons c rest ih => exact (ih _).trans (expireSettle_clocked c v).timing
  simp only [fireDueTimers]
  rw [(examineBoth_clocked _).timing, expireRun_timing, settles, (expirePosition_clocked _).timing, heads]

/-- R46, R76, R119, R141: with one timer due, a write's step is that timer's own expiry. -/
theorem fireDueTimers_one {s : State} {expiry : Instr} (one : timersDue s = [expiry]) (positive : 1 ≤ s.agent.timing.settle)
    (quiet : expiry = .calibrationTimeout → Quiet s) : exec expiry s = .next (fireDueTimers s) := by
  have due (i : Instr) := one ▸ mem_timersDue s i
  simp only [List.mem_singleton] at due
  have heads (h : HeadNo) (other : expiry ≠ .headSilenceExpiry h) : headSilenceDue s h = false := by
    rw [← Bool.not_eq_true]
    exact fun now => other ((due _).mpr (.inl ⟨h, now, rfl⟩)).symm
  have position (other : expiry ≠ .positionSilenceExpiry) : positionSilenceDue s = false := by
    rw [← Bool.not_eq_true]
    exact fun now => other ((due _).mpr (.inr (.inl ⟨now, rfl⟩))).symm
  have settles (c : Ctx) (other : expiry ≠ .settleLimitExpiry c) : settleDue s c = false := by
    rw [← Bool.not_eq_true]
    exact fun now => other ((due _).mpr (.inr (.inr (.inl ⟨c, now, rfl⟩)))).symm
  have run (other : expiry ≠ .calibrationTimeout) : calibrationDue s = false := by
    rw [← Bool.not_eq_true]
    exact fun now => other ((due _).mpr (.inr (.inr (.inr ⟨now, rfl⟩)))).symm
  obtain ⟨h, now, rfl⟩ | ⟨now, rfl⟩ | ⟨c, now, rfl⟩ | ⟨now, rfl⟩ := (due expiry).mp rfl
  · have clocked := expireHead_clocked now
    have expired : allHeads.foldl (fun x g => expireHead g x) s = expireHead h s :=
      foldl_one (due := headSilenceDue) (f := fun x g => expireHead g x) (fun _ _ off => expireHead_off off)
        ((by decide : ∀ g : HeadNo, g ∈ allHeads) h) (by decide) fun g other =>
          have off := heads g (by simpa using Ne.symm other)
          ⟨off, (headSilenceDue_expireHead other).trans off⟩
    have fired : fireDueTimers s = examineBoth (expireHead h s) := by
      simp only [fireDueTimers]
      rw [expired, expirePosition_off ((clocked.positionSilenceDue (expireHead_downstream now).pose).trans
          (position (by simp))), foldl_settles_off fun c => clocked.settleDue positive (settles c (by simp)),
        expireRun_off (clocked.calibrationDue.trans (run (by simp)))]
    rw [fired]
    exact if_pos now
  · have clocked := expirePosition_clocked s
    have fired : fireDueTimers s = examineBoth (expirePosition s) := by
      simp only [fireDueTimers]
      rw [foldl_heads_off fun h => heads h (by simp),
        foldl_settles_off fun c => clocked.settleDue positive (settles c (by simp)),
        expireRun_off (clocked.calibrationDue.trans (run (by simp)))]
    rw [fired]
    exact if_pos now
  · have clocked := expireSettle_clocked c s
    have expired : (olderFirst s).foldl (fun x d => expireSettle d x) s = expireSettle c s :=
      foldl_one (due := settleDue) (f := fun x d => expireSettle d x) (fun _ _ off => expireSettle_off off)
        (olderFirst_mem s c) (olderFirst_nodup s) fun d other =>
          have off := settles d (by simpa using Ne.symm other)
          ⟨off, clocked.settleDue positive off⟩
    have fired : fireDueTimers s = examineBoth (expireSettle c s) := by
      simp only [fireDueTimers]
      rw [foldl_heads_off fun h => heads h (by simp), expirePosition_off (position (by simp)), expired,
        expireRun_off (clocked.calibrationDue.trans (run (by simp)))]
    rw [fired]
    exact if_pos now
  · have still : Quiet (expireRun s) :=
      ⟨(stageIs_expireRun s _ _).trans (quiet rfl).1, (stageIs_expireRun s _ _).trans (quiet rfl).2⟩
    have fired : fireDueTimers s = expireRun s := by
      simp only [fireDueTimers]
      rw [foldl_heads_off fun h => heads h (by simp), expirePosition_off (position (by simp)),
        foldl_settles_off fun c => settles c (by simp), examineBoth_of_quiet still]
    rw [fired]
    rfl

/-! ### WRITE and EXCHANGE of TIMING -/

/-- R158: a WRITE or EXCHANGE of TIMING passes its checks. -/
theorem checkRequest_timing {op : TableOp} {r : Request} {s : State} (writes : op = .write ∨ op = .exchange)
    (table : tableOf r.table = some .timing) (index : r.index = 0) : checkRequest op r s = .ok (.timing, .part) := by
  obtain rfl | rfl := writes <;>
    simp [checkRequest, table, index, selectorOk, TableName.isRecipe, TableName.isContext, opFailure, entryAt, placeOf,
      segmentPresent]

theorem exec_write_ok {r : Request} {rest : List Request} {s : State} (ready : Ready r rest s)
    (named : operationOf r.operation = some .write) {e : EntryName} {p : Place} {v : State} {clamped : Bool}
    (ok : checkRequest .write r (dequeued rest s) = .ok (e, p))
    (stored : storeEntry e r.data (dequeued rest s) = (v, clamped)) :
    exec .write s = .next (answer r (storeStatus clamped) (if clamped then entryData v e p else .none) v) := by
  have work : writeWork r (dequeued rest s) =
      { status := storeStatus clamped, data := if clamped then entryData v e p else .none, state := v } := by
    rw [writeWork, ok]
    simp only [stored]
  exact congrArg _ ((takeOldest_ready ready named writeWork).trans (by rw [work]))

theorem exec_exchange_ok {r : Request} {rest : List Request} {s : State} (ready : Ready r rest s)
    (named : operationOf r.operation = some .exchange) {e : EntryName} {p : Place} {v : State} {clamped : Bool}
    (ok : checkRequest .exchange r (dequeued rest s) = .ok (e, p))
    (stored : storeEntry e r.data (dequeued rest s) = (v, clamped)) :
    exec .exchange s = .next (answer r (storeStatus clamped) (entryData (dequeued rest s) e p) v) := by
  have work : exchangeWork r (dequeued rest s) =
      { status := storeStatus clamped, data := entryData (dequeued rest s) e p, state := v } := by
    rw [exchangeWork, ok]
    simp only [stored]
  exact congrArg _ ((takeOldest_ready ready named exchangeWork).trans (by rw [work]))

/-- Settles O50: the stored limits by the clamp, the answer by whether they are as written, the timers one by one. -/
theorem timingWriteClamps : Obligations.TimingWriteClamps := by
  intro r rest s s0 w t u kept written ready table index
  have same : kept ↔ t = parseTiming r.data := by simp only [kept, parseTiming, t, w, Timing.mk.injEq]
  have stored {v : State} (fired : fireDueTimers u = v) :
      storeEntry .timing r.data s0 = (v, decide (t ≠ parseTiming r.data)) := by
    have changed : (t != parseTiming r.data) = decide (t ≠ parseTiming r.data) := by
      by_cases as : t = parseTiming r.data <;> simp [as]
    rw [← fired, ← changed]
    rfl
  have wrote {v : State} (fired : fireDueTimers u = v) : written v := by
    have timing : v.agent.timing = t := by rw [← fired, fireDueTimers_timing]; rfl
    have write (named) := exec_write_ok ready named (checkRequest_timing (.inl rfl) table index) (stored fired)
    have exchange (named) := exec_exchange_ok ready named (checkRequest_timing (.inr rfl) table index) (stored fired)
    refine ⟨fun named => ⟨fun as => ?_, fun other => ?_⟩, fun named => ⟨fun as => ?_, fun other => ?_⟩⟩
    · rw [write named, decide_eq_false (not_not.mpr (same.mp as))]
      rfl
    · rw [write named, decide_eq_true (mt same.mpr other), ← timing]
      rfl
    · rw [exchange named, decide_eq_false (not_not.mpr (same.mp as))]
      rfl
    · rw [exchange named, decide_eq_true (mt same.mpr other)]
      rfl
  refine ⟨fun quiet none => wrote (fireDueTimers_off ?_ quiet), fun expiry one quiet =>
    ⟨_, fireDueTimers_one one ?_ quiet, wrote rfl⟩⟩
  · have absent (i : Instr) := mt (mem_timersDue u i).mpr (none ▸ List.not_mem_nil)
    refine ⟨fun h => ?_, ?_, fun c => ?_, ?_⟩ <;> rw [← Bool.not_eq_true] <;> intro due
    · exact absent _ (.inl ⟨h, due, rfl⟩)
    · exact absent _ (.inr (.inl ⟨due, rfl⟩))
    · exact absent _ (.inr (.inr (.inl ⟨c, due, rfl⟩)))
    · exact absent _ (.inr (.inr (.inr ⟨due, rfl⟩)))
  · change 1 ≤ max 5 (min 1000 (w 6))
    omega

end Sys2Proof.Machine
end

section
/-! A state that refutes the last clause of `ValidReadingUpdatesOneCell`: nothing there bounds a tube's sector count, and with 100
sectors the cell of a reading may lie past the end of its own page. -/

namespace Sys2Proof.Machine

/-- A VALID reading of this time, extrapolated at the expiry. -/
def waitingReading (time : Time) : Reading :=
  { head := 0, sequence := 0, timestamp := time, generation := 0, outcome := .valid,
    flags := { edge := false, weak := false, flaw := false, fallbackPair := false, tempClamp := false,
               tempFallback := false, saturated := false, extrapolated := false },
    delta := none, echo1 := none, echo2 := none, echo3 := none, temperature := 0, velocity := 0, thickness := some 10000,
    placement := none, sector := none, bin := none, tubeId := none }

/-- The two samples: the travel falls by 400 between them. -/
def sampleBefore : Sample := { sequence := 0, timestamp := 0, angle := 0, travel := 1000, present := true }

def sampleAfter : Sample := { sequence := 1, timestamp := 1000, angle := 0, travel := 600, present := true }

/-- An ACTIVE tube of 100 sectors, with page 0 in segment 1. -/
def wideTube : Tube :=
  { stage := .active, id := 1, startTime := 0, startTravel := 0, ended := none, generation := 0,
    setup := { sectors := 100, binLen := 100, closeMargin := 0, gapLimit := 0, headZone := 0, tailZone := 0, windowLow := 0,
               windowHigh := 65535 },
    heads := [], directory := [(1, { page := 0, readings := 0 })], nextRing := 0, binsClosed := 0, digest := [],
    outcomes := Vector.replicate 6 0, placements := Vector.replicate 12 0, headsLost := Vector.replicate 8 false,
    pagesUsed := 1, pagesTaken := 0, pagesLost := 0, worstSeen := .clear, settleEntry := none }

/-- Position silence is due; the first reading falls in bin 5, whose segment has page 0, and the second in bin 0, whose segment
takes page 1. -/
def overflowing : State :=
  { State.reset with
    headPort := { HeadPort.reset with partTime := 20000 },
    traceQueue := [{ head := 0, interval := .ns10, sequence := 0, timestamp := 1000, energy := 0, samples := [] }],
    pose := { PoseTracker.reset with
      ring := [sampleBefore, sampleAfter], feed := .live, lastAcceptance := some 1000, presence := .present,
      waiting := [waitingReading 1100, waitingReading 2400] },
    tubes := { TubeTracker.reset with a := some wideTube, idCounter := 1, newest := some .a },
    wall := { pool := [], free := (List.range 383).map Nat.succ } }

/-- R83: page 0 stands in the directory, the others on the free list. -/
theorem overflowing_pageLaw : PageLaw overflowing := by
  refine ⟨?_, by decide, by decide, by decide⟩
  have range : List.range 384 = [0] ++ (List.range 383).map Nat.succ := List.range_succ_eq_map
  rw [range]
  exact List.perm_append_comm

/-- The first reading's cell, at address 300, lies in page 1. -/
theorem overflowing_inCell :
    InCell overflowing .a wideTube (waitingReading 1100) (poseAt sampleBefore sampleAfter 1100) 10000 300 :=
  ⟨rfl, rfl, by decide, rfl, rfl, by decide, by decide, _, rfl, by decide⟩

/-- The expiry's outcome: the second reading's segment takes page 1 and clears the first reading's cell. -/
theorem overflowing_cleared :
    ∃ u, exec .positionSilenceExpiry overflowing = .next u ∧ (readCell u.wall.pool 300).extrapolated = false :=
  ⟨_, rfl, by decide⟩

/-- Refutes O26: in `overflowing` the cell of the first extrapolated reading is cleared by the page the second one takes. -/
theorem not_validReadingUpdatesOneCell : ¬ Obligations.ValidReadingUpdatesOneCell := by
  rintro ⟨-, extrapolated⟩
  obtain ⟨u, outcome, marked⟩ :=
    (extrapolated overflowing (waitingReading 1100) sampleBefore sampleAfter .a wideTube 10000 300 rfl (by decide)
      overflowing_inCell).2.2 .positionSilenceExpiry [waitingReading 1100, waitingReading 2400]
      (.inl ⟨rfl, by decide, rfl⟩) (by simp) overflowing_pageLaw
  obtain ⟨v, outcome', cleared⟩ := overflowing_cleared
  obtain rfl : u = v := Host.Outcome.next.inj (outcome.symm.trans outcome')
  exact Bool.false_ne_true (cleared.symm.trans marked)

end Sys2Proof.Machine
end

section
/-! Readings resolved one after another on a live tube (R47 to R53): each sends one reading, and the tube they fall in stands. -/

namespace Sys2Proof.Machine

/-! ### The newest two samples (R42, R44) -/

theorem lastTwo_concat {α : Type} (l : List α) (x y : α) : lastTwo (l ++ [x, y]) = some (x, y) := by
  induction l with
  | nil => rfl
  | cons a rest ih =>
    cases rest with
    | nil => rfl
    | cons b rest =>
      rw [← ih]
      cases rest <;> rfl

theorem exists_of_lastTwo {α : Type} {l : List α} {x y : α} (h : lastTwo l = some (x, y)) : ∃ m, l = m ++ [x, y] := by
  induction l with
  | nil => cases h
  | cons a rest ih =>
    match rest, ih, h with
    | [], _, h => cases h
    | [b], _, h => cases h; exact ⟨[], rfl⟩
    | b :: c :: rest, ih, h =>
      obtain ⟨m, hm⟩ := ih h
      exact ⟨a :: m, by rw [hm]; rfl⟩

/-- R44: the sample that joins and the one that was the newest are the newest two. -/
theorem lastTwo_joinRing {ring : List Sample} {y : Sample} (newest : ring.getLast? = some y) (x : Sample) :
    lastTwo (joinRing ring x) = some (y, x) := by
  obtain ⟨m, rfl⟩ := List.getLast?_eq_some_iff.mp newest
  have short : (m ++ [y]).length + 1 - 16 ≤ m.length := by
    rw [List.length_append, List.length_singleton]
    omega
  rw [joinRing, List.append_assoc, List.drop_append_of_le_length short]
  exact lastTwo_concat _ y x

/-! ### One reading sent -/

theorem countAndOffer_readingQ {c : Ctx} {r : Reading} {p : Placement} {s : State}
    (all : (outputOf s r.head).reading = .all) (up : s.mill.link = .up) (room : s.mill.readingQ.length < 64) :
    (countAndOffer c r p s).mill.readingQ = s.mill.readingQ ++ [{ r with placement := some p }] := by
  cases tube : tubeAt s c with
  | none =>
    rw [countAndOffer, modTube, tube]
    exact congrArg (fun x : State => x.mill.readingQ) (decideReading_sent (r := { r with placement := some p }) all up room)
  | some x => rw [countAndOffer_sent tube all up room]; rfl

/-- A reading resolved sends one frame: `image`, but for its placement. -/
def SendsOne (s u : State) (image : Reading) : Prop :=
  ∃ q, u.mill.readingQ = s.mill.readingQ ++ [q] ∧ q.unplaced = image

/-- R55, R70, R72: a reading of the tube's generation, with a pose on it, is sent with its coordinates. -/
theorem assignLive_sends {c : Ctx} {t : Tube} {r : Reading} {s : State} (p : Pose) (tube : tubeAt s c = some t)
    (generation : t.generation = r.generation) (all : ∀ h : HeadNo, (outputOf s h).reading = .all)
    (up : s.mill.link = .up) (room : s.mill.readingQ.length < 64) : SendsOne s (assignLive c t r p s) (placedOn t p r) := by
  rcases lt_or_ge (shellX t r.head p.travel) 0 with before | within
  · rw [assignLive_beforeStart generation before]
    exact ⟨_, countAndOffer_readingQ (all _) up room, by simp [placedOn, Reading.unplaced, before]⟩
  · have after : ¬shellX t r.head p.travel < 0 := not_lt.mpr within
    by_cases valid : r.outcome = .valid
    · have work := placeValid_mapWork (binOf t (shellX t r.head p.travel)) (sectorOf t r.head p.angle)
        { r with tubeId := some t.id, sector := some (sectorOf t r.head p.angle),
                 bin := some (binOf t (shellX t r.head p.travel)) } tube
      rw [assignLive_valid generation within valid rfl]
      refine ⟨_, (countAndOffer_readingQ ?_ (work.link.trans up) (by rw [work.readingQ]; exact room)).trans
        (by rw [work.readingQ]), by simp [placedOn, Reading.unplaced, after]⟩
      rw [outputOf, work.agent]
      exact all _
    · rw [assignLive_counted generation within valid]
      exact ⟨_, countAndOffer_readingQ (all _) up room, by simp [placedOn, Reading.unplaced, after]⟩

/-- R71: a reading without a pose in a live tube is sent with the tube's id. -/
theorem assignUnposed_sends {c : Ctx} {t : Tube} {r : Reading} {s : State} (p : Placement) (tube : tubeAt s c = some t)
    (span : spanOf s r.timestamp = some (.live c)) (all : ∀ h : HeadNo, (outputOf s h).reading = .all)
    (up : s.mill.link = .up) (room : s.mill.readingQ.length < 64) :
    SendsOne s (assignUnposed r p s) { r.unplaced with tubeId := some t.id } := by
  rw [assignUnposed_live p span tube]
  exact ⟨_, countAndOffer_readingQ (all _) up room, rfl⟩

/-! ### A list of readings sent -/

/-- Every head sends all its readings, the READING class queue has room for those of `l`, they fall in the live tube of `c`,
which stands as `t` did and has their generation, and `ring` and the silence limit are as they were. -/
structure Receives (c : Ctx) (t : Tube) (ring : List Sample) (limit : Nat) (l : List Reading) (s : State) : Prop where
  tube : ∃ x, tubeAt s c = some x ∧ t.Stands x
  generation : ∀ r ∈ l, r.generation = t.generation
  span : ∀ r ∈ l, spanOf s r.timestamp = some (.live c)
  ring : s.pose.ring = ring
  limit : silenceLimit s = limit
  all : ∀ h : HeadNo, (outputOf s h).reading = .all
  up : s.mill.link = .up
  room : s.mill.readingQ.length + l.length ≤ 64

theorem placedOn_stands {x y : Tube} (h : x.Stands y) (p : Pose) (r : Reading) : placedOn y p r = placedOn x p r := by
  have offsets : latchedOffsets y r.head = latchedOffsets x r.head := by rw [latchedOffsets, h.heads, latchedOffsets]
  have shell : shellX y r.head p.travel = shellX x r.head p.travel := by rw [shellX, offsets, h.startTravel, shellX]
  have sector : sectorOf y r.head p.angle = sectorOf x r.head p.angle := by rw [sectorOf, offsets, h.setup, sectorOf]
  have bin (i : Int) : binOf y i = binOf x i := by rw [binOf, h.setup, binOf]
  simp only [placedOn]
  rw [shell, sector, bin, h.id]

section
variable {c : Ctx} {t : Tube} {ring : List Sample} {limit : Nat} {l : List Reading} {r : Reading} {s : State}

theorem Receives.head_room (h : Receives c t ring limit (r :: l) s) : s.mill.readingQ.length < 64 := by
  have := h.room
  rw [List.length_cons] at this
  omega

theorem assignPosed_sends (h : Receives c t ring limit (r :: l) s) (p : Pose) {r' : Reading}
    (generation : r'.generation = r.generation) (time : r'.timestamp = r.timestamp) :
    SendsOne s (assignPosed r' p s) (placedOn t p r') := by
  obtain ⟨x, hx, stands⟩ := h.tube
  have mem : r ∈ r :: l := List.mem_cons_self ..
  rw [assignPosed_live p (time ▸ h.span r mem) hx, ← placedOn_stands stands]
  exact assignLive_sends p hx (stands.generation.trans ((h.generation r mem).symm.trans generation.symm)) h.all h.up h.head_room

/-- R49, R52: interpolated between the newest two samples. -/
theorem interpolateNewest_sends {x y : Sample} (two : lastTwo ring = some (x, y))
    (h : Receives c t ring limit (r :: l) s) : SendsOne s (interpolateNewest r s) (placedOn t (poseAt x y r.timestamp) r) := by
  have two' : lastTwo s.pose.ring = some (x, y) := h.ring ▸ two
  unfold interpolateNewest
  rw [two']
  exact assignPosed_sends h _ rfl rfl

/-- R50: extrapolated from the newest two samples within the silence limit, without a pose beyond it. -/
theorem extrapolate_sends {a b : Sample} (two : lastTwo ring = some (a, b)) {s0 : State} (limits : silenceLimit s0 = limit)
    (h : Receives c t ring limit (r :: l) s) : SendsOne s (extrapolate r s) (extrapolatedOn s0 t a b r) := by
  have two' : lastTwo s.pose.ring = some (a, b) := h.ring ▸ two
  have same : silenceLimit s = s0.agent.timing.positionSilence * 1000 := h.limit.trans limits.symm
  unfold extrapolate extrapolatedOn
  rw [two']
  simp only [same, age]
  split
  · exact assignPosed_sends h (r' := { r with flags := { r.flags with extrapolated := true } }) _ rfl rfl
  · obtain ⟨x, hx, stands⟩ := h.tube
    rw [← stands.id]
    exact assignUnposed_sends _ hx (h.span r (List.mem_cons_self ..)) h.all h.up h.head_room

/-- What is left of the list is received after its first reading has been resolved. -/
theorem Receives.tail (h : Receives c t ring limit (r :: l) s) {u : State} {image : Reading}
    (stands : Standing tubeKinds s u) (same : Downstream evaluationKinds s u) (sent : SendsOne s u image) :
    Receives c t ring limit l u where
  tube := by
    obtain ⟨x, hx, first⟩ := h.tube
    obtain ⟨y, hy, second⟩ := stands.tube hx
    exact ⟨y, hy, first.trans second⟩
  generation x hx := h.generation x (List.mem_cons_of_mem _ hx)
  span x hx := by rw [stands.spanOf]; exact h.span x (List.mem_cons_of_mem _ hx)
  ring := by rw [same.pose, h.ring]
  limit := by rw [silenceLimit, same.agent]; exact h.limit
  all x := by rw [outputOf, same.agent]; exact h.all x
  up := same.link.trans h.up
  room := by
    obtain ⟨q, queue, _⟩ := sent
    have := h.room
    rw [queue, List.length_append, List.length_singleton]
    rw [List.length_cons] at this
    omega

/-- R47, R52, R53: readings resolved one after another send one frame each, in their order. -/
theorem foldl_sends {how : Reading → State → State} {image : Reading → Reading}
    (stands : ∀ r s, Standing tubeKinds s (how r s)) (same : ∀ r s, Downstream evaluationKinds s (how r s))
    (sends : ∀ {r l s}, Receives c t ring limit (r :: l) s → SendsOne s (how r s) (image r))
    (h : Receives c t ring limit l s) :
    ∃ q, (l.foldl (fun x r => how r x) s).mill.readingQ = s.mill.readingQ ++ q ∧ q.map Reading.unplaced = l.map image := by
  induction l generalizing s with
  | nil => exact ⟨[], (List.append_nil _).symm, rfl⟩
  | cons r l ih =>
    obtain ⟨q, first, placed⟩ := sends h
    obtain ⟨rest, queue, images⟩ := ih (h.tail (stands r s) (same r s) ⟨q, first, placed⟩)
    refine ⟨q :: rest, ?_, by rw [List.map_cons, List.map_cons, placed, images]⟩
    rw [List.foldl_cons, queue, first, List.append_assoc]
    rfl

end

theorem resolvePending_sends {c : Ctx} {t : Tube} {ring : List Sample} {limit : Nat} {s : State} {how : Reading → State → State}
    {image : Reading → Reading} (due : Reading → Bool) (stands : ∀ r s, Standing tubeKinds s (how r s))
    (same : ∀ r s, Downstream evaluationKinds s (how r s))
    (sends : ∀ {r l s}, Receives c t ring limit (r :: l) s → SendsOne s (how r s) (image r))
    (h : Receives c t ring limit (s.pose.waiting.filter due) s) :
    ∃ q, (resolvePending due how s).mill.readingQ = s.mill.readingQ ++ q ∧
      q.map Reading.unplaced = (s.pose.waiting.filter due).map image :=
  foldl_sends (s := modPose (fun p => { p with waiting := p.waiting.filter (fun r => !due r) }) s) stands same sends
    { h with }

/-- What the obligations say of the readings of a tube, as `Receives`, in a state where the tube stands. -/
theorem receives_of {c : Ctx} {t : Tube} {l : List Reading} {s v : State} (of : OfTube c t l s)
    (reporting : Reporting l.length s) (stands : Standing [] s v) (agent : v.agent = s.agent)
    (link : v.mill.link = s.mill.link) (readingQ : v.mill.readingQ = s.mill.readingQ) :
    Receives c t v.pose.ring (silenceLimit s) l v where
  tube := stands.tube of.1
  generation r hr := (of.2 r hr).1
  span r hr := by rw [stands.spanOf]; exact (of.2 r hr).2
  ring := rfl
  limit := by rw [silenceLimit, agent, silenceLimit]
  all h := by rw [outputOf, agent]; exact reporting.1 h
  up := link.trans reporting.2.1
  room := by rw [readingQ]; exact reporting.2.2

/-! ### The four points at which readings are resolved -/

theorem losePosition_readingQ (s : State) : (losePosition s).mill.readingQ = s.mill.readingQ := by
  unfold losePosition
  split
  · split
    · rfl
    · refine ((raise_noticeOnly _ _ _).readingQ).trans ?_
      unfold endTube modTube
      split
      · rfl
      · split <;> rfl
  · rfl

/-- R52: an accepted frame. -/
theorem acceptance_sends {s : State} {c : Ctx} {t : Tube} {f : PositionFrame} {y : Sample} (up : s.headPort.link = .up)
    (angle : f.angle.toNat ≤ 4095) (travel : f.travel.toNat ≤ 4000000) (newest : newestSample s = some y)
    (later : laterThan f.timestamp y.timestamp = true) (agrees : s.pose.presence.agrees f.present = true)
    (of : OfTube c t (s.pose.waiting.filter (fun r => notLater r.timestamp f.timestamp)) s)
    (reporting : Reporting (s.pose.waiting.filter (fun r => notLater r.timestamp f.timestamp)).length s) :
    ∃ u q, exec (.positionFrame f) s = .next u ∧
      u.pose.waiting = s.pose.waiting.filter (fun r => laterThan r.timestamp f.timestamp) ∧
      u.mill.readingQ = s.mill.readingQ ++ q ∧
      q.map Reading.unplaced = (s.pose.waiting.filter (fun r => notLater r.timestamp f.timestamp)).map
        (fun r => placedOn t (poseAt y (sampleOf f) r.timestamp) r) := by
  rw [exec_positionFrame_accepted up angle travel fun z hz => by
    obtain rfl : y = z := Option.some.inj (newest.symm.trans hz)
    exact later]
  let v := modPose (fun p => { p with runLength := 0, runFirst := none }) (acceptSample (sampleOf f) (countHeadFrame s))
  have advanced : advancePresence (sampleOf f) (acceptSample (sampleOf f) (countHeadFrame s)) = v :=
    advancePresence_agrees agrees
  have two : lastTwo v.pose.ring = some (y, sampleOf f) := lastTwo_joinRing newest _
  obtain ⟨q, queue, images⟩ := resolvePending_sends (s := v) (how := interpolateNewest)
    (fun r => notLater r.timestamp f.timestamp) interpolateNewest_standing interpolateNewest_downstream
    (fun h => interpolateNewest_sends two h)
    (receives_of of reporting (.of_tubes rfl (by simp)) rfl rfl rfl)
  have pose := resolvePending_pose (fun r => notLater r.timestamp f.timestamp) interpolateNewest_downstream v
  refine ⟨_, q, rfl, ?_, ?_, images⟩
  · rw [(examineDrain_downstream (K := []) _).pose, (examineBoth_downstream _).pose, acceptFrame, advanced,
      (closeRingsByLead_downstream _ _).pose, resolveCovered]
    rw [show (sampleOf f).timestamp = f.timestamp from rfl, pose]
    rfl
  · rw [(examineDrain_wraps _).readingQ, (examineBoth_wraps _).readingQ, acceptFrame, advanced,
      (closeRingsByLead_reports _ _).readingQ, resolveCovered]
    exact queue

/-- R47: position silence. -/
theorem silence_sends {s : State} {c : Ctx} {t : Tube} {a b : Sample} (two : lastTwo s.pose.ring = some (a, b))
    (due : positionSilenceDue s = true) (of : OfTube c t s.pose.waiting s) (reporting : Reporting s.pose.waiting.length s) :
    ∃ u q, exec .positionSilenceExpiry s = .next u ∧ u.pose.waiting = [] ∧ u.mill.readingQ = s.mill.readingQ ++ q ∧
      q.map Reading.unplaced = s.pose.waiting.map (extrapolatedOn s t a b) := by
  rw [exec_positionSilenceExpiry due]
  let v := modPose (fun p => { p with silenceExpiries := satInc cap16 p.silenceExpiries, feed := .silent }) s
  have every : v.pose.waiting.filter (fun _ => true) = s.pose.waiting := List.filter_true ..
  obtain ⟨q, queue, images⟩ := resolvePending_sends (s := v) (how := extrapolate) (fun _ => true) extrapolate_standing
    extrapolate_downstream (fun h => extrapolate_sends two rfl h)
    (receives_of (v := v) (every.symm ▸ of) (every.symm ▸ reporting) (.of_tubes rfl (by simp)) rfl rfl rfl)
  rw [every] at images
  refine ⟨_, q, rfl, ?_, ?_, images⟩
  · rw [(examineBoth_downstream _).pose]
    change (losePosition (silencedFeed s)).pose.waiting = []
    rw [(losePosition_downstream _).pose, silencedFeed_pose]
  · rw [(examineBoth_wraps _).readingQ]
    exact (losePosition_readingQ _).trans queue

/-- R53: the settle limit. -/
theorem settleLimit_sends {s : State} {c : Ctx} {t : Tube} {a b : Sample} {e : TubeEnd}
    (two : lastTwo s.pose.ring = some (a, b)) (due : settleDue s c = true) (ended : t.ended = some e)
    (of : OfTube c t (s.pose.waiting.filter (fun r => notLater r.timestamp e.time)) s)
    (reporting : Reporting (s.pose.waiting.filter (fun r => notLater r.timestamp e.time)).length s) :
    ∃ u q, exec (.settleLimitExpiry c) s = .next u ∧
      u.pose.waiting = s.pose.waiting.filter (fun r => laterThan r.timestamp e.time) ∧
      u.mill.readingQ = s.mill.readingQ ++ q ∧
      q.map Reading.unplaced = (s.pose.waiting.filter (fun r => notLater r.timestamp e.time)).map (extrapolatedOn s t a b) := by
  obtain ⟨x, _, hx, settling, _⟩ := settleDue_stage due
  obtain rfl : t = x := Option.some.inj (of.1.symm.trans hx)
  let v := raise .settleTimeout (.tube t.id) s
  have only : NoticeOnly s v := raise_noticeOnly _ _ s
  have raised : Standing tubeKinds s v := raise_standing (by decide) noticeLost_notMem_tubeKinds _ s
  have pose : v.pose = s.pose := raise_pose ..
  obtain ⟨q, queue, images⟩ := resolvePending_sends (s := v) (how := extrapolate) (fun r => notLater r.timestamp e.time)
    extrapolate_standing extrapolate_downstream (fun h => extrapolate_sends (pose.symm ▸ two) rfl h)
    (receives_of (v := v) (pose.symm ▸ of) (pose.symm ▸ reporting) raised.forget (raise_agent ..) only.link only.readingQ)
  rw [pose] at images
  let w := resolvePending (fun r => notLater r.timestamp e.time) extrapolate v
  obtain ⟨z, hz, stands⟩ := (raised.trans (resolvePending_standing _ extrapolate_standing v)).tube hx
  have expired : expireSettle c s = completeSettling c w := by
    unfold expireSettle
    rw [hx]
    simp only
    rw [ended]
    exact if_pos due
  have outcome : exec (.settleLimitExpiry c) s = .next (examineBoth (completeSettling c w)) := by
    rw [← expired]
    exact if_pos due
  refine ⟨_, q, outcome, ?_, ?_, images⟩
  · rw [(examineBoth_downstream _).pose, (completeSettling_downstream c w).pose,
      resolvePending_pose _ extrapolate_downstream v, pose]
    rfl
  · rw [(examineBoth_wraps _).readingQ, (completeSettling_wraps hz (stands.stage.trans settling)).readingQ]
    exact queue.trans (by rw [only.readingQ])

/-- R48: a reading later than the newest sample joins the pending list on a LIVE feed, and is extrapolated on another. -/
theorem resolveReading_later {s : State} {r : Reading} {oldest a b : Sample} (two : lastTwo s.pose.ring = some (a, b))
    (head : s.pose.ring.head? = some oldest) (notEarlier : laterThan oldest.timestamp r.timestamp = false)
    (later : laterThan r.timestamp b.timestamp = true) :
    resolveReading r s = if s.pose.feed = .live then joinPending r s else extrapolate r s := by
  obtain ⟨m, shape⟩ := exists_of_lastTwo two
  have newest : newestSample s = some b := by rw [newestSample, shape]; simp
  obtain ⟨second, rest, ring⟩ : ∃ y l, s.pose.ring = oldest :: y :: l := by
    rw [shape] at head ⊢
    match m, head with
    | [], head => cases head; exact ⟨_, _, rfl⟩
    | [_], head => cases head; exact ⟨_, _, rfl⟩
    | _ :: _ :: _, head => cases head; exact ⟨_, _, rfl⟩
  have after : notLater r.timestamp b.timestamp = false := by simpa [laterThan] using later
  unfold resolveReading
  rw [ring, newest]
  simp only [notEarlier, after, Bool.false_eq_true, if_false]

/-- What a completion's events and its MIRROR decision leave of the pose, the READING class queue and the map. -/
theorem completion_leaves {s v : State} {ev : Evaluation} (busy : s.evaluator = some ev) (tie : ev.tie = .ordinary)
    (handed : resolveReading (evaluate ev) (s.setEvaluator none) = v) (quiet : Quiet v) :
    ∃ u, exec .evaluationCompletion s = .next u ∧ u.pose = v.pose ∧ u.mill.readingQ = v.mill.readingQ ∧ u.wall = v.wall := by
  refine ⟨_, completion_of_quiet busy (x := v) (by rw [tie]; exact handed) quiet, ?_, ?_, ?_⟩
  · rw [decideMirror_pose, (withFlagEvents_downstream ev v).pose]
  · rw [decideMirror_readingQ, (withFlagEvents_noticeOnly ev v).readingQ]
  · rw [decideMirror_wall, withFlagEvents_wall]

/-- R51: with fewer than 32 waiting, the reading joins the end of the pending list. -/
theorem joinPending_short (r : Reading) {s : State} (short : s.pose.waiting.length < 32) :
    joinPending r s = modPose (fun p => { p with waiting := p.waiting ++ [r] }) s := by
  unfold joinPending
  split
  · exact if_neg (by omega)
  · next empty => simp [modPose, empty]

/-- R51: with 32 waiting, the oldest is extrapolated out first. -/
theorem joinPending_full (r : Reading) {s : State} {x : Reading} {l : List Reading} (full : s.pose.waiting = x :: l)
    (long : l.length = 31) :
    joinPending r s = modPose (fun p => { p with waiting := p.waiting ++ [r] })
      (extrapolate x (modPose (fun p => { p with waiting := l }) s)) := by
  unfold joinPending
  rw [full]
  exact if_pos (by rw [List.length_cons]; omega)

/-- Settles O43: at each of the points where readings leave or join the pending list, the list by the pose it leaves and the
frames by what each reading sends. -/
theorem pendingReadingsAreResolved : Obligations.PendingReadingsAreResolved := by
  intro s c t w
  refine ⟨fun f y up angle travel newest later agrees of reporting =>
    acceptance_sends up angle travel newest later agrees of reporting, fun a b two => ⟨silence_sends two,
    fun e due ended of reporting => settleLimit_sends two due ended of reporting, ?_⟩⟩
  intro ev oldest r busy tie head notEarlier later quiet
  have resolved := resolveReading_later (s := s.setEvaluator none) two head notEarlier later
  refine ⟨fun feed short => ?_, fun x l feed full long of reporting => ?_, fun feed of reporting => ?_⟩
  · exact completion_leaves busy tie ((resolved.trans (if_pos feed)).trans (joinPending_short r short)) quiet
  · let v := modPose (fun p => { p with waiting := l }) (s.setEvaluator none)
    obtain ⟨q, sent, image⟩ := extrapolate_sends (l := []) two (s0 := s) rfl
      (receives_of (v := v) of reporting (.of_tubes rfl (by simp)) rfl rfl rfl)
    have pose : (extrapolate x v).pose = v.pose := (extrapolate_downstream x v).pose
    have still : Quiet (extrapolate x v) := (extrapolate_standing x v).sameStages.quiet quiet
    obtain ⟨u, outcome, left, queue, _⟩ :=
      completion_leaves busy tie ((resolved.trans (if_pos feed)).trans (joinPending_full r full long)) still
    exact ⟨u, q, outcome, left.trans (congrArg (fun p : PoseTracker => { p with waiting := p.waiting ++ [r] }) pose),
      queue.trans sent, image⟩
  · have silent : (s.setEvaluator none).pose.feed ≠ .live := fun live => by cases feed.symm.trans live
    obtain ⟨q, sent, image⟩ := extrapolate_sends (l := []) two (s0 := s) rfl
      (receives_of (v := s.setEvaluator none) of reporting (.of_tubes rfl (by simp)) rfl rfl rfl)
    have pose := (extrapolate_downstream r (s.setEvaluator none)).pose
    have still : Quiet (extrapolate r (s.setEvaluator none)) :=
      (extrapolate_standing r (s.setEvaluator none)).sameStages.quiet quiet
    obtain ⟨u, outcome, left, queue, _⟩ := completion_leaves busy tie (resolved.trans (if_neg silent)) still
    exact ⟨u, q, outcome, left.trans pose, queue.trans sent, image⟩

end Sys2Proof.Machine
end

section
/-! A tube's start (R64 to R66): the pending apply carried out or rejected before it (R132), the older tube truncated (R65), and
what the rest of the step leaves of it. -/

namespace Sys2Proof.Machine

variable {K : List EventKind}

/-! ### One occurrence's record and notice (R167) -/

theorem offerNotice_record {j : EventKind} (hj : j ≠ .noticeLost) (n : Notice) (s : State) :
    tableGet (offerNotice n s).events.records j.index = tableGet s.events.records j.index := by
  obtain ⟨_, h⟩ | ⟨_, h⟩ := offerNotice_cases n s <;> rw [h]
  · rfl
  · rw [countOccurrence_records, tableGet_tableMod_other _ _ (EventKind.index_injective.ne hj)]
    rfl

theorem raise_record_other {j k : EventKind} (other : j ≠ k) (hj : j ≠ .noticeLost) (d : Detail) (s : State) :
    tableGet (raise k d s).events.records j.index = tableGet s.events.records j.index := by
  have counted : tableGet (countOccurrence k d s).events.records j.index = tableGet s.events.records j.index := by
    rw [countOccurrence_records, tableGet_tableMod_other _ _ (EventKind.index_injective.ne other)]
  obtain h | ⟨_, _, _, h⟩ := raise_cases k d s <;> rw [h]
  · exact counted
  · rw [offerNotice_record hj, counted]

/-- R167: an occurrence leaves its kind's flag set. -/
theorem raise_flag (k : EventKind) (d : Detail) (s : State) :
    (tableGet (raise k d s).events.records k.index).flag = true := by
  have counted : (tableGet (countOccurrence k d s).events.records k.index).flag = true := by
    rw [countOccurrence_records, tableGet_tableMod_same]
    rfl
  obtain h | ⟨_, _, hk, h⟩ := raise_cases k d s <;> rw [h]
  · exact counted
  · rw [offerNotice_record hk, counted]

/-- R167: only an occurrence that sets its flag offers a notice, and one at most. -/
theorem raise_noticeQ_length (k : EventKind) (d : Detail) (s : State) : (raise k d s).mill.noticeQ.length ≤
    s.mill.noticeQ.length + if (tableGet s.events.records k.index).flag = true then 0 else 1 := by
  obtain h | ⟨off, _, _, h⟩ := raise_cases k d s <;> rw [h]
  · rw [countOccurrence_mill]
    exact Nat.le_add_right _ _
  · rw [off]
    obtain ⟨_, g⟩ | ⟨_, g⟩ := offerNotice_cases (noticeOf .occurrence k (some d) (countOccurrence k d s))
      (countOccurrence k d s) <;> rw [g]
    · simp
    · rw [countOccurrence_mill]
      simp [countDropped, modMillCounters]

/-- R167: the occurrence that sets the flag of a record that reports queues a notice with its detail, where there is room. -/
theorem raise_notice {k : EventKind} {s : State} (hk : k ≠ .noticeLost) (off : (tableGet s.events.records k.index).flag = false)
    (reports : (tableGet s.events.records k.index).report = true) (room : s.mill.noticeQ.length < 16) (d : Detail) :
    ∃ n ∈ (raise k d s).mill.noticeQ, n.kind = k ∧ n.detail = some d := by
  have raised : raise k d s = offerNotice (noticeOf .occurrence k (some d) (countOccurrence k d s)) (countOccurrence k d s) :=
    if_pos (by rw [off, reports]; simpa using hk)
  rw [raised, offerNotice, if_pos (by rw [countOccurrence_mill]; exact room)]
  exact ⟨_, List.mem_append_right _ (List.mem_singleton_self _), rfl, rfl⟩

/-! ### What comes before the truncation -/

/-- From `s` to `t` the contexts keep their tubes' ids and directories, the wall map, the MAP class queue, the Drain Engine and
the record of DRAIN_TRUNCATED stand, and at most `n` notices have joined their queue's tail. -/
structure Heralds (n : Nat) (s t : State) : Prop where
  tubes : ∀ c, (tubeAt t c).map (fun x => (x.id, x.directory)) = (tubeAt s c).map (fun x => (x.id, x.directory))
  wall : t.wall = s.wall
  mapQ : t.mill.mapQ = s.mill.mapQ
  drain : t.drain = s.drain
  record : tableGet t.events.records EventKind.drainTruncated.index =
    tableGet s.events.records EventKind.drainTruncated.index
  noticeQ : s.mill.noticeQ <+: t.mill.noticeQ
  short : t.mill.noticeQ.length ≤ s.mill.noticeQ.length + n

namespace Heralds

variable {m n : Nat} {s t u : State}

theorem trans (a : Heralds m s t) (b : Heralds n t u) : Heralds (m + n) s u where
  tubes c := (b.tubes c).trans (a.tubes c)
  wall := b.wall.trans a.wall
  mapQ := b.mapQ.trans a.mapQ
  drain := b.drain.trans a.drain
  record := b.record.trans a.record
  noticeQ := a.noticeQ.trans b.noticeQ
  short := Nat.le_trans b.short (by have := a.short; omega)

theorem more (a : Heralds m s t) (le : m ≤ n) : Heralds n s t := { a with short := by have := a.short; omega }

theorem of_reports (h : Reports K s t)
    (record : tableGet t.events.records EventKind.drainTruncated.index =
      tableGet s.events.records EventKind.drainTruncated.index)
    (short : t.mill.noticeQ.length ≤ s.mill.noticeQ.length + n) : Heralds n s t where
  tubes c := by
    cases there : tubeAt s c with
    | none => rw [h.free c there]
    | some x =>
      obtain ⟨y, hy, stands⟩ := h.tube there
      rw [hy, Option.map_some, Option.map_some, stands.id, h.directories there hy]
  wall := h.wall
  mapQ := h.mapQ
  drain := h.drain
  record := record
  noticeQ := h.noticeQ
  short := short

/-- A change of nothing that these facts speak of. -/
theorem of_eq (tubes : t.tubes = s.tubes) (wall : t.wall = s.wall) (mill : t.mill = s.mill) (drain : t.drain = s.drain)
    (events : t.events = s.events) : Heralds 0 s t where
  tubes c := by rw [tubeAt, tubes, tubeAt]
  wall := wall
  mapQ := by rw [mill]
  drain := drain
  record := by rw [events]
  noticeQ := by rw [mill]
  short := (congrArg (fun m : MillPort => m.noticeQ.length) mill).le

theorem refl (s : State) : Heralds n s s := (of_eq rfl rfl rfl rfl rfl).more (Nat.zero_le n)

theorem tube (h : Heralds n s t) {c : Ctx} {x : Tube} (hx : tubeAt s c = some x) :
    ∃ y, tubeAt t c = some y ∧ y.id = x.id ∧ y.directory = x.directory := by
  have same := h.tubes c
  rw [hx] at same
  obtain ⟨y, hy, pair⟩ := Option.map_eq_some_iff.mp same
  exact ⟨y, hy, congrArg Prod.fst pair, congrArg Prod.snd pair⟩

end Heralds

theorem raise_heralds {k : EventKind} (other : .drainTruncated ≠ k) (d : Detail) (s : State) : Heralds 1 s (raise k d s) :=
  .of_reports (raise_reports (K := []) (by simp) (by simp) d s) (raise_record_other other (by decide) d s) <|
    (raise_noticeQ_length k d s).trans (by split <;> omega)

/-! ### The pending apply (R131, R132) -/

/-- R132: whether a pending apply succeeds. -/
def appliesPending (s : State) : Bool :=
  s.agent.applyPending && (validate s.agent.staged).isNone && s.agent.generation != 4294967295

/-- The active bank after the pending apply, `b` before it. -/
def nextBank (s : State) (b : Bank) : Bank := if appliesPending s = true then s.agent.staged else b

/-- The generation after the pending apply. -/
def nextGeneration (s : State) : Nat := if appliesPending s = true then s.agent.generation + 1 else s.agent.generation

theorem applyFailure_of_valid {s : State} (valid : validate s.agent.staged = none) : applyFailure s =
    if s.agent.generation = 4294967295 then some { code := .busy, argument := 255 } else none := by
  rw [applyFailure, valid]
  rfl

theorem applyFailure_of_invalid {s : State} {x : Failure} (invalid : validate s.agent.staged = some x) :
    applyFailure s = some x := by
  rw [applyFailure, invalid]
  rfl

/-- R132: nothing is pending, or the apply is carried out, or it is rejected. -/
theorem pendingApply_cases (s : State) :
    (s.agent.applyPending = false ∧ appliesPending s = false ∧ pendingApply s = s) ∨
    (s.agent.applyPending = true ∧ appliesPending s = true ∧ pendingApply s = carryOutApply s) ∨
    (s.agent.applyPending = true ∧ appliesPending s = false ∧ ∃ x, applyFailure s = some x ∧
      pendingApply s =
        raise .recipeRejected (.failure x.code x.argument) (s.setAgent { s.agent with applyPending := false })) := by
  cases pending : s.agent.applyPending with
  | false => exact .inl ⟨rfl, by simp [appliesPending, pending], by simp [pendingApply, pending]⟩
  | true =>
    refine .inr ?_
    cases valid : validate s.agent.staged with
    | some x =>
      have failure := applyFailure_of_invalid valid
      exact .inr ⟨rfl, by simp [appliesPending, valid], x, failure, by simp [pendingApply, pending, failure]⟩
    | none =>
      have failure := applyFailure_of_valid valid
      by_cases last : s.agent.generation = 4294967295
      · rw [if_pos last] at failure
        exact .inr ⟨rfl, by simp [appliesPending, last], _, failure, by simp [pendingApply, pending, failure]⟩
      · rw [if_neg last] at failure
        exact .inl ⟨rfl, by simp [appliesPending, pending, valid, last], by simp [pendingApply, pending, failure]⟩

/-- R131 step 5: with no run in progress, none is aborted. -/
theorem carryOutApply_idle {s : State} (idle : s.agent.run = none) :
    carryOutApply s = allHeads.foldl (fun x h => reportRebank s h x)
      (allHeads.foldl (fun x h => rebankHead s h x) (copyBank s)) ∧
    (carryOutApply s).agent = (copyBank s).agent := by
  let rebanked := allHeads.foldl (fun x h => rebankHead s h x) (copyBank s)
  let reported := allHeads.foldl (fun x h => reportRebank s h x) rebanked
  have first : rebanked.agent = (copyBank s).agent :=
    List.foldlRecOn (motive := fun x : State => x.agent = (copyBank s).agent) _ _ rfl fun _ same _ _ => same
  have second : reported.agent = (copyBank s).agent := by
    refine List.foldlRecOn (motive := fun x : State => x.agent = (copyBank s).agent) _ _ first fun x same h _ => ?_
    unfold reportRebank
    split
    · exact same
    · rw [compareSnapshot_agent, same]
  have none : abortDisabledRun reported = reported := by
    unfold abortDisabledRun
    rw [second, show (copyBank s).agent.run = .none from idle]
  have whole : carryOutApply s = reported := none
  exact ⟨whole, by rw [whole, second]⟩

/-- The notices queued, and one more while HEAD_CHANGE may still set its flag. -/
def headChangeBudget (s : State) : Nat :=
  s.mill.noticeQ.length + if (tableGet s.events.records EventKind.headChange.index).flag = true then 0 else 1

/-- R167, R172: the first HEAD_CHANGE sets the flag, so the later ones offer no notice. -/
theorem reportRebank_budget (old : State) (h : HeadNo) (s : State) :
    headChangeBudget (reportRebank old h s) ≤ headChangeBudget s := by
  unfold reportRebank
  split
  · exact Nat.le_refl _
  unfold compareSnapshot
  split
  · exact Nat.le_refl _
  · rw [headChangeBudget, raise_flag]
    exact raise_noticeQ_length ..

theorem reportRebank_reports (old : State) (h : HeadNo) (s : State) :
    Reports tubeKinds s (reportRebank old h s) ∧
    tableGet (reportRebank old h s).events.records EventKind.drainTruncated.index =
      tableGet s.events.records EventKind.drainTruncated.index := by
  unfold reportRebank
  split
  · exact ⟨.refl s, rfl⟩
  unfold compareSnapshot
  split
  · exact ⟨.refl s, rfl⟩
  · exact ⟨raise_reports (by decide) noticeLost_notMem_tubeKinds _ s, raise_record_other (by decide) (by decide) _ s⟩

/-- R131, R172: a successful apply, with no run in progress, queues one notice at most. -/
theorem carryOutApply_heralds {s : State} (idle : s.agent.run = none) : Heralds 1 s (carryOutApply s) := by
  rw [(carryOutApply_idle idle).1]
  have rebanked : Heralds 0 s (allHeads.foldl (fun x h => rebankHead s h x) (copyBank s)) :=
    List.foldlRecOn (motive := Heralds 0 s) _ _ (.of_eq rfl rfl rfl rfl rfl) fun x before h _ =>
      before.trans (u := rebankHead s h x) (.of_eq rfl rfl rfl rfl rfl)
  generalize allHeads.foldl (fun x h => rebankHead s h x) (copyBank s) = t at rebanked ⊢
  have reported := List.foldlRecOn
    (motive := fun x => Reports tubeKinds t x ∧
      tableGet x.events.records EventKind.drainTruncated.index = tableGet t.events.records EventKind.drainTruncated.index ∧
      headChangeBudget x ≤ headChangeBudget t)
    allHeads (fun x h => reportRebank s h x) ⟨.refl t, rfl, Nat.le_refl _⟩ fun x before h _ => by
      obtain ⟨reports, record, budget⟩ := before
      obtain ⟨reports', record'⟩ := reportRebank_reports s h x
      exact ⟨reports.trans reports', record'.trans record, (reportRebank_budget s h x).trans budget⟩
  obtain ⟨reports, record, budget⟩ := reported
  refine rebanked.trans (.of_reports (n := 1) reports record ?_)
  unfold headChangeBudget at budget
  split at budget <;> split at budget <;> omega

/-- R132: the pending apply queues one notice at most. -/
theorem pendingApply_heralds {s : State} (idle : s.agent.run = none) : Heralds 1 s (pendingApply s) := by
  obtain ⟨_, _, h⟩ | ⟨_, _, h⟩ | ⟨_, _, x, _, h⟩ := pendingApply_cases s <;> rw [h]
  · exact .refl s
  · exact carryOutApply_heralds idle
  · have cleared : Heralds 0 s (s.setAgent { s.agent with applyPending := false }) := .of_eq rfl rfl rfl rfl rfl
    exact cleared.trans (raise_heralds (by decide) _ _)

/-- R131, R132: the agent after the pending apply. -/
theorem pendingApply_agent {s : State} {b : Bank} (idle : s.agent.run = none) (bank : s.agent.active = some b) :
    (pendingApply s).agent = { s.agent with
      active := some (nextBank s b), generation := nextGeneration s,
      stagedModified := if appliesPending s = true then false else s.agent.stagedModified, applyPending := false } := by
  obtain ⟨off, no, h⟩ | ⟨_, yes, h⟩ | ⟨_, no, x, _, h⟩ := pendingApply_cases s
  · simp only [h, nextBank, nextGeneration, no, ← bank, Bool.false_eq_true, if_false]
    rw [← off]
  · rw [h, (carryOutApply_idle idle).2]
    simp only [nextBank, nextGeneration, yes, if_true]
    rfl
  · rw [h, raise_agent]
    simp only [nextBank, nextGeneration, no, ← bank, Bool.false_eq_true, if_false]
    rfl

/-- R132: RECIPE_REJECTED occurs when an apply is pending and does not succeed. -/
theorem pendingApply_rejected (s : State) : occurrences (pendingApply s) .recipeRejected =
    if s.agent.applyPending = true ∧ appliesPending s = false then min 65535 (occurrences s .recipeRejected + 1)
    else occurrences s .recipeRejected := by
  obtain ⟨off, _, h⟩ | ⟨_, yes, h⟩ | ⟨on, no, x, _, h⟩ := pendingApply_cases s <;> rw [h]
  · rw [if_neg (by rw [off]; simp)]
  · rw [if_neg (by rw [yes]; simp)]
    exact (carryOutApply_standing s).counts _ (by decide)
  · rw [if_pos ⟨on, no⟩, occurrences_raise (by decide), if_pos rfl]
    rfl

/-- R132: the failure that RECIPE_REJECTED names. -/
theorem applyFailure_of {s : State} {code : Status} {argument : Nat}
    (fails : validate s.agent.staged = some { code := code, argument := argument } ∨
      (validate s.agent.staged = none ∧ s.agent.generation = 4294967295 ∧ code = .busy ∧ argument = 255)) :
    applyFailure s = some { code := code, argument := argument } := by
  obtain invalid | ⟨valid, last, rfl, rfl⟩ := fails
  · exact applyFailure_of_invalid invalid
  · rw [applyFailure_of_valid valid, if_pos last]

theorem pendingApply_notice {s : State} {x : Failure} (pending : s.agent.applyPending = true) (fails : applyFailure s = some x)
    (off : (tableGet s.events.records EventKind.recipeRejected.index).flag = false)
    (reports : (tableGet s.events.records EventKind.recipeRejected.index).report = true)
    (room : s.mill.noticeQ.length < 16) :
    ∃ n ∈ (pendingApply s).mill.noticeQ, n.kind = .recipeRejected ∧ n.detail = some (.failure x.code x.argument) := by
  have rejected : pendingApply s =
      raise .recipeRejected (.failure x.code x.argument) (s.setAgent { s.agent with applyPending := false }) := by
    simp [pendingApply, pending, fails]
  rw [rejected]
  exact raise_notice (s := s.setAgent { s.agent with applyPending := false }) (by decide) off reports room _

/-! ### The truncation (R65) -/

theorem offerSummary_heralds (f : SummaryFrame) (s : State) : Heralds 1 s (offerSummary f s) := by
  obtain ⟨_, h⟩ | ⟨_, h⟩ := offerSummary_cases f s <;> rw [h]
  · exact .of_reports (K := []) (.setMill s rfl rfl (List.prefix_refl _)) rfl (Nat.le_succ _)
  · have dropped : Heralds 0 s (countDropped summaryClass s) :=
      .of_reports (countDropped_reports (K := []) _ s) rfl (Nat.le_refl _)
    exact dropped.trans (raise_heralds (by decide) _ _)

theorem markTruncated_heralds (c : Ctx) (s : State) : Heralds 0 s (modTube c Tube.markTruncated s) := by
  cases tube : tubeAt s c with
  | none => rw [modTube, tube]; exact .refl s
  | some x =>
    rw [modTube_some tube]
    refine { tubes := fun d => ?_, wall := rfl, mapQ := rfl, drain := rfl, record := rfl, noticeQ := List.prefix_refl _,
             short := Nat.le_refl _ }
    obtain rfl | rfl := Ctx.eq_or_other c d
    · rw [tubeAt_putTube_same, tube]
      unfold Tube.markTruncated
      cases x.ended <;> rfl
    · rw [tubeAt_putTube_other]

/-- R65 step 2: the summary of a SETTLING tube queues one notice at most. -/
theorem truncateSummary_heralds (c : Ctx) (s : State) : Heralds 1 s (truncateSummary c s) := by
  unfold truncateSummary
  split
  · have marked := markTruncated_heralds c s
    unfold offerTube
    split
    · exact marked.more (Nat.zero_le 1)
    split
    · exact marked.more (Nat.zero_le 1)
    · exact marked.trans (offerSummary_heralds _ _)
  · exact .refl s

theorem truncateSummary_rejected (c : Ctx) (s : State) :
    occurrences (truncateSummary c s) .recipeRejected = occurrences s .recipeRejected := by
  unfold truncateSummary
  split
  · rw [(offerTube_reports c _).counts _ (by decide)]
    exact congrArg (fun x : EventUnit => (tableGet x.records EventKind.recipeRejected.index).count) (modTube_events c _ s)
  · rfl

/-- R65: the older tube's context, its pages given back. -/
def pagesFreed (c : Ctx) (o : Tube) (s : State) : State :=
  putTube c none ((stopDrain c (truncateSummary c s)).setWall
    { (stopDrain c (truncateSummary c s)).wall with
      free := (stopDrain c (truncateSummary c s)).wall.free ++ dirPages o.directory })

theorem truncate_free {c : Ctx} {s : State} (free : tubeAt s c = none) : truncate c s = s := by
  rw [truncate, free]

theorem truncate_some {c : Ctx} {o : Tube} {s : State} (tube : tubeAt s c = some o) :
    truncate c s = raise .drainTruncated (.tubeContext o.id c) (pagesFreed c o s) := by
  rw [truncate, tube]
  rfl

theorem stopDrain_rest (c : Ctx) (s : State) : (stopDrain c s).wall = s.wall ∧ (stopDrain c s).mill = s.mill ∧
    (stopDrain c s).events = s.events ∧ ∀ g, (stopDrain c s).drain = some g → g.ctx ≠ c := by
  unfold stopDrain
  split
  next idle => exact ⟨rfl, rfl, rfl, fun g hg => nomatch idle.symm.trans hg⟩
  next d busy =>
    split
    · exact ⟨rfl, rfl, rfl, fun g hg => nomatch hg⟩
    next other => exact ⟨rfl, rfl, rfl, fun g hg => Option.some.inj (busy.symm.trans hg) ▸ other⟩

/-- R65: what is left once the tube `o` of context `c` has been truncated. -/
structure Truncated (c : Ctx) (o : Tube) (s t : State) : Prop where
  free : t.wall.free = s.wall.free ++ dirPages o.directory
  mapQ : t.mill.mapQ = s.mill.mapQ
  away : ∀ g, t.drain = some g → g.ctx ≠ c
  counts : occurrences t .drainTruncated = min 65535 (occurrences s .drainTruncated + 1)
  rejected : occurrences t .recipeRejected = occurrences s .recipeRejected
  noticeQ : s.mill.noticeQ <+: t.mill.noticeQ
  notice : (tableGet s.events.records EventKind.drainTruncated.index).flag = false →
    (tableGet s.events.records EventKind.drainTruncated.index).report = true → s.mill.noticeQ.length < 15 →
    ∃ n ∈ t.mill.noticeQ, n.kind = .drainTruncated ∧ n.detail = some (.tubeContext o.id c)

theorem truncate_truncated {c : Ctx} {o : Tube} {s : State} (tube : tubeAt s c = some o) : Truncated c o s (truncate c s) := by
  rw [truncate_some tube]
  have offered := truncateSummary_heralds c s
  obtain ⟨wall, mill, events, away⟩ := stopDrain_rest c (truncateSummary c s)
  have freed : (pagesFreed c o s).mill = (truncateSummary c s).mill := mill
  have events' : (pagesFreed c o s).events = (truncateSummary c s).events := events
  have record : tableGet (pagesFreed c o s).events.records EventKind.drainTruncated.index =
      tableGet s.events.records EventKind.drainTruncated.index := by rw [events', offered.record]
  have only := raise_noticeOnly .drainTruncated (.tubeContext o.id c) (pagesFreed c o s)
  refine { free := ?_, mapQ := ?_, away := ?_, counts := ?_, rejected := ?_, noticeQ := ?_, notice := fun off reports room => ?_ }
  · rw [raise_wall, ← offered.wall, ← wall]
    rfl
  · exact (raise_reports (K := []) (by simp) (by simp) _ _).mapQ.trans ((congrArg MillPort.mapQ freed).trans offered.mapQ)
  · rw [raise_drain]
    exact away
  · rw [occurrences_raise (by decide), if_pos rfl, occurrences, record]
    rfl
  · rw [occurrences_raise (by decide), if_neg (by decide), occurrences, events']
    exact truncateSummary_rejected c s
  · refine offered.noticeQ.trans ?_
    rw [← freed]
    exact raise_noticeQ ..
  · refine raise_notice (by decide) (record ▸ off) (record ▸ reports) ?_ _
    have := offered.short
    rw [freed]
    omega

/-! ### The fresh tube and the rest of its step -/

/-- R64 to R66, R132: what a tube start leaves, with the bank `b` active before it, from the state `s` on. -/
structure TubeStarted (s : State) (time : Time) (travel : Nat) (b : Bank) (u : State) : Prop where
  tube : ∃ w x, tubeAt u (chooseCtx s) = some x ∧ x.directory = [] ∧
    (freshTube (s.tubes.idCounter + 1) time travel (nextGeneration s) (nextBank s b) w).Stands x
  idCounter : u.tubes.idCounter = s.tubes.idCounter + 1
  newest : u.tubes.newest = some (chooseCtx s)
  retired : u.tubes.retired (chooseCtx s) = none
  agent : u.agent = { s.agent with
    active := some (nextBank s b), generation := nextGeneration s,
    stagedModified := if appliesPending s = true then false else s.agent.stagedModified, applyPending := false }
  rejected : occurrences u .recipeRejected =
    if s.agent.applyPending = true ∧ appliesPending s = false then min 65535 (occurrences s .recipeRejected + 1)
    else occurrences s .recipeRejected
  failure : ∀ code argument, s.agent.applyPending = true →
    validate s.agent.staged = some { code := code, argument := argument } ∨
      (validate s.agent.staged = none ∧ s.agent.generation = 4294967295 ∧ code = .busy ∧ argument = 255) →
    (tableGet s.events.records EventKind.recipeRejected.index).flag = false →
    (tableGet s.events.records EventKind.recipeRejected.index).report = true → s.mill.noticeQ.length < 16 →
    ∃ n ∈ u.mill.noticeQ, n.kind = .recipeRejected ∧ n.detail = some (.failure code argument)
  away : ∀ g, u.drain = some g → g.ctx ≠ chooseCtx s
  untouched : tubeAt s (chooseCtx s) = none → occurrences u .drainTruncated = occurrences s .drainTruncated
  sent : ∀ o, tubeAt s (chooseCtx s) = some o → ∃ pages frames,
    u.wall.free = s.wall.free ++ dirPages o.directory ++ pages ∧ u.mill.mapQ = s.mill.mapQ ++ frames ∧
    (4 ≤ s.mill.mapQ.length → pages = [] ∧ frames = [])
  counts : ∀ o, tubeAt s (chooseCtx s) = some o →
    occurrences u .drainTruncated = min 65535 (occurrences s .drainTruncated + 1)
  notice : ∀ o, tubeAt s (chooseCtx s) = some o →
    (tableGet s.events.records EventKind.drainTruncated.index).flag = false →
    (tableGet s.events.records EventKind.drainTruncated.index).report = true → s.mill.noticeQ.length < 12 →
    ∃ n ∈ u.mill.noticeQ, n.kind = .drainTruncated ∧ n.detail = some (.tubeContext o.id (chooseCtx s))

/-- R95: the engine holds a DRAINING context only. -/
theorem drain_away_of_free {s : State} {c : Ctx} (ok : drainOk s = true) (free : tubeAt s c = none) (g : Drain)
    (drain : s.drain = some g) : g.ctx ≠ c := by
  rintro rfl
  exact Bool.false_ne_true ((stageIs_of_free free .draining).symm.trans (drainOk_ctx ok drain))

theorem startTube_eq {s : State} {b : Bank} (idle : s.agent.run = none) (bank : s.agent.active = some b) (time : Time)
    (travel : Nat) : startTube time travel s =
      takeTube (chooseCtx s) (nextBank s b) time travel (truncate (chooseCtx s) (pendingApply s)) := by
  simp only [startTube]
  rw [pendingApply_agent idle bank, (pendingApply_standing s).chooseCtx]

theorem startTube_pose (time : Time) (travel : Nat) (s : State) : (startTube time travel s).pose = s.pose := by
  obtain h | h := startTube_starts time travel s
  · rw [h, pendingApply_pose]
  · exact h.pose

/-- R64: the start itself. -/
theorem startTube_started {s : State} {b : Bank} (idle : s.agent.run = none) (bank : s.agent.active = some b)
    (ok : drainOk s = true) (time : Time) (travel : Nat) : TubeStarted s time travel b (startTube time travel s) := by
  rw [startTube_eq idle bank]
  have applied := pendingApply_heralds idle
  have stood := pendingApply_standing s
  have ids := truncate_ids (chooseCtx s) (pendingApply s)
  have agent : (truncate (chooseCtx s) (pendingApply s)).agent = (pendingApply s).agent := (truncate_downstream _ _).agent
  have counter := ids.1.trans stood.idCounter
  have count : occurrences (pendingApply s) .drainTruncated = occurrences s .drainTruncated :=
    congrArg EventRecord.count applied.record
  have alone (free : tubeAt s (chooseCtx s) = none) : truncate (chooseCtx s) (pendingApply s) = pendingApply s :=
    truncate_free (stood.free _ free)
  have truncated {o : Tube} (tube : tubeAt s (chooseCtx s) = some o) : ∃ x, x.id = o.id ∧ x.directory = o.directory ∧
      Truncated (chooseCtx s) x (pendingApply s) (truncate (chooseCtx s) (pendingApply s)) := by
    obtain ⟨x, hx, id, directory⟩ := applied.tube tube
    exact ⟨x, id, directory, truncate_truncated hx⟩
  have later : (pendingApply s).mill.noticeQ <+: (truncate (chooseCtx s) (pendingApply s)).mill.noticeQ ∧
      occurrences (truncate (chooseCtx s) (pendingApply s)) .recipeRejected = occurrences (pendingApply s) .recipeRejected ∧
      ∀ g, (truncate (chooseCtx s) (pendingApply s)).drain = some g → g.ctx ≠ chooseCtx s := by
    cases tube : tubeAt s (chooseCtx s) with
    | none =>
      rw [alone tube]
      exact ⟨List.prefix_refl _, rfl, fun g hg => drain_away_of_free ok tube g (applied.drain.symm.trans hg)⟩
    | some o =>
      obtain ⟨_, _, _, gone⟩ := truncated tube
      exact ⟨gone.noticeQ, gone.rejected, gone.away⟩
  obtain ⟨prefixed, rejected, away⟩ := later
  refine { tube := ?_, idCounter := ?_, newest := ?_, retired := ?_, agent := ?_, rejected := ?_, failure := ?_, away := away,
           untouched := fun free => ?_, sent := fun o tube => ?_, counts := fun o tube => ?_,
           notice := fun o tube off reports room => ?_ }
  · rw [takeTube_same, counter, agent, pendingApply_agent idle bank]
    exact ⟨_, _, rfl, rfl, .refl _⟩
  · rw [← counter]
    cases chooseCtx s <;> rfl
  · cases chooseCtx s <;> rfl
  · cases chooseCtx s <;> rfl
  · rw [(takeTube_downstream (K := []) _ _ time travel _).agent, agent, pendingApply_agent idle bank]
  · exact rejected.trans (pendingApply_rejected s)
  · intro code argument pending fails off reports room
    obtain ⟨n, mem, named⟩ := pendingApply_notice pending (applyFailure_of fails) off reports room
    exact ⟨n, prefixed.subset mem, named⟩
  · change occurrences (truncate (chooseCtx s) (pendingApply s)) .drainTruncated = _
    rw [alone free, count]
  · obtain ⟨x, -, directory, gone⟩ := truncated tube
    refine ⟨[], [], ?_, ?_, fun _ => ⟨rfl, rfl⟩⟩
    · rw [List.append_nil, ← applied.wall, ← directory]
      exact gone.free
    · rw [List.append_nil]
      exact gone.mapQ.trans applied.mapQ
  · obtain ⟨x, -, -, gone⟩ := truncated tube
    rw [← count]
    exact gone.counts
  · obtain ⟨x, id, -, gone⟩ := truncated tube
    rw [← id]
    exact gone.notice (applied.record ▸ off) (applied.record ▸ reports) (by have := applied.short; omega)

/-- The rest of the step: the fresh tube stands, ACTIVE, while rings close and the other context settles and drains. -/
theorem TubeStarted.ends {s v : State} {time : Time} {travel : Nat} {b : Bank} (h : TubeStarted s time travel b v)
    (f : Sample) : TubeStarted s time travel b (examineDrain (examineBoth (closeRingsByLead f v))) := by
  have closed := closeRingsByLead_reports f v
  obtain ⟨w, x, tube, directory, fresh⟩ := h.tube
  have live : Live (chooseCtx s) v := ⟨⟨x, tube, .inl fresh.stage⟩, h.away⟩
  obtain ⟨y, tube', stands⟩ := closed.tube tube
  have live' := (closed.spares (chooseCtx s)).live live
  have settled := examineBoth_spares live' (settledOk_of_active tube' (stands.stage.trans fresh.stage))
  have spares := (closed.spares (chooseCtx s)).trans (settled.trans (examineDrain_spares (settled.live live')))
  have wraps := closed.wraps.trans ((examineBoth_wraps _).trans (examineDrain_wraps _))
  have same := (closeRingsByLead_downstream f v).forget.trans
    ((examineBoth_downstream _).forget.trans (examineDrain_downstream (K := []) _))
  generalize examineDrain (examineBoth (closeRingsByLead f v)) = u at *
  have still {n : Notice} (mem : n ∈ v.mill.noticeQ) : n ∈ u.mill.noticeQ := wraps.noticeQ.subset mem
  refine { tube := ?_, idCounter := wraps.idCounter.trans h.idCounter, newest := wraps.newest.trans h.newest,
           retired := spares.retired.trans h.retired, agent := same.agent.trans h.agent,
           rejected := (wraps.counts _ (by decide)).trans h.rejected, failure := ?_, away := spares.drain h.away,
           untouched := fun free => (wraps.counts _ (by decide)).trans (h.untouched free), sent := fun o older => ?_,
           counts := fun o older => (wraps.counts _ (by decide)).trans (h.counts o older),
           notice := fun o older off reports room => ?_ }
  · obtain ⟨z, hz, after, kept⟩ := spares.tube tube
    exact ⟨w, z, hz, kept.trans directory, fresh.trans after⟩
  · intro code argument pending fails off reports room
    obtain ⟨n, mem, named⟩ := h.failure code argument pending fails off reports room
    exact ⟨n, still mem, named⟩
  · obtain ⟨p, q, free, maps, full⟩ := h.sent o older
    obtain ⟨p', q', free', maps', full'⟩ := wraps.sent
    refine ⟨p ++ p', q ++ q', by rw [free', free, List.append_assoc], by rw [maps', maps, List.append_assoc], fun le => ?_⟩
    obtain ⟨rfl, rfl⟩ := full le
    obtain ⟨rfl, rfl⟩ := full' (by rwa [maps, List.append_nil])
    exact ⟨rfl, rfl⟩
  · obtain ⟨n, mem, named⟩ := h.notice o older off reports room
    exact ⟨n, still mem, named⟩

/-- R57, R58: an accepted frame that completes the run of present frames in MEASURE, up to the tube's start. -/
theorem advancePresence_starts {f : Sample} {s : State} {rf : RunFirst} (absent : s.pose.presence = .absent)
    (first : (s.pose.advanceRun f).runFirst = some rf) (counts : 1 ≤ (s.pose.advanceRun f).runLength)
    (reached : presenceCount s ≤ (s.pose.advanceRun f).runLength) (measure : s.agent.mode = .measure) :
    advancePresence f s = startTube rf.timestamp rf.travel (flipPresence (modPose (fun p => p.advanceRun f) s)) := by
  rw [advancePresence_reached counts reached,
    changePresence_absent first ((advanceRun_presence _ _).trans absent)]
  exact if_pos measure

/-- R64 step 2: the context a tube start takes. -/
theorem chooseCtx_rules (s : State) :
    (s.tubes.a = none → chooseCtx s = .a) ∧ (s.tubes.a ≠ none → s.tubes.b = none → chooseCtx s = .b) ∧
    ∀ n, s.tubes.a ≠ none → s.tubes.b ≠ none → s.tubes.newest = some n → chooseCtx s = otherCtx n := by
  unfold chooseCtx
  cases s.tubes.a <;> cases s.tubes.b <;> simp
  intro n newest
  rw [newest]

/-- Settles O36: the frame up to the tube's start, the start after its pending apply and its truncation, and the rest of the
step, which spares the fresh tube. -/
theorem presenceRunStartsATube : Obligations.PresenceRunStartsATube := by
  intro f s b rf run c applied bank generation up angle travel later absent here first counts reached empty measure idle
    active pages tubes
  obtain ⟨-, -, -, ok⟩ := pages
  rw [exec_positionFrame_accepted up angle travel later]
  let joined := acceptSample (sampleOf f) (countHeadFrame s)
  obtain ⟨first', length⟩ := acceptSample_run (sampleOf f) (sampleOf f) (countHeadFrame s)
  let turned := flipPresence (modPose (fun p => p.advanceRun (sampleOf f)) joined)
  have advanced : advancePresence (sampleOf f) joined = startTube rf.timestamp rf.travel turned :=
    advancePresence_starts absent (first'.trans first) (length ▸ counts)
      (by rw [length, presenceCount_of_bank (s := joined) active]; exact reached) measure
  let started := startTube rf.timestamp rf.travel turned
  have begun : TubeStarted s rf.timestamp rf.travel b started :=
    { startTube_started (s := turned) idle active ok rf.timestamp rf.travel with }
  have pose : started.pose = turned.pose := startTube_pose ..
  have accepted : acceptFrame (sampleOf f) (countHeadFrame s) = closeRingsByLead (sampleOf f) started := by
    have waiting : started.pose.waiting = [] := by rw [pose]; exact ((advanceRun_lists _ _).2).trans empty
    rw [acceptFrame, advanced, resolveCovered, resolvePending_nil waiting]
  rw [accepted]
  have ended := begun.ends (sampleOf f)
  have pose' : (examineDrain (examineBoth (closeRingsByLead (sampleOf f) started))).pose = turned.pose := by
    rw [(examineDrain_downstream (K := []) _).pose, (examineBoth_downstream _).pose, (closeRingsByLead_downstream _ _).pose, pose]
  obtain ⟨w, x, tube, directory, fresh⟩ := ended.tube
  refine ⟨_, x, rfl, tube, fresh.stage, fresh.id, fresh.startTime, fresh.startTravel, fresh.ended, fresh.generation,
    fresh.setup, fresh.heads, directory, ended.idCounter, ended.newest, ended.retired, ?_, ?_, ended.agent, ended.rejected,
    ended.failure, ended.untouched,
    fun o older => ⟨ended.sent o older, fun g hg => ?_, ended.counts o older, ended.notice o older⟩,
    chooseCtx_rules s⟩
  · rw [pose']
    exact congrArg Presence.flip ((advanceRun_presence joined.pose _).trans absent)
  · rw [pose']
    rfl
  · exact (Ctx.eq_or_other c g.ctx).resolve_left (ended.away g hg)

end Sys2Proof.Machine
end

section
/-! The laws of the invariants at power-on reset: the base case of what every step keeps. -/

namespace Sys2Proof.Machine

theorem EventRecord.reset_lawful (severity : Severity) : (EventRecord.reset severity).lawful = true := by
  simp [EventRecord.lawful, EventRecord.reset]

/-- R166: the event records. -/
theorem reset_eventLaw : EventLaw State.reset := fun i => by rw [State.reset_record, EventRecord.reset_lawful]

/-- R83: every page on the free list, no directory, the engine IDLE. -/
theorem reset_pageLaw : PageLaw State.reset :=
  ⟨by rw [State.reset_free]; exact .of_eq (List.append_nil _), rfl, rfl, rfl⟩

/-- R57, R61: both contexts FREE, the presence run empty. -/
theorem reset_tubeLaw : TubeLaw State.reset :=
  ⟨rfl, rfl, rfl, rfl, fun both => Bool.false_ne_true both.1, fun _ => rfl, by decide, by decide⟩

/-- R124, R162: STANDBY with an EMPTY bank and no run. -/
theorem reset_modeLaw : ModeLaw State.reset :=
  ⟨fun measure => Mode.noConfusion measure, fun _ => rfl, fun run => absurd run Bool.false_ne_true, by decide, Nat.zero_le _⟩

/-- R139: an EMPTY bank enables no head, and every record is DISABLED. -/
theorem reset_headLaw : HeadLaw State.reset := fun h => by
  have record : tableGet State.reset.headPort.heads h = HeadRecord.reset := tableGet_replicate _ h
  rw [record]
  rfl

/-- R133 to R135: the tables that take effect at once. -/
theorem reset_rangeLaw : RangeLaw State.reset := by
  refine ⟨rfl, fun h => ?_, fun h => ?_⟩
  · obtain ⟨counters, entry, -, -⟩ := State.reset_ofHead h
    rw [counters, entry]
    rfl
  · obtain ⟨-, -, factor, -⟩ := State.reset_ofHead h
    rw [factor]
    decide

/-- Settles O12: law by law, the tables by their one repeated entry. -/
theorem everyLawHoldsAtReset : Obligations.EveryLawHoldsAtReset :=
  ⟨reset_eventLaw, by decide, ⟨fun _ => rfl, fun _ => rfl⟩, reset_pageLaw, reset_tubeLaw, ⟨rfl, rfl⟩, rfl, reset_modeLaw,
    reset_headLaw, reset_rangeLaw, ⟨rfl, rfl⟩, poolWf_reset⟩

end Sys2Proof.Machine
end

section
/-! The Drain Engine's work within a step (R78, R95 to R99): each frame by its equation, the run of them by induction on the room
in the MAP class queue, and what more rounds than the room allows would do: nothing. -/

namespace Sys2Proof.Machine

/-! ### Contexts replaced -/

@[simp] theorem TubeTracker.put_put (t : TubeTracker) (c : Ctx) (x y : Option Tube) : (t.put c x).put c y = t.put c y := by
  cases c <;> rfl

@[simp] theorem TubeTracker.put_get (t : TubeTracker) (c : Ctx) : t.put c (t.get c) = t := by cases c <;> rfl

theorem TubeTracker.put_same {t : TubeTracker} {c : Ctx} {x : Option Tube} (h : t.get c = x) : t.put c x = t := by
  rw [← h, put_get]

theorem stageIs_putTube_other (c : Ctx) (x : Option Tube) (g : Stage) (s : State) :
    stageIs (putTube c x s) (otherCtx c) g = stageIs s (otherCtx c) g := by
  simp [stageIs]

/-! ### The engine takes a context (R78) -/

theorem takeContext_busy {s : State} {d : Drain} (busy : s.drain = some d) : takeContext s = s := by
  unfold takeContext
  rw [busy]

theorem takeContext_none {s : State} (waits : ∀ c, stageIs s c .closedWait = false) : takeContext s = s := by
  have none : oldestWaiting s = none := by simp [oldestWaiting, List.find?_eq_none, waits]
  unfold takeContext
  rw [none]
  cases s.drain <;> rfl

theorem takeContext_mill (s : State) : (takeContext s).mill = s.mill := by
  unfold takeContext
  split
  · exact modTube_mill ..
  · rfl

/-- The two contexts come in one order or the other. -/
theorem olderFirst_cases (s : State) (c : Ctx) :
    olderFirst s = [c, otherCtx c] ∨ olderFirst s = [otherCtx c, c] := by
  unfold olderFirst
  rcases s.tubes.newest with _ | _ | _ <;> cases c <;> simp [otherCtx]

/-- R78: the older of the CLOSED_WAIT contexts. -/
theorem oldestWaiting_eq {s : State} {c : Ctx} (waits : stageIs s c .closedWait = true)
    (older : stageIs s (otherCtx c) .closedWait = true → s.tubes.newest = some (otherCtx c)) : oldestWaiting s = some c := by
  unfold oldestWaiting
  cases other : stageIs s (otherCtx c) .closedWait with
  | true => simp [olderFirst, older other, waits]
  | false =>
    obtain order | order := olderFirst_cases s c <;> simp [order, other, waits]

/-- R78, R95: `c`, CLOSED_WAIT, becomes DRAINING. -/
def takenUp (c : Ctx) (t : Tube) (s : State) : State :=
  (putTube c (some { t with stage := .draining }) s).setDrain (some { ctx := c, cursor := 0, sent := 0, waiting := false })

theorem takeContext_older {s : State} {c : Ctx} {t : Tube} (idle : s.drain = none) (tube : tubeAt s c = some t)
    (waits : t.stage = .closedWait)
    (older : stageIs s (otherCtx c) .closedWait = true → s.tubes.newest = some (otherCtx c)) :
    takeContext s = takenUp c t s := by
  have here : stageIs s c .closedWait = true := by rw [stageIs_of_tubeAt tube, waits]; rfl
  unfold takeContext
  rw [idle, oldestWaiting_eq here older]
  simp only
  rw [modTube_some tube]
  rfl

/-! ### One frame (R96, R97, R99) -/

section
variable {s : State} {d : Drain} {t : Tube}

theorem mapRoom_iff (s : State) : mapRoom s = true ↔ s.mill.mapQ.length < 4 := decide_eq_true_iff

theorem drainOne_full (busy : s.drain = some d) (full : ¬s.mill.mapQ.length < 4) :
    drainOne s = s.setDrain (some { d with waiting := true }) := by
  have off : ¬mapRoom s = true := mt (mapRoom_iff s).mp full
  simp [drainOne, busy, off]

theorem drainOne_free (busy : s.drain = some d) (free : tubeAt s d.ctx = none) (room : s.mill.mapQ.length < 4) :
    drainOne s = s := by
  simp [drainOne, busy, free, (mapRoom_iff s).mpr room]

theorem drainOne_page (busy : s.drain = some d) (tube : tubeAt s d.ctx = some t) (room : s.mill.mapQ.length < 4) {n : Nat}
    {e : DirEntry} (lowest : dirLowest t.directory d.cursor = some (n, e)) : drainOne s = queueMapFrame d t n e s := by
  simp [drainOne, busy, tube, (mapRoom_iff s).mpr room, lowest]

theorem drainOne_end (busy : s.drain = some d) (tube : tubeAt s d.ctx = some t) (room : s.mill.mapQ.length < 4)
    (last : dirLowest t.directory d.cursor = none) : drainOne s = queueMapEnd d t s := by
  simp [drainOne, busy, tube, (mapRoom_iff s).mpr room, last]

theorem dirLowest_cons {n cursor : Nat} (e : DirEntry) (l : List (Nat × DirEntry)) (above : cursor ≤ n) :
    dirLowest ((n, e) :: l) cursor = some (n, e) ∧ dirRemoveLowest ((n, e) :: l) cursor = l := by
  simp [dirLowest, dirRemoveLowest, above]

/-- R97: the frame of the lowest present segment, written out. -/
theorem queueMapFrame_eq {n : Nat} {e : DirEntry} {l : List (Nat × DirEntry)} (lowest : t.directory = (n, e) :: l)
    (above : d.cursor ≤ n) :
    queueMapFrame d t n e s =
      (putTube d.ctx (some { t with directory := l })
        ((s.setMill { s.mill with mapQ := s.mill.mapQ ++ pageFrames s t [(n, e)] }).setWall
          { s.wall with free := s.wall.free ++ [e.page] })).setDrain
        (some { d with cursor := n + 1, sent := d.sent + 1, waiting := false }) := by
  unfold queueMapFrame
  rw [lowest, (dirLowest_cons e l above).2]
  rfl

/-- R78: a MAP_END leaves no CLOSED_WAIT context where the other is none. -/
theorem stageIs_queueMapEnd (alone : stageIs s (otherCtx d.ctx) .closedWait = false) (c : Ctx) :
    stageIs (queueMapEnd d t s) c .closedWait = false := by
  obtain rfl | rfl := Ctx.eq_or_other d.ctx c
  · refine stageIs_of_free ?_ _
    unfold queueMapEnd
    cases d.ctx <;> rfl
  · rw [← alone]
    unfold queueMapEnd
    cases d.ctx <;> rfl

end

/-! ### More rounds than the room allows -/

/-- Each round of the drain sends a frame or reaches a state that further rounds keep. -/
theorem drainRound_cases {s : State} {d : Drain} (busy : s.drain = some d) :
    (takeContext (drainOne s)).mill.mapQ.length = s.mill.mapQ.length + 1 ∧ s.mill.mapQ.length < 4 ∨
    takeContext (drainOne (takeContext (drainOne s))) = takeContext (drainOne s) := by
  by_cases room : s.mill.mapQ.length < 4
  · cases tube : tubeAt s d.ctx with
    | none => exact .inr (by rw [drainOne_free busy tube room, takeContext_busy busy, drainOne_free busy tube room,
        takeContext_busy busy])
    | some t =>
      refine .inl ⟨?_, room⟩
      rw [takeContext_mill]
      cases lowest : dirLowest t.directory d.cursor with
      | none => rw [drainOne_end busy tube room lowest]; exact List.length_append
      | some x => rw [drainOne_page busy tube room lowest]; exact List.length_append
  · have waits : takeContext (drainOne s) = s.setDrain (some { d with waiting := true }) := by
      rw [drainOne_full busy room]; exact takeContext_busy rfl
    refine .inr ?_
    rw [waits, drainOne_full (s := s.setDrain _) rfl room]
    exact takeContext_busy rfl

theorem drainOn_fixed {s : State} (fixed : takeContext (drainOne s) = s) (n : Nat) : drainOn n s = s := by
  induction n with
  | zero => rfl
  | succ n ih => unfold drainOn; rw [fixed, ih, ite_self]

theorem drainOn_idle {s : State} (idle : s.drain = none) (n : Nat) : drainOn n s = s := by
  cases n <;> simp [drainOn, idle]

theorem drainOn_busy {s : State} {d : Drain} (busy : s.drain = some d) (n : Nat) :
    drainOn (n + 1) s = drainOn n (takeContext (drainOne s)) := by
  simp [drainOn, busy]

/-- R96: with more rounds than frames have room, how many does not matter. -/
theorem drainOn_enough {s : State} {m n : Nat} (hm : 4 - s.mill.mapQ.length < m) (hn : 4 - s.mill.mapQ.length < n) :
    drainOn m s = drainOn n s := by
  induction m generalizing s n with
  | zero => omega
  | succ m ih =>
    obtain ⟨n, rfl⟩ : ∃ k, n = k + 1 := ⟨n - 1, by omega⟩
    cases busy : s.drain with
    | none => rw [drainOn_idle busy, drainOn_idle busy]
    | some d =>
      rw [drainOn_busy busy, drainOn_busy busy]
      obtain ⟨longer, room⟩ | fixed := drainRound_cases busy
      · exact ih (by omega) (by omega)
      · rw [drainOn_fixed fixed, drainOn_fixed fixed]

/-! ### The drain as far as the room allows (`DrainsOn`) -/

section
variable {s u : State} {d : Drain} {t : Tube}

/-- R96: a full MAP class queue makes the engine WAITING. -/
theorem drainsOn_full (tube : tubeAt s d.ctx = some t) (full : ¬s.mill.mapQ.length < 4) :
    DrainsOn d t s (s.setDrain (some { d with waiting := true })) := by
  have room : 4 - s.mill.mapQ.length = 0 := by omega
  unfold DrainsOn
  simp only [room, List.take_zero, List.drop_zero, pageFrames, List.map_nil, List.append_nil, Nat.add_zero]
  refine ⟨fun _ => ?_, fun none => absurd none (Nat.not_lt_zero _)⟩
  rw [TubeTracker.put_same tube]
  rfl

/-- R99: no present segment left. -/
theorem drainsOn_end (none : t.directory = []) (room : s.mill.mapQ.length < 4)
    (alone : stageIs s (otherCtx d.ctx) .closedWait = false → u = queueMapEnd d t s)
    (turn : stageIs s (otherCtx d.ctx) .closedWait = true → exec .drainBegin (queueMapEnd d t s) = .next u) :
    DrainsOn d t s u := by
  have ended : queueMapEnd d t s = (((s.setMill { s.mill with mapQ := s.mill.mapQ ++ [.finish t.id d.sent t.pagesLost] }).setWall
      { s.wall with free := s.wall.free ++ [] }).setTubes
      ((s.tubes.put d.ctx Option.none).putRetired d.ctx (retiredSpanOf t))).setDrain Option.none := by
    rw [List.append_nil]
    rfl
  unfold DrainsOn
  simp only [none, List.take_nil, List.length_nil, pageFrames, List.map_nil, List.append_nil, Nat.add_zero]
  rw [ended, List.append_nil] at alone turn
  exact ⟨fun le => by omega, fun _ => ⟨alone, turn⟩⟩

/-- R97: the lowest present segment sent, and the drain of the rest. -/
theorem drainsOn_page {n : Nat} {e : DirEntry} {l : List (Nat × DirEntry)} (lowest : t.directory = (n, e) :: l)
    (above : d.cursor ≤ n) (room : s.mill.mapQ.length < 4)
    (rest : DrainsOn { d with cursor := n + 1, sent := d.sent + 1, waiting := false } { t with directory := l }
      (queueMapFrame d t n e s) u) : DrainsOn d t s u := by
  obtain ⟨r, hr⟩ : ∃ r, 4 - s.mill.mapQ.length = r + 1 := ⟨3 - s.mill.mapQ.length, by omega⟩
  have frame := queueMapFrame_eq (s := s) lowest above
  have less : 4 - (queueMapFrame d t n e s).mill.mapQ.length = r := by
    rw [frame]
    simp [pageFrames]
    omega
  have other : stageIs (queueMapFrame d t n e s) (otherCtx d.ctx) .closedWait = stageIs s (otherCtx d.ctx) .closedWait := by
    rw [frame]
    exact stageIs_putTube_other ..
  have cursor (k : Nat × DirEntry) (m : List (Nat × DirEntry)) :
      ((k :: m).getLast?.map (fun x => x.1 + 1)).getD d.cursor = (m.getLast?.map (fun x => x.1 + 1)).getD (k.1 + 1) := by
    rw [List.getLast?_cons]
    cases m.getLast? <;> rfl
  unfold DrainsOn at rest ⊢
  simp only [less, other] at rest
  rw [frame] at rest
  simp only [lowest, hr, List.take_succ_cons, List.drop_succ_cons, List.length_cons, cursor]
  obtain ⟨stops, ends⟩ := rest
  refine ⟨fun le => ?_, fun lt => ?_⟩
  · rw [stops (by simpa using le)]
    simp [pageFrames, putTube, State.setMill, State.setWall, State.setTubes, State.setDrain, Nat.add_assoc, Nat.add_comm 1]
  · have := ends (by simpa using lt)
    simpa [pageFrames, putTube, State.setMill, State.setWall, State.setTubes, State.setDrain, Nat.add_assoc, Nat.add_comm 1]
      using this

end

/-- R95 to R99: the drain of a DRAINING tube, with more rounds than the room allows. -/
theorem drainOn_drainsOn {s : State} {d : Drain} {t : Tube} {n : Nat} (busy : s.drain = some d)
    (tube : tubeAt s d.ctx = some t) (ascending : (t.directory.map Prod.fst).Pairwise (· < ·))
    (above : ∀ x ∈ t.directory, d.cursor ≤ x.1) (rounds : 4 - s.mill.mapQ.length < n) : DrainsOn d t s (drainOn n s) := by
  induction n generalizing s d t with
  | zero => omega
  | succ n ih =>
    rw [drainOn_busy busy]
    by_cases room : s.mill.mapQ.length < 4
    · cases directory : t.directory with
      | nil =>
        rw [drainOne_end busy tube room (by rw [directory]; rfl)]
        have longer : (queueMapEnd d t s).mill.mapQ.length = s.mill.mapQ.length + 1 := List.length_append
        refine drainsOn_end directory room (fun alone => ?_) fun _ => ?_
        · rw [takeContext_none, drainOn_idle rfl]
          exact stageIs_queueMapEnd alone
        · have turn := takeContext_mill (queueMapEnd d t s)
          exact congrArg _ (drainOn_enough (Nat.lt_succ_of_le (Nat.sub_le ..)) (by rw [turn]; omega))
      | cons x l =>
        obtain ⟨k, e⟩ := x
        rw [directory, List.map_cons, List.pairwise_cons] at ascending
        rw [directory] at above
        have first : d.cursor ≤ k := above _ (List.mem_cons_self ..)
        rw [drainOne_page busy tube room (by rw [directory]; exact (dirLowest_cons e l first).1), takeContext_busy rfl]
        have longer : (queueMapFrame d t k e s).mill.mapQ.length = s.mill.mapQ.length + 1 := List.length_append
        refine drainsOn_page directory first room (ih rfl ?_ ascending.2 (fun y hy => ?_) (by omega))
        · rw [queueMapFrame_eq directory first]
          exact tubeAt_putTube_same ..
        · exact ascending.1 _ (List.mem_map_of_mem hy)
    · rw [drainOne_full busy room, takeContext_busy rfl, drainOn_fixed]
      · exact drainsOn_full tube room
      · rw [drainOne_full (s := s.setDrain _) rfl room]
        exact takeContext_busy rfl

/-! ### The statement -/

section
variable {s : State} {c : Ctx} {t : Tube}

theorem exec_mapFrameQueued {d : Drain} {n : Nat} {e : DirEntry} (busy : s.drain = some d) (tube : tubeAt s d.ctx = some t)
    (lowest : dirLowest t.directory d.cursor = some (n, e)) (room : s.mill.mapQ.length < 4) :
    exec .mapFrameQueued s = .next (markWaiting (queueMapFrame d t n e s)) := by
  change execMapFrameQueued s = _
  simp [execMapFrameQueued, busy, tube, lowest, (mapRoom_iff s).mpr room]

theorem exec_mapEndQueued {d : Drain} (busy : s.drain = some d) (tube : tubeAt s d.ctx = some t) (none : t.directory = [])
    (room : s.mill.mapQ.length < 4) : exec .mapEndQueued s = .next (examineDrain (queueMapEnd d t s)) := by
  change execMapEndQueued s = _
  simp [execMapEndQueued, busy, tube, none, dirLowest, (mapRoom_iff s).mpr room]

/-- R99: with no CLOSED_WAIT context left the engine stays IDLE. -/
theorem examineDrain_queueMapEnd {d : Drain} (alone : stageIs s (otherCtx d.ctx) .closedWait = false) :
    examineDrain (queueMapEnd d t s) = queueMapEnd d t s :=
  examineDrain_idle rfl (stageIs_queueMapEnd alone)

/-- R78, R95: the drain of a context just taken, seen from before. -/
theorem DrainsOn.of_takenUp {u : State}
    (h : DrainsOn { ctx := c, cursor := 0, sent := 0, waiting := false } { t with stage := .draining } (takenUp c t s) u) :
    DrainsOn { ctx := c, cursor := 0, sent := 0, waiting := false } { t with stage := .draining } s u := by
  have other : stageIs (takenUp c t s) (otherCtx c) .closedWait = stageIs s (otherCtx c) .closedWait :=
    stageIs_putTube_other ..
  unfold DrainsOn at h ⊢
  simp only [other] at h
  simpa [takenUp, putTube, pageFrames, State.setMill, State.setWall, State.setTubes, State.setDrain] using h

/-- R96: a full MAP class queue holds the context just taken. -/
theorem examineDrain_full (idle : s.drain = none) (tube : tubeAt s c = some t) (waits : t.stage = .closedWait)
    (full : s.mill.mapQ.length = 4)
    (older : stageIs s (otherCtx c) .closedWait = true → s.tubes.newest = some (otherCtx c)) :
    examineDrain s = (putTube c (some { t with stage := .draining }) s).setDrain
      (some { ctx := c, cursor := 0, sent := 0, waiting := true }) := by
  have none (x : State) (h : x.mill = s.mill) : ¬x.mill.mapQ.length < 4 := by rw [h]; omega
  rw [examineDrain, takeContext_older idle tube waits older, runDrain, mapCap, drainOn_busy rfl,
    drainOne_full (s := takenUp c t s) rfl (none _ rfl), takeContext_busy rfl, drainOn_fixed]
  · rfl
  · rw [drainOne_full (s := (takenUp c t s).setDrain _) rfl (none _ rfl)]
    exact takeContext_busy rfl

end

/-- Settles O44: the context taken and drained as far as the room allows; one frame, or the MAP_END, by its equation. -/
theorem drainProceedsInSegmentOrder : Obligations.DrainProceedsInSegmentOrder := by
  intro s c t tube
  refine ⟨fun idle waits ok older => ⟨_, rfl, ?_⟩, fun d busy here none room => ?_, fun idle waits full older => ?_,
    fun d n e l busy here lowest above room => ?_, fun d e busy here none ended room alone => ?_⟩
  · simp only [Tube.directoryOk, Bool.and_eq_true, decide_eq_true_eq] at ok
    rw [examineDrain, takeContext_older idle tube waits older]
    exact DrainsOn.of_takenUp (drainOn_drainsOn rfl (tubeAt_putTube_same ..) ok.1 (fun _ _ => Nat.zero_le _)
      (Nat.lt_succ_of_le (Nat.sub_le ..)))
  · subst here
    exact ⟨_, exec_mapEndQueued busy tube none room, drainsOn_end none room examineDrain_queueMapEnd fun _ => rfl⟩
  · change Host.Outcome.next (examineDrain s) = _
    rw [examineDrain_full idle tube waits full older]
    rfl
  · subst here
    rw [exec_mapFrameQueued busy tube (by rw [lowest]; exact (dirLowest_cons e l above).1) room,
      queueMapFrame_eq lowest above]
    have waiting : (!decide (s.mill.mapQ.length + 1 < 4)) = decide (s.mill.mapQ.length = 3) := by
      rw [← decide_not, decide_eq_decide]
      omega
    rw [← waiting]
    simp [markWaiting, mapRoom, mapCap, pageFrames, putTube, State.setDrain, State.setTubes, State.setMill, State.setWall]
  · subst here
    rw [exec_mapEndQueued busy tube none room, examineDrain_queueMapEnd alone]
    simp [queueMapEnd, pushMap, retiredSpanOf, ended]

end Sys2Proof.Machine
end

section
/-! A change of mode (R162, R163): the four ways of a MODE request, the run that leaving CALIBRATE aborts and the tube that
leaving MEASURE for STANDBY ends. -/

namespace Sys2Proof.Machine

/-! ### The RESPONSE of a request (R155) -/

/-- A RESPONSE changes its class queue and the request in processing alone. -/
theorem respond_eq (request : Request) (response : Response) (s : State) :
    ∃ q p, respond request response s = (s.setMill { s.mill with responseQ := q }).setAgent { s.agent with processing := p } := by
  obtain ⟨-, h⟩ | ⟨-, h⟩ := respond_cases request response s <;> rw [h]
  · exact ⟨s.mill.responseQ ++ [response], s.agent.processing, rfl⟩
  · exact ⟨s.mill.responseQ, _, rfl⟩

theorem respond_responseQ (request : Request) (response : Response) {s : State} (room : s.mill.responseQ.length < 2) :
    (respond request response s).mill.responseQ = s.mill.responseQ ++ [response] :=
  congrArg (fun x : State => x.mill.responseQ) (if_pos room)

/-! ### The ways of a MODE request (R162) -/

section
variable {r : Request} {rest : List Request} {s : State} (ready : Ready r rest s)
  (named : operationOf r.operation = some .mode)
include ready named

theorem exec_mode {x : Answer} (work : modeWork r (dequeued rest s) = x) :
    exec .mode s = .next (answer r x.status x.data x.state) := by
  subst work
  exact congrArg _ (takeOldest_ready ready named modeWork)

theorem exec_mode_same (same : modeOf (byteAt r.data 0) = none ∨ modeOf (byteAt r.data 0) = some s.agent.mode) :
    exec .mode s = .next (answer r .ok (.mode s.agent.mode) (dequeued rest s)) := by
  refine exec_mode ready named (x := ⟨.ok, .mode s.agent.mode, dequeued rest s⟩) ?_
  unfold modeWork
  obtain none | current := same
  · rw [none]; rfl
  · rw [current]; exact if_pos rfl

theorem exec_mode_noRecipe (asked : modeOf (byteAt r.data 0) = some .measure) (other : s.agent.mode ≠ .measure)
    (empty : s.agent.active = none) : exec .mode s = .next (answer r .noRecipe .none (dequeued rest s)) := by
  refine exec_mode ready named (x := refuse .noRecipe (dequeued rest s)) ?_
  unfold modeWork
  rw [asked]
  exact (if_neg other.symm).trans (if_pos ⟨rfl, empty⟩)

theorem exec_mode_busy (asked : modeOf (byteAt r.data 0) = some .calibrate) (other : s.agent.mode ≠ .calibrate)
    (live : tubeLive s = true) : exec .mode s = .next (answer r .busy .none (dequeued rest s)) := by
  refine exec_mode ready named (x := refuse .busy (dequeued rest s)) ?_
  unfold modeWork
  rw [asked]
  exact (if_neg other.symm).trans ((if_neg fun h => Mode.noConfusion h.1).trans (if_pos ⟨rfl, live⟩))

theorem exec_mode_changes {m : Mode} (asked : modeOf (byteAt r.data 0) = some m) (other : m ≠ s.agent.mode)
    (bank : m = .measure → s.agent.active.isSome = true) (idle : m = .calibrate → tubeLive s = false) :
    exec .mode s = .next (answer r .ok (.mode m) (changeMode m (dequeued rest s))) := by
  refine exec_mode ready named (x := ⟨.ok, .mode m, changeMode m (dequeued rest s)⟩) ?_
  have loaded : ¬(m = .measure ∧ (dequeued rest s).agent.active = none) := fun h => by
    have some := bank h.1
    rw [show s.agent.active = none from h.2] at some
    cases some
  have free : ¬(m = .calibrate ∧ tubeLive (dequeued rest s) = true) := fun h =>
    Bool.false_ne_true ((idle h.1).symm.trans h.2)
  unfold modeWork
  rw [asked]
  exact (if_neg other).trans ((if_neg loaded).trans (if_neg free))

end

/-! ### A change of mode (R163) -/

section
variable {m : Mode} {s : State}

theorem abortRun_none (none : s.agent.run = none) : abortRun s = s := by
  unfold abortRun
  rw [none]

theorem leaveCalibrate_other (other : s.agent.mode ≠ .calibrate) : leaveCalibrate s = s := if_neg other

/-- R120: an ABORTED run leaves its record NONE and every factor as it was. -/
theorem leaveCalibrate_agent (s : State) :
    (leaveCalibrate s).agent = s.agent ∨ (leaveCalibrate s).agent = { s.agent with run := none } := by
  unfold leaveCalibrate abortRun
  split
  · split
    · exact .inl rfl
    · exact .inr (endRun_agent ..)
  · exact .inl rfl

theorem leaveCalibrate_responseQ (s : State) : (leaveCalibrate s).mill.responseQ = s.mill.responseQ := by
  unfold leaveCalibrate abortRun
  split
  · split
    · rfl
    · exact (raise_downstream (K := []) (by simp) (by simp) ..).responseQ.trans (offerSummary_downstream ..).responseQ
  · rfl

theorem leaveMeasure_downstream {K : List EventKind} (m : Mode) (s : State) : Downstream K s (leaveMeasure m s) := by
  unfold leaveMeasure
  split
  · exact endTube_downstream ..
  · exact .refl s

theorem leaveMeasure_other (other : s.agent.mode ≠ .measure) : leaveMeasure m s = s := by
  unfold leaveMeasure
  split
  next measure _ => exact absurd measure other
  next => rfl

theorem leaveMeasure_idle (idle : activeCtx s = none) : leaveMeasure m s = s := by
  unfold leaveMeasure
  split
  · unfold endTube
    rw [idle]
  · rfl

theorem changeMode_agent (m : Mode) (s : State) : (changeMode m s).agent = { (leaveCalibrate s).agent with mode := m } := by
  change (examineBoth _).agent = _
  rw [(examineBoth_downstream _).agent, State.setAgent_agent, (leaveMeasure_downstream (K := []) m _).agent]

theorem changeMode_mode (m : Mode) (s : State) : (changeMode m s).agent.mode = m := by rw [changeMode_agent]

theorem changeMode_responseQ (m : Mode) (s : State) : (changeMode m s).mill.responseQ = s.mill.responseQ := by
  refine (examineBoth_downstream _).responseQ.trans ?_
  exact (leaveMeasure_downstream (K := []) m _).responseQ.trans (leaveCalibrate_responseQ s)

/-- With no tube ACTIVE or SETTLING no context is one or the other. -/
theorem idle_of_not_live (off : tubeLive s = false) : activeCtx s = none ∧ Quiet s := by
  simp only [tubeLive, Bool.or_eq_false_iff] at off
  obtain ⟨⟨⟨activeA, settlingA⟩, activeB⟩, settlingB⟩ := off
  exact ⟨(activeCtx_none_iff s).mpr fun c => by cases c <;> assumption, settlingA, settlingB⟩

/-- R163: a change with no run and no live tube. -/
theorem changeMode_quiet (none : s.agent.run = none) (off : tubeLive s = false) :
    changeMode m s = s.setAgent { s.agent with mode := m } := by
  obtain ⟨idle, quiet⟩ := idle_of_not_live off
  have stays : leaveCalibrate s = s := by unfold leaveCalibrate; rw [abortRun_none none, ite_self]
  unfold changeMode
  rw [stays, leaveMeasure_idle idle]
  exact examineBoth_of_quiet quiet

/-- R163 step 1: the run in progress that a change from CALIBRATE aborts. -/
theorem changeMode_run {x : CalRun} (calibrate : s.agent.mode = .calibrate) (run : s.agent.run = some x) :
    (changeMode m s).agent = { s.agent with run := none, mode := m } ∧
    occurrences (changeMode m s) .calDone = min 65535 (occurrences s .calDone + 1) := by
  have aborts : leaveCalibrate s = endRun x .aborted none s := by
    unfold leaveCalibrate abortRun
    rw [if_pos calibrate, run]
  have agent : (endRun x .aborted none s).agent = { s.agent with run := none } := endRun_agent ..
  refine ⟨by rw [changeMode_agent, aborts, agent], ?_⟩
  have after := (leaveMeasure_downstream m (endRun x .aborted none s)).counts .calDone (List.mem_singleton_self _)
  refine ((examineBoth_downstream _).counts .calDone (by decide)).trans ?_
  change occurrences (leaveMeasure m (leaveCalibrate s)) .calDone = _
  rw [aborts, after, occurrences_endRun _ _ _ _ (by decide), if_pos rfl]

/-- R68: the ACTIVE tube that a change from MEASURE to STANDBY ends at the newest sample. -/
theorem changeMode_ends {c : Ctx} {x : Tube} {y : Sample} (measure : s.agent.mode = .measure)
    (newest : newestSample s = some y) (active : activeCtx s = some c) (tube : tubeAt s c = some x) :
    changeMode .standby s =
      examineBoth ((putTube c (some (x.finish s.now y.timestamp y.travel .modeChange)) s).setAgent
        { s.agent with mode := .standby }) := by
  have ends : leaveMeasure .standby s = endTube y.timestamp y.travel .modeChange s := by
    unfold leaveMeasure
    rw [measure, newest]
  unfold changeMode
  rw [leaveCalibrate_other (by rw [measure]; decide), ends, endTube_some active tube]
  rfl

end

/-- Settles O54: each way of the request by its equation; a changed mode through the run's abort, the tube's end and the settle
conditions, none of which touches what the statement reads. -/
theorem modeRequests : Obligations.ModeRequests := by
  intro r rest s s0 asked ready named
  have changes {m : Mode} := exec_mode_changes ready named (m := m)
  refine ⟨exec_mode_same ready named, exec_mode_noRecipe ready named, exec_mode_busy ready named,
    fun m asks other bank idle room => ⟨_, changes asks other bank idle, ?_, ?_⟩, fun m asks other bank idle none off => ?_,
    fun m x asks calibrate other bank run off => ⟨_, changes asks (calibrate ▸ other) bank (absurd · other), ?_⟩,
    fun y c x asks measure newest active tube tubes pages =>
      ⟨_, changes asks (measure ▸ by decide) (fun h => Mode.noConfusion h) (fun h => Mode.noConfusion h), ?_⟩⟩
  · obtain ⟨q, p, h⟩ := respond_eq r { tag := r.tag, status := .ok, data := .mode m } (changeMode m s0)
    rw [answer, h]
    exact changeMode_mode m s0
  · have queue := changeMode_responseQ m s0
    rw [answer, respond_responseQ _ _ (by rw [queue]; exact room), queue]
    rfl
  · rw [changes asks other bank idle, changeMode_quiet (s := dequeued rest s) none off]
    rfl
  · obtain ⟨agent, count⟩ := changeMode_run (s := s0) (m := m) calibrate run
    obtain ⟨q, p, h⟩ := respond_eq r { tag := r.tag, status := .ok, data := .mode m } (changeMode m s0)
    rw [answer, h, State.setAgent_agent, agent]
    exact ⟨rfl, rfl, rfl, count⟩
  · obtain ⟨q, p, h⟩ := respond_eq r { tag := r.tag, status := .ok, data := .mode .standby } (changeMode .standby s0)
    obtain ⟨-, -, one, -, -⟩ := (tubeLaw_iff s).mp tubes
    obtain ⟨-, -, -, ok⟩ := pages
    let lost := x.finish s.now y.timestamp y.travel .modeChange
    let v := (putTube c (some lost) s0).setAgent { s.agent with mode := .standby }
    have ends : changeMode .standby s0 = examineBoth v := changeMode_ends measure newest active tube
    have same := examineBoth_downstream v
    have idle : activeCtx v = none := by
      have ended := endTube_idle one y.timestamp y.travel .modeChange
      rw [endTube_some active tube] at ended
      exact (activeCtx_none_iff v).mpr ended
    have spent : activeCtx (examineBoth v) = none :=
      activeCtx_none_of_proceeds (.of_wraps (examineBoth_wraps v) same) idle
    have hz : tubeAt v c = some lost := tubeAt_putTube_same ..
    rw [answer, h, ends]
    refine ⟨(congrArg Agent.mode same.agent).trans rfl, spent, same.traceQueue, same.pose, fun tr queued early => ?_⟩
    have notDraining : x.stage ≠ .draining := by
      obtain ⟨z, hz, stage⟩ := activeCtx_some active
      rw [Option.some.inj (tube.symm.trans hz), stage]
      decide
    obtain ⟨z, hz', stands, -⟩ := (awaited_spares (s := v) hz rfl rfl queued early (fun g => drain_away (s := s) ok tube notDraining g)).tube hz
    exact ⟨z, hz', stands.stage, stands.settleEntry, stands.ended⟩

end Sys2Proof.Machine
end

section
/-! Closing rings (R101 to R105): what one closed bin leaves, and the rings closed one after another, whether the lead or settle
completion closes them. -/

namespace Sys2Proof.Machine

/-! ### The figures of a ring and its digest (R80, R106 to R109) -/

theorem binCells_length (s : State) (t : Tube) (bin : Nat) : (binCells s t bin).length = t.setup.sectors := by
  simp only [binCells]
  split <;> simp

theorem ringStatus_eq_empty_iff (empty sectors gapLimit : Nat) : ringStatus empty sectors gapLimit = .empty ↔ empty = sectors := by
  unfold ringStatus
  split
  · simp [*]
  · split <;> simp [*]

theorem countedFrom_eq_nil_iff (j : Nat) (l : List SectorMean) : countedFrom j l = [] ↔ ∀ m ∈ l, m.value? = none := by
  induction l generalizing j with
  | nil => simp [countedFrom]
  | cons m rest ih => cases h : m.value? <;> simp [countedFrom, h, ih]

theorem sectorMeans_absent {m : List (Option Nat)} (none : ∀ x ∈ m, x = Option.none) :
    ∀ x ∈ sectorMeans m false, x.value? = Option.none := by
  intro x hx
  obtain ⟨j, hj, rfl⟩ := List.mem_map.mp hx
  have here : m.getD j Option.none = Option.none := by
    rw [List.getD_eq_getElem _ _ (List.mem_range.mp hj)]
    exact none _ (List.getElem_mem _)
  rw [here]
  rfl

theorem sectorMeans_measured {m : List (Option Nat)} {v : Nat} (fill : Bool) (mem : some v ∈ m) :
    SectorMean.measured v ∈ sectorMeans m fill := by
  obtain ⟨j, hj, here⟩ := List.mem_iff_getElem.mp mem
  refine List.mem_map.mpr ⟨j, List.mem_range.mpr hj, ?_⟩
  rw [List.getD_eq_getElem _ _ hj, here]

theorem extreme_isSome (better : Nat → Nat → Bool) {l : List (Nat × Nat)} (h : l ≠ []) : ∃ p, extreme better l = some p := by
  cases l with
  | nil => exact absurd rfl h
  | cons p rest => exact ⟨_, rfl⟩

section
variable (s : State) (t : Tube) (bin : Nat) (time : Time)

/-- R106: an EMPTY ring is one whose every sector counts no reading. -/
theorem ringRecord_empty_iff :
    (ringRecord s t bin time).status = .empty ↔ ∀ x ∈ (binCells s t bin).map measuredMean, x = none := by
  have length : ((binCells s t bin).map measuredMean).length = t.setup.sectors := by
    rw [List.length_map, binCells_length]
  refine (ringStatus_eq_empty_iff ..).trans ?_
  rw [← length, List.length_filter_eq_length_iff]
  simp only [Option.isNone_iff_eq_none]

/-- R109: an EMPTY ring has no mean. -/
theorem ringRecord_mean_none (empty : (ringRecord s t bin time).status = .empty) : (ringRecord s t bin time).mean = none := by
  have none := (ringRecord_empty_iff s t bin time).mp empty
  have unfilled : decide ((ringRecord s t bin time).status = .complete) = false := by rw [empty]; rfl
  have counted : countedFrom 0 (sectorMeans ((binCells s t bin).map measuredMean)
      (decide ((ringRecord s t bin time).status = .complete))) = [] := by
    rw [unfilled, countedFrom_eq_nil_iff]
    exact sectorMeans_absent none
  change ringMean (countedFrom 0 (sectorMeans _ (decide ((ringRecord s t bin time).status = .complete)))) = Option.none
  rw [counted]
  rfl

/-- R109: a ring that is not EMPTY has its mean and both extremes. -/
theorem ringRecord_figures (filled : (ringRecord s t bin time).status ≠ .empty) :
    ∃ mean mn mx, (ringRecord s t bin time).mean = some mean ∧ (ringRecord s t bin time).min = some mn ∧
      (ringRecord s t bin time).max = some mx := by
  rw [Ne, ringRecord_empty_iff, not_forall] at filled
  obtain ⟨x, hx⟩ := filled
  rw [Classical.not_imp] at hx
  obtain ⟨v, rfl⟩ := Option.ne_none_iff_exists'.mp hx.2
  have counted : countedFrom 0 (ringRecord s t bin time).means ≠ [] := fun empty =>
    absurd ((countedFrom_eq_nil_iff _ _).mp empty _ (sectorMeans_measured _ hx.1)) (by simp [SectorMean.value?])
  obtain ⟨mn, hmn⟩ := extreme_isSome (fun x y => decide (x < y)) counted
  obtain ⟨mx, hmx⟩ := extreme_isSome (fun x y => decide (y < x)) counted
  exact ⟨_, mn, mx, if_neg counted, hmn, hmx⟩

/-- R80: neither a HEAD_END ring nor an EMPTY one has a digest entry. -/
theorem digestOf_none (h : (ringRecord s t bin time).zone = .headEnd ∨ (ringRecord s t bin time).status = .empty) :
    digestOf (ringRecord s t bin time) = none := by
  unfold digestOf
  obtain zone | empty := h
  · rw [zone]
  · rw [ringRecord_mean_none s t bin time empty]
    cases (ringRecord s t bin time).zone <;> rfl

/-- R80: the digest entry of a BODY ring that is not EMPTY. -/
theorem digestOf_body (zone : (ringRecord s t bin time).zone = .body) (filled : (ringRecord s t bin time).status ≠ .empty) :
    ∃ e, digestOf (ringRecord s t bin time) = some e ∧ e.bin = bin ∧ (ringRecord s t bin time).mean = some e.mean ∧
      (ringRecord s t bin time).min = some (e.min, e.minSector) ∧ (ringRecord s t bin time).max = some (e.max, e.maxSector) ∧
      e.eccentricity = (ringRecord s t bin time).eccentricity := by
  obtain ⟨mean, mn, mx, hmean, hmn, hmx⟩ := ringRecord_figures s t bin time filled
  refine ⟨{ bin := bin, mean := mean, min := mn.1, minSector := mn.2, max := mx.1, maxSector := mx.2,
            eccentricity := (ringRecord s t bin time).eccentricity }, ?_, rfl, hmean, hmn, hmx, rfl⟩
  unfold digestOf
  rw [zone, hmean, hmn, hmx]
  rfl

end

/-- A ring record reads the tube's id, setup and directory, and the cells. -/
theorem ringRecord_congr {s u : State} {t x : Tube} (pool : u.wall.pool = s.wall.pool) (id : x.id = t.id)
    (setup : x.setup = t.setup) (directory : x.directory = t.directory) (bin : Nat) (time : Time) :
    ringRecord u x bin time = ringRecord s t bin time := by
  unfold ringRecord binCells zoneOf
  rw [pool, id, setup, directory]

/-! ### A SUMMARY frame offered (R149) -/

section
variable {s : State} {f : SummaryFrame}

theorem offerSummary_room (room : s.mill.summaryQ.length < 32) :
    offerSummary f s = s.setMill { s.mill with summaryQ := s.mill.summaryQ ++ [f] } := if_pos room

theorem offerSummary_full (full : s.mill.summaryQ.length = 32) :
    offerSummary f s = raise .summaryLost f.lostDetail (countDropped summaryClass s) := by
  refine if_neg ?_
  rw [full]
  decide

/-- A tube stands on through a SUMMARY frame's offer, but for its worst condition seen. -/
theorem offerSummary_tube (f : SummaryFrame) {c : Ctx} {t : Tube} (tube : tubeAt s c = some t) :
    ∃ worst, tubeAt (offerSummary f s) c = some { t with worstSeen := worst } := by
  obtain ⟨_, h⟩ | ⟨_, h⟩ := offerSummary_cases f s <;> rw [h]
  · exact ⟨t.worstSeen, tube⟩
  · exact (raise_noticeOnly _ _ (countDropped summaryClass s)).tube tube

/-- A SUMMARY frame's offer raises SUMMARY_LOST and NOTICE_LOST at most. -/
theorem occurrences_offerSummary (f : SummaryFrame) (s : State) {k : EventKind} (summary : k ≠ .summaryLost)
    (notice : k ≠ .noticeLost) : occurrences (offerSummary f s) k = occurrences s k := by
  obtain ⟨_, h⟩ | ⟨_, h⟩ := offerSummary_cases f s <;> rw [h]
  · rfl
  · rw [occurrences_raise notice, if_neg summary]
    rfl

/-- R149: a NOTICE counts its drop in its own class alone. -/
theorem raise_dropped (k : EventKind) (d : Detail) (s : State) {cl : Fin 6} (other : cl ≠ noticeClass) :
    tableGet (raise k d s).mill.counters.dropped cl = tableGet s.mill.counters.dropped cl := by
  obtain h | ⟨_, _, _, h⟩ := raise_cases k d s <;> rw [h]
  · rw [countOccurrence_mill]
  · obtain ⟨_, h⟩ | ⟨_, h⟩ := offerNotice_cases (noticeOf .occurrence k (some d) (countOccurrence k d s))
      (countOccurrence k d s) <;> rw [h]
    · rw [State.setMill_mill, countOccurrence_mill]
    · rw [countOccurrence_mill]
      refine (tableGet_tableMod_other _ _ other).trans ?_
      rw [countOccurrence_mill]

end

/-! ### One ring closed (R103) -/

/-- R103: the tube after its ring `r`, of bin `b`, has closed. -/
def Tube.ringClosed (t : Tube) (b : Nat) (r : RingRecord) (worst : Condition) : Tube :=
  { t with binsClosed := min 65535 (t.binsClosed + 1), digest := t.digest ++ (digestOf r).toList, nextRing := b + 1,
           worstSeen := worst }

section
variable {s : State} {c : Ctx} {t : Tube} (tube : tubeAt s c = some t) (b : Nat) (time : Time)
include tube

/-- R103: the RING frame offered, then the tube's figures. -/
theorem closeRing_eq : ∃ worst, closeRing c b time s =
    putTube c (some (t.ringClosed b (ringRecord s t b time) worst)) (offerSummary (.ring (ringRecord s t b time)) s) := by
  obtain ⟨worst, hx⟩ := offerSummary_tube (.ring (ringRecord s t b time)) tube
  refine ⟨worst, ?_⟩
  unfold closeRing
  rw [tube]
  simp only
  rw [modTube_some hx]
  rfl

theorem closeRing_tube : ∃ worst, tubeAt (closeRing c b time s) c = some (t.ringClosed b (ringRecord s t b time) worst) := by
  obtain ⟨worst, h⟩ := closeRing_eq tube b time
  exact ⟨worst, by rw [h, tubeAt_putTube_same]⟩

theorem closeRing_offers : (closeRing c b time s).mill = (offerSummary (.ring (ringRecord s t b time)) s).mill ∧
    (closeRing c b time s).events = (offerSummary (.ring (ringRecord s t b time)) s).events := by
  obtain ⟨worst, h⟩ := closeRing_eq tube b time
  rw [h]
  exact ⟨rfl, rfl⟩

end

/-! ### Rings closed one after another (R102, R104) -/

/-- The next ring of context `c` closed. -/
def closeNext (c : Ctx) (time : Time) (s : State) : State :=
  match tubeAt s c with
  | none => s
  | some t => closeRing c t.nextRing time s

theorem closeNext_some {s : State} {c : Ctx} {t : Tube} (tube : tubeAt s c = some t) (time : Time) :
    closeNext c time s = closeRing c t.nextRing time s := by
  rw [closeNext, tube]

/-- From `s` to `u` the next `n` rings of the tube `t` of context `c` close, and `x` is the tube then. -/
structure RingsClosed (c : Ctx) (time : Time) (n : Nat) (s : State) (t : Tube) (u : State) (x : Tube) : Prop where
  tube : tubeAt u c = some x
  same : ∃ closed digest worst,
    x = { t with binsClosed := closed, digest := digest, nextRing := t.nextRing + n, worstSeen := worst }
  binsClosed : x.binsClosed = if n = 0 then t.binsClosed else min 65535 (t.binsClosed + n)
  reports : Reports tubeKinds s u
  counts : ∀ k, k ≠ .summaryLost → k ≠ .noticeLost → occurrences u k = occurrences s k
  queue : s.mill.summaryQ.length + n ≤ 32 →
    u.mill.summaryQ = s.mill.summaryQ ++ (List.range' t.nextRing n).map (fun b => .ring (ringRecord s t b time))

theorem RingsClosed.refl {s : State} {c : Ctx} {t : Tube} (tube : tubeAt s c = some t) (time : Time) :
    RingsClosed c time 0 s t s t where
  tube := tube
  same := ⟨_, _, _, rfl⟩
  binsClosed := rfl
  reports := .refl s
  counts _ _ _ := rfl
  queue _ := (List.append_nil _).symm

/-- One more ring closed. -/
theorem RingsClosed.next {s u : State} {c : Ctx} {t x : Tube} {time : Time} {n : Nat} (h : RingsClosed c time n s t u x) :
    ∃ y, RingsClosed c time (n + 1) s t (closeNext c time u) y := by
  obtain ⟨closed, digest, worst, rfl⟩ := h.same
  obtain ⟨worst', hy⟩ := closeRing_tube h.tube (t.nextRing + n) time
  obtain ⟨mill, events⟩ := closeRing_offers h.tube (t.nextRing + n) time
  have ring := ringRecord_congr (congrArg WallMap.pool h.reports.wall) (t := t) rfl rfl rfl (t.nextRing + n) time
    (x := { t with binsClosed := closed, digest := digest, nextRing := t.nextRing + n, worstSeen := worst })
  rw [closeNext_some h.tube]
  refine ⟨_, { tube := hy, same := ⟨_, _, _, rfl⟩, binsClosed := ?_, reports := h.reports.trans (closeRing_reports c time h.tube),
               counts := fun k summary notice => ?_, queue := fun room => ?_ }⟩
  · have bins : closed = _ := h.binsClosed
    simp only [Tube.ringClosed, bins]
    split <;> simp_all
    omega
  · rw [occurrences, events]
    exact (occurrences_offerSummary _ u summary notice).trans (h.counts k summary notice)
  · have queue := h.queue (by omega)
    rw [mill, offerSummary_room (by rw [queue]; simp; omega), ring]
    simp [queue, List.range'_1_concat]

theorem closeNext_iterate {s : State} {c : Ctx} {t : Tube} (tube : tubeAt s c = some t) (time : Time) (n : Nat) :
    ∃ x, RingsClosed c time n s t ((closeNext c time)^[n] s) x := by
  induction n with
  | zero => exact ⟨t, .refl tube time⟩
  | succ n ih =>
    obtain ⟨x, h⟩ := ih
    rw [Function.iterate_succ_apply']
    exact h.next

end Sys2Proof.Machine
end
section
/-! The rings that the lead closes, the highest bin that counts a reading, and the statement on closing rings. -/

namespace Sys2Proof.Machine

/-! ### The lead (R102) -/

theorem le_foldl_min_iff {α : Type} (f : α → Int) (z m : Int) (l : List α) :
    z ≤ l.foldl (fun m x => min m (f x)) m ↔ z ≤ m ∧ ∀ x ∈ l, z ≤ f x := by
  induction l generalizing m with
  | nil => simp
  | cons x rest ih => rw [List.foldl_cons, ih, le_min_iff, List.forall_mem_cons, and_assoc]

/-- R102: the lead is the least over the latched heads. -/
theorem le_lead_iff {t : Tube} {travel : Nat} {x : Int} (h : lead t travel = some x) (z : Int) :
    z ≤ x ↔ ∀ l ∈ t.heads, z ≤ (travel : Int) - t.startTravel - l.axialOffset := by
  unfold lead at h
  split at h
  · cases h
  next heads =>
    cases h
    rw [heads, le_foldl_min_iff, List.forall_mem_cons]

theorem lead_some {t : Tube} (heads : t.heads ≠ []) (travel : Nat) : ∃ x, lead t travel = some x := by
  unfold lead
  split
  next none => exact absurd none heads
  next => exact ⟨_, rfl⟩

/-- R101: the lead closes ring `b` where the directory can hold its bin and the lead has passed its end. -/
def LeadCloses (t : Tube) (x : Int) (b : Nat) : Prop := b < ringLimit t ∧ leadPassed t b x = true

/-- R102: the lead closes the next rings as long as it has passed them, `n` at most. -/
theorem closeByLead_iterate {s : State} {c : Ctx} {t : Tube} (tube : tubeAt s c = some t) (x : Int) (time : Time) (n : Nat) :
    ∃ k, closeByLead c x time n s = (closeNext c time)^[k] s ∧ k ≤ n ∧
      (∀ b, t.nextRing ≤ b → b < t.nextRing + k → LeadCloses t x b) ∧ (k = n ∨ ¬LeadCloses t x (t.nextRing + k)) := by
  induction n generalizing s t with
  | zero => exact ⟨0, rfl, Nat.le_refl 0, fun b _ _ => by omega, .inl rfl⟩
  | succ n ih =>
    unfold closeByLead
    rw [tube]
    by_cases closes : LeadCloses t x t.nextRing
    · obtain ⟨y, first⟩ := closeNext_iterate tube time 1
      obtain ⟨closed, digest, worst, rfl⟩ := first.same
      obtain ⟨k, iterate, le, before, stop⟩ := ih first.tube
      refine ⟨k + 1, (if_pos closes).trans ?_, Nat.succ_le_succ le, fun b from_next below => ?_, ?_⟩
      · rw [← closeNext_some tube time]
        exact iterate
      · obtain rfl | later := Nat.eq_or_lt_of_le from_next
        · exact closes
        · exact before b later (by change b < t.nextRing + 1 + k; omega)
      · rw [show t.nextRing + (k + 1) = t.nextRing + 1 + k by omega]
        exact stop.imp_left (congrArg (· + 1))
    · exact ⟨0, if_neg closes, Nat.zero_le _, fun b _ _ => by omega, .inr closes⟩

/-- R102: the rings that an accepted sample closes. -/
theorem closeRingsByLead_iterate {s : State} {c : Ctx} {t : Tube} (active : activeCtx s = some c)
    (tube : tubeAt s c = some t) (f : Sample) {x : Int} (leads : lead t f.travel = some x) :
    ∃ k, closeRingsByLead f s = (closeNext c f.timestamp)^[k] s ∧
      (∀ b, t.nextRing ≤ b → b < t.nextRing + k → LeadCloses t x b) ∧ ¬LeadCloses t x (t.nextRing + k) := by
  obtain ⟨k, iterate, le, before, stop⟩ := closeByLead_iterate tube x f.timestamp (ringLimit t - t.nextRing)
  refine ⟨k, ?_, before, fun closes => ?_⟩
  · unfold closeRingsByLead
    rw [active]
    simp only
    rw [tube]
    simp only
    rw [leads]
    exact iterate
  · obtain all | held := stop
    · have := closes.1
      omega
    · exact held closes

/-! ### The highest bin that counts a reading (R104) -/

theorem find?_eq_some_of_unique {α : Type} {p : α → Bool} {l : List α} {z : α} (mem : z ∈ l) (hz : p z = true)
    (unique : ∀ y ∈ l, p y = true → y = z) : l.find? p = some z := by
  cases found : l.find? p with
  | none => exact absurd hz (List.find?_eq_none.mp found z mem)
  | some y => rw [unique y (List.mem_of_find?_eq_some found) (List.find?_some found)]

theorem mem_pool_of_readCell {pool : List (Nat × Cell)} {a : Nat} (h : readCell pool a ≠ clearedCell) :
    (a, readCell pool a) ∈ pool := by
  induction pool with
  | nil => exact absurd rfl h
  | cons e rest ih =>
    obtain ⟨k, x⟩ := e
    unfold readCell at h ⊢
    split
    next here => exact here ▸ List.mem_cons_self
    next other =>
      rw [if_neg other] at h
      exact List.mem_cons_of_mem _ (ih h)

theorem poolFrom_above {l : Nat} {pool : List (Nat × Cell)} (h : poolFrom (some l) pool = true) : ∀ e ∈ pool, l < e.1 := by
  induction pool generalizing l with
  | nil => intro e he; cases he
  | cons e rest ih =>
    obtain ⟨k, x⟩ := e
    obtain ⟨low, -, above⟩ := (poolFrom_cons _ k x rest).mp h
    exact List.forall_mem_cons.mpr ⟨low l rfl, fun e he => (low l rfl).trans (ih above e he)⟩

/-- In canonical form a listed cell is the one that is read. -/
theorem readCell_of_mem {low : Option Nat} {pool : List (Nat × Cell)} (wf : poolFrom low pool = true) {a : Nat} {x : Cell}
    (mem : (a, x) ∈ pool) : readCell pool a = x := by
  induction pool generalizing low with
  | nil => cases mem
  | cons e rest ih =>
    obtain ⟨k, y⟩ := e
    obtain ⟨-, -, above⟩ := (poolFrom_cons _ k y rest).mp wf
    unfold readCell
    obtain here | there := List.mem_cons.mp mem
    · cases here
      exact if_pos rfl
    · exact (if_neg (Nat.ne_of_lt (poolFrom_above above _ there))).trans (ih above there)

/-- R86: in an ascending directory a listed entry is the one that is looked up. -/
theorem dirLookup_eq_some_iff {d : List (Nat × DirEntry)} (ascending : (d.map Prod.fst).Pairwise (· < ·)) (n : Nat)
    (e : DirEntry) : dirLookup d n = some e ↔ (n, e) ∈ d := by
  have once : (d.map Prod.fst).Nodup := ascending.imp fun h => Nat.ne_of_lt h
  constructor
  · intro found
    obtain ⟨⟨k, x⟩, hx, rfl⟩ := Option.map_eq_some_iff.mp found
    obtain rfl : k = n := by simpa using List.find?_some hx
    exact List.mem_of_find?_eq_some hx
  · intro mem
    have found := find?_eq_some_of_unique (p := fun y => y.1 == n) mem (beq_self_eq_true n) fun y hy here =>
      List.inj_on_of_nodup_map once hy mem (beq_iff_eq.mp here)
    rw [dirLookup, found]
    rfl

/-- R83: no two present entries of a context share a page. -/
theorem pages_nodup {s : State} (law : PageLaw s) {c : Ctx} {t : Tube} (tube : tubeAt s c = some t) :
    (dirPages t.directory).Nodup := by
  obtain ⟨perm, -⟩ := law
  have all := (perm.nodup_iff.mpr List.nodup_range).of_append_right
  cases c
  · have held : pagesHeld s.tubes.a = dirPages t.directory := by rw [show s.tubes.a = some t from tube]; rfl
    exact held ▸ all.of_append_left
  · have held : pagesHeld s.tubes.b = dirPages t.directory := by rw [show s.tubes.b = some t from tube]; rfl
    exact held ▸ all.of_append_right

theorem directory_ascending {s : State} (law : PageLaw s) {c : Ctx} {t : Tube} (tube : tubeAt s c = some t) :
    (t.directory.map Prod.fst).Pairwise (· < ·) := by
  have ok := (all_tubes_iff s Tube.directoryOk).mp ⟨law.2.1, law.2.2.1⟩ c t tube
  rw [Tube.directoryOk, Bool.and_eq_true, decide_eq_true_eq] at ok
  exact ok.1

/-- R85: cell index `i` of a page is sector `i` mod S of the page's bin `i` / S. -/
theorem bin_of_cellIndex {n i : Nat} (mem : n ∈ [8, 16, 32, 64]) (k : Nat) (within : i < 256) :
    i % n < n ∧ segmentOf n (firstBinOf n k + i / n) = k ∧ cellIndexOf n (firstBinOf n k + i / n) (i % n) = i := by
  simp only [List.mem_cons, List.not_mem_nil, or_false] at mem
  rcases mem with rfl | rfl | rfl | rfl <;>
    simp only [cellIndexOf, firstBinOf, segmentOf, binsPerPage, Nat.reduceDiv] <;> omega

theorem firstBinOf_add_cellIndex {n j : Nat} (mem : n ∈ [8, 16, 32, 64]) (b : Nat) (h : j < n) :
    firstBinOf n (segmentOf n b) + cellIndexOf n b j / n = b := by
  simp only [List.mem_cons, List.not_mem_nil, or_false] at mem
  rcases mem with rfl | rfl | rfl | rfl <;>
    simp only [cellIndexOf, firstBinOf, segmentOf, binsPerPage, Nat.reduceDiv] <;> omega

theorem mem_binCells_iff (s : State) (t : Tube) (b : Nat) {x : Cell} (counts : x.count ≠ 0) :
    x ∈ binCells s t b ↔ ∃ e, dirLookup t.directory (segmentOf t.setup.sectors b) = some e ∧
      ∃ j < t.setup.sectors, readCell s.wall.pool (cellAddress e.page (cellIndexOf t.setup.sectors b j)) = x := by
  simp only [binCells]
  cases dirLookup t.directory (segmentOf t.setup.sectors b) with
  | none =>
    simp only [List.mem_replicate, reduceCtorEq, false_and, exists_false, iff_false]
    rintro ⟨-, rfl⟩
    exact counts rfl
  | some e => simp

/-- R104: the bin of a pool entry that counts a reading on a page of a present entry. -/
def countedBin (t : Tube) (e : Nat × Cell) : Option Nat :=
  match t.directory.find? (fun d => d.2.page == e.1 / 256) with
  | some d => if e.2.count = 0 then none else some (firstBinOf t.setup.sectors d.1 + e.1 % 256 / t.setup.sectors)
  | none => none

theorem highestBin_eq (s : State) (t : Tube) : highestBin s t = (s.wall.pool.filterMap (countedBin t)).max? := rfl

theorem countedBin_eq_some_iff {t : Tube} (pages : (dirPages t.directory).Nodup) (a : Nat) (x : Cell) (b : Nat) :
    countedBin t (a, x) = some b ↔ x.count ≠ 0 ∧ ∃ d ∈ t.directory, d.2.page = a / 256 ∧
      firstBinOf t.setup.sectors d.1 + a % 256 / t.setup.sectors = b := by
  have unique : ∀ d ∈ t.directory, d.2.page = a / 256 → t.directory.find? (fun d => d.2.page == a / 256) = some d :=
    fun d hd page => find?_eq_some_of_unique hd (beq_iff_eq.mpr page) fun y hy here =>
      List.inj_on_of_nodup_map pages hy hd ((beq_iff_eq.mp here).trans page.symm)
  unfold countedBin
  constructor
  · intro h
    split at h
    next d found =>
      split at h
      · cases h
      next counts =>
        exact ⟨counts, d, List.mem_of_find?_eq_some found, beq_iff_eq.mp (List.find?_some (p := fun d : Nat × DirEntry =>
          d.2.page == a / 256) found), Option.some.inj h⟩
    next => cases h
  · rintro ⟨counts, d, hd, page, rfl⟩
    rw [unique d hd page]
    exact if_neg counts

/-- R104: the bins that the pool's entries give are those of which some cell counts a reading. -/
theorem mem_countedBins_iff {s : State} {c : Ctx} {t : Tube} (tube : tubeAt s c = some t)
    (sectors : t.setup.sectors ∈ [8, 16, 32, 64]) (law : PageLaw s) (wf : PoolLaw s) (b : Nat) :
    b ∈ s.wall.pool.filterMap (countedBin t) ↔ ∃ x ∈ binCells s t b, x.count ≠ 0 := by
  have pages := pages_nodup law tube
  have ascending := directory_ascending law tube
  rw [List.mem_filterMap]
  constructor
  · rintro ⟨⟨a, x⟩, mem, bin⟩
    obtain ⟨counts, ⟨k, e⟩, hd, page, rfl⟩ := (countedBin_eq_some_iff pages a x b).mp bin
    obtain ⟨below, segment, index⟩ := bin_of_cellIndex sectors k (Nat.mod_lt a (by decide : 0 < 256))
    refine ⟨x, (mem_binCells_iff s t _ counts).mpr ⟨e, ?_, a % 256 % t.setup.sectors, below, ?_⟩, counts⟩
    · rw [segment]
      exact (dirLookup_eq_some_iff ascending k e).mpr hd
    · rw [index, cellAddress, page, Nat.mul_comm, Nat.div_add_mod]
      exact readCell_of_mem wf mem
  · rintro ⟨x, mem, counts⟩
    obtain ⟨e, here, j, below, rfl⟩ := (mem_binCells_iff s t b counts).mp mem
    have listed := mem_pool_of_readCell fun cleared => counts (congrArg Cell.count cleared)
    refine ⟨_, listed, (countedBin_eq_some_iff pages _ _ b).mpr ⟨counts, _, (dirLookup_eq_some_iff ascending _ e).mp here, ?_⟩⟩
    have index := cellIndexOf_lt sectors b below
    have page : cellAddress e.page (cellIndexOf t.setup.sectors b j) / 256 = e.page := by unfold cellAddress; omega
    have inPage : cellAddress e.page (cellIndexOf t.setup.sectors b j) % 256 = cellIndexOf t.setup.sectors b j := by
      unfold cellAddress; omega
    rw [page, inPage]
    exact ⟨rfl, firstBinOf_add_cellIndex sectors b below⟩

/-! ### A truncation (R65) -/

section
variable {s : State} {c : Ctx} {t : Tube} (tube : tubeAt s c = some t)
include tube

theorem truncate_summaryQ : (truncate c s).mill.summaryQ = (truncateSummary c s).mill.summaryQ := by
  obtain ⟨-, mill, -, -⟩ := stopDrain_rest c (truncateSummary c s)
  rw [truncate_some tube, (raise_noticeOnly _ _ _).summaryQ]
  exact congrArg MillPort.summaryQ mill

theorem truncateSummary_settling {e : TubeEnd} (settling : t.stage = .settling) (ended : t.ended = some e)
    (room : s.mill.summaryQ.length < 32) :
    (truncateSummary c s).mill.summaryQ = s.mill.summaryQ ++ [.tube (summaryOf t { e with reason := .truncated })] := by
  have here : stageIs s c .settling = true := by rw [stageIs_of_tubeAt tube, settling]; rfl
  have marked : t.markTruncated.ended = some { e with reason := .truncated } := by rw [Tube.markTruncated, ended]; rfl
  unfold truncateSummary
  rw [if_pos here, modTube_some tube]
  unfold offerTube
  rw [tubeAt_putTube_same]
  simp only
  rw [marked]
  exact congrArg (fun x : State => x.mill.summaryQ) (offerSummary_room (s := putTube c (some t.markTruncated) s) room)

theorem truncateSummary_settled (settled : t.stage ≠ .settling) : truncateSummary c s = s := by
  refine if_neg ?_
  rw [stageIs_of_tubeAt tube, beq_iff_eq]
  exact settled

end

/-! ### The statement -/

/-- R45: an accepted frame that agrees with the presence state, with no reading pending and only one tube, ACTIVE: the rings it
closes are the whole of it beside the Pose Tracker. -/
theorem exec_positionFrame_closes {s : State} {f : PositionFrame} {c : Ctx} {t : Tube} (up : s.headPort.link = .up)
    (angle : f.angle.toNat ≤ 4095) (travel : f.travel.toNat ≤ 4000000)
    (later : ∀ y, newestSample s = some y → laterThan f.timestamp y.timestamp = true)
    (agrees : s.pose.presence.agrees f.present = true) (empty : s.pose.waiting = []) (active : activeCtx s = some c)
    (tube : tubeAt s c = some t) (free : tubeAt s (otherCtx c) = none) (idle : s.drain = none) :
    ∃ v, v.tubes = s.tubes ∧ v.wall = s.wall ∧ v.mill = s.mill ∧
      exec (.positionFrame f) s = .next (closeRingsByLead (sampleOf f) v) := by
  let joined := acceptSample (sampleOf f) (countHeadFrame s)
  let v := modPose (fun p => { p with runLength := 0, runFirst := none }) joined
  refine ⟨v, rfl, rfl, rfl, ?_⟩
  have accepted : acceptFrame (sampleOf f) (countHeadFrame s) = closeRingsByLead (sampleOf f) v := by
    have advanced : advancePresence (sampleOf f) joined = v := advancePresence_agrees (s := joined) agrees
    unfold acceptFrame resolveCovered
    rw [advanced, resolvePending_nil (s := v) empty]
  have stands := closeRingsByLead_reports (sampleOf f) v
  obtain ⟨x, hx, stage⟩ := activeCtx_some active
  obtain rfl : t = x := Option.some.inj (tube.symm.trans hx)
  have only (g : Stage) (other : g ≠ .active) (d : Ctx) : stageIs (closeRingsByLead (sampleOf f) v) d g = false := by
    rw [stands.stageIs]
    obtain rfl | rfl := Ctx.eq_or_other c d
    · rw [stageIs_of_tubeAt (s := v) tube, stage, beq_eq_false_iff_ne]
      exact other.symm
    · exact stageIs_of_free (s := v) free g
  rw [exec_positionFrame_accepted up angle travel later, accepted,
    examineBoth_of_quiet ⟨only _ (by decide) .a, only _ (by decide) .b⟩,
    examineDrain_idle (stands.drain.trans idle) (only _ (by decide))]

/-- Settles O25: one ring by its equation and its digest; the lead's rings as the next ones one after another; the highest bin
by the pool's entries; a truncation by its summary. -/
theorem ringsCloseInAscendingOrder : Obligations.RingsCloseInAscendingOrder := by
  refine ⟨fun s c t b time tube => ?_, fun s f c t => ?_,
    fun s c t b tube sectors law wf => ?_, fun s c t tube => ⟨fun e settling ended room => ?_, fun settled => ?_⟩⟩
  · intro r u
    obtain ⟨worst, hx⟩ := closeRing_tube tube b time
    obtain ⟨mill, events⟩ := closeRing_offers tube b time
    refine ⟨_, hx, rfl, rfl, rfl, rfl, ?_, fun none => ?_, fun zone filled => ?_, fun room => ?_, fun full => ?_⟩
    · obtain ⟨_, h⟩ := closeRing_eq tube b time
      exact (congrArg State.wall h).trans (offerSummary_wall _ s)
    · change t.digest ++ (digestOf (ringRecord s t b time)).toList = t.digest
      rw [digestOf_none s t b time none]
      exact List.append_nil _
    · obtain ⟨e, entry, figures⟩ := digestOf_body s t b time zone filled
      refine ⟨e, ?_, figures⟩
      change t.digest ++ (digestOf (ringRecord s t b time)).toList = t.digest ++ [e]
      rw [entry]
      rfl
    · rw [mill, events, offerSummary_room room]
      exact ⟨rfl, rfl⟩
    · rw [occurrences, mill, events, offerSummary_full full]
      refine ⟨(raise_noticeOnly _ _ _).summaryQ, ?_, ?_⟩
      · exact (occurrences_raise (by decide) ..).trans (if_pos rfl)
      · exact (raise_dropped _ _ _ (by decide)).trans (tableGet_tableMod_same ..)
  · intro passed up angle travel later agrees empty active tube heads free idle
    obtain ⟨v, tubes, wall, mill, outcome⟩ :=
      exec_positionFrame_closes up angle travel later agrees empty active tube free idle
    have hv : tubeAt v c = some t := by rw [tubeAt, tubes]; exact tube
    have active' : activeCtx v = some c := by rw [← active]; unfold activeCtx stageIs tubeAt; rw [tubes]
    obtain ⟨lead, leads⟩ := lead_some heads f.travel.toNat
    obtain ⟨k, iterate, closes, stop⟩ := closeRingsByLead_iterate active' hv (sampleOf f) leads
    obtain ⟨x, closed⟩ := closeNext_iterate hv f.timestamp k
    have passes (b : Nat) : leadPassed t b lead = true ↔ passed b := by
      rw [leadPassed, decide_eq_true_iff]
      exact le_lead_iff leads _
    obtain ⟨binsClosed, digest, worst, rfl⟩ := closed.same
    refine ⟨_, _, k, outcome.trans (congrArg _ iterate), closed.tube, ?_, rfl, fun b ge lt => ?_, fun within => ?_,
      closed.binsClosed, rfl, closed.reports.wall.trans wall, fun room => ?_⟩
    · obtain ⟨y, hy, stage⟩ := activeCtx_some active
      rw [Option.some.inj (tube.symm.trans hy)]
      exact stage
    · obtain ⟨within, led⟩ := closes b ge lt
      exact ⟨within, (passes b).mp led⟩
    · exact fun led => stop ⟨within, (passes _).mpr led⟩
    · refine (closed.queue (by rw [mill]; exact room)).trans ?_
      rw [mill]
      simp only [ringRecord_congr (congrArg WallMap.pool wall) (t := t) rfl rfl rfl]
  · rw [highestBin_eq, List.max?_eq_some_iff, mem_countedBins_iff tube sectors law wf]
    refine and_congr_right fun _ => forall_congr' fun d => ?_
    rw [mem_countedBins_iff tube sectors law wf]
    constructor
    · intro le above x mem
      by_contra counts
      exact Nat.not_lt.mpr (le ⟨x, mem, counts⟩) above
    · rintro none ⟨x, mem, counts⟩
      exact Nat.not_lt.mp fun above => counts (none above x mem)
  · rw [truncate_summaryQ tube, truncateSummary_settling tube settling ended room]
  · rw [truncate_summaryQ tube, truncateSummary_settled tube]
    obtain stage | stage := settled <;> rw [stage] <;> decide

end Sys2Proof.Machine
end

section
/-! Settle completion (R74 to R80, R104): the settle condition by its four parts, the figures of a tube's summary, and the
completion as rings, TUBE frame and drain, each by what it leaves. -/

namespace Sys2Proof.Machine

/-! ### The settle condition (R74) -/

theorem headWaitedFor_eq_false_iff (s : State) (time : Time) (h : LatchedHead) :
    headWaitedFor s time h = false ↔ (headStateOf s h.head = .active →
      ∃ last, (tableGet s.headPort.heads h.head).lastTimestamp = some last ∧ laterThan last time = true) := by
  simp only [headWaitedFor, headStateOf]
  cases (tableGet s.headPort.heads h.head).lastTimestamp <;> simp [laterThan]

theorem settleCondition_iff (s : State) (t : Tube) (time : Time) :
    settleCondition s t time = true ↔
      (∀ x ∈ s.traceQueue, notLater x.timestamp time = false) ∧
      (∀ ev, s.evaluator = some ev → laterThan ev.trace.timestamp time = true) ∧
      (∀ r ∈ s.pose.waiting, notLater r.timestamp time = false) ∧
      (∀ h ∈ t.heads, headStateOf s h.head = .active →
        ∃ last, (tableGet s.headPort.heads h.head).lastTimestamp = some last ∧ laterThan last time = true) := by
  have heads : (!t.heads.any (headWaitedFor s time)) = true ↔ ∀ h ∈ t.heads, headWaitedFor s time h = false := by
    rw [Bool.not_eq_true', List.any_eq_false]
    simp only [Bool.not_eq_true]
  simp only [headWaitedFor_eq_false_iff] at heads
  unfold settleCondition
  rw [Bool.and_eq_true, Bool.and_eq_true, Bool.and_eq_true, heads, List.all_eq_true, List.all_eq_true]
  cases s.evaluator <;> simp [laterThan, and_assoc]

/-! ### The figures of a summary (R79, R80) -/

/-- `d` is the element of `l` with the least key, at the least place where several share it. -/
def FirstBest {α : Type} (key : α → Int) (place : α → Nat) (l : List α) (d : α) : Prop :=
  d ∈ l ∧ ∀ x ∈ l, key d ≤ key x ∧ (key x = key d → place d ≤ place x)

/-- A run that keeps the better element ends at the first best one of a list in ascending places. -/
theorem foldl_firstBest {α : Type} {better : α → α → Bool} {key : α → Int} {place : α → Nat}
    (better_iff : ∀ x y, better x y = true ↔ key x < key y) (first : α) (l : List α)
    (ascending : ((first :: l).map place).Pairwise (· < ·)) :
    FirstBest key place (first :: l) (l.foldl (fun best x => if better x best then x else best) first) := by
  induction l generalizing first with
  | nil => exact ⟨List.mem_cons_self, by simp⟩
  | cons y rest ih =>
    rw [List.map_cons, List.map_cons, List.pairwise_cons, List.pairwise_cons] at ascending
    obtain ⟨fromFirst, fromSecond, tail⟩ := ascending
    have before : place first < place y := fromFirst _ List.mem_cons_self
    rw [List.foldl_cons]
    by_cases beats : better y first = true
    · rw [if_pos beats]
      obtain ⟨mem, best⟩ := ih y (List.pairwise_cons.mpr ⟨fromSecond, tail⟩)
      have less := (better_iff y first).mp beats
      have least := (best y List.mem_cons_self).1
      exact ⟨List.mem_cons_of_mem _ mem, List.forall_mem_cons.mpr ⟨⟨by omega, fun _ => by omega⟩, best⟩⟩
    · rw [if_neg beats]
      obtain ⟨mem, best⟩ := ih first
        (List.pairwise_cons.mpr ⟨fun p hp => fromFirst p (List.mem_cons_of_mem _ hp), tail⟩)
      obtain ⟨ofFirst, ofRest⟩ := List.forall_mem_cons.mp best
      have least := mt (better_iff y first).mpr beats
      refine ⟨List.cons_subset_cons _ (List.subset_cons_self ..) mem,
        List.forall_mem_cons.mpr ⟨ofFirst, List.forall_mem_cons.mpr ⟨⟨by omega, fun same => ?_⟩, ofRest⟩⟩⟩
      have := ofFirst.2 (by omega)
      omega

theorem extremeRing_firstBest {better : DigestEntry → DigestEntry → Bool} {key : DigestEntry → Int}
    (better_iff : ∀ x y, better x y = true ↔ key x < key y) {l : List DigestEntry} (some : l ≠ [])
    (ascending : (l.map DigestEntry.bin).Pairwise (· < ·)) :
    ∃ d, extremeRing better l = Option.some d ∧ FirstBest key DigestEntry.bin l d := by
  cases l with
  | nil => exact absurd rfl some
  | cons e rest => exact ⟨_, rfl, foldl_firstBest better_iff e rest ascending⟩

theorem extreme_firstBest {better : Nat → Nat → Bool} {key : Nat → Int}
    (better_iff : ∀ x y, better x y = true ↔ key x < key y) {l : List (Nat × Nat)} (some : l ≠ [])
    (ascending : (l.map Prod.snd).Pairwise (· < ·)) :
    ∃ d, extreme better l = Option.some d ∧ FirstBest (fun p => key p.1) Prod.snd l d := by
  cases l with
  | nil => exact absurd rfl some
  | cons p rest =>
    exact ⟨_, rfl, foldl_firstBest (better := fun x y => better x.1 y.1) (fun x y => better_iff x.1 y.1) p rest ascending⟩

theorem mem_eccentricities_iff (body : List DigestEntry) (v bin : Nat) :
    (v, bin) ∈ eccentricities body ↔ ∃ d ∈ body, d.eccentricity = some v ∧ d.bin = bin := by
  simp [eccentricities, List.mem_filterMap]

theorem eccentricities_ascending {body : List DigestEntry} (ascending : (body.map DigestEntry.bin).Pairwise (· < ·)) :
    ((eccentricities body).map Prod.snd).Pairwise (· < ·) := by
  rw [List.pairwise_map] at ascending ⊢
  refine ascending.filterMap _ fun d d' less p hp p' hp' => ?_
  obtain ⟨v, -, rfl⟩ := Option.map_eq_some_iff.mp hp
  obtain ⟨v', -, rfl⟩ := Option.map_eq_some_iff.mp hp'
  exact less

/-- R80: the body statistics over the digest entries below the tail boundary bin. -/
theorem bodyStats_spec (t : Tube) (tail : Nat) (ascending : (t.digest.map DigestEntry.bin).Pairwise (· < ·)) :
    let m := bodyStats t tail
    let body := t.digest.filter (fun d => decide (d.bin < tail))
    m.count = body.length ∧ (body = [] → m.mean = none ∧ m.min = none ∧ m.max = none) ∧
    (body ≠ [] →
      m.mean = some (roundHalfUp (body.map DigestEntry.mean).sum body.length) ∧
      (∃ d ∈ body, m.min = some (d.min, d.bin, d.minSector) ∧
        ∀ x ∈ body, d.min ≤ x.min ∧ (x.min = d.min → d.bin ≤ x.bin)) ∧
      (∃ d ∈ body, m.max = some (d.max, d.bin, d.maxSector) ∧
        ∀ x ∈ body, x.max ≤ d.max ∧ (x.max = d.max → d.bin ≤ x.bin))) ∧
    ((∀ d ∈ body, d.eccentricity = none) → m.maxEccentricity = none) ∧
    ((∃ d ∈ body, d.eccentricity ≠ none) →
      ∃ d ∈ body, ∃ v, d.eccentricity = some v ∧ m.maxEccentricity = some (v, d.bin) ∧
        ∀ x ∈ body, ∀ w, x.eccentricity = some w → w ≤ v ∧ (w = v → d.bin ≤ x.bin)) := by
  intro m body
  have places : (body.map DigestEntry.bin).Pairwise (· < ·) := ascending.sublist (List.filter_sublist.map _)
  refine ⟨rfl, fun empty => ?_, fun some => ⟨if_neg some, ?_, ?_⟩, fun none => ?_, fun ⟨d, mem, has⟩ => ?_⟩
  · exact ⟨if_pos empty,
      congrArg (fun l => (extremeRing (fun x y => decide (x.min < y.min)) l).map
        fun d : DigestEntry => (d.min, d.bin, d.minSector)) empty,
      congrArg (fun l => (extremeRing (fun x y => decide (y.max < x.max)) l).map
        fun d : DigestEntry => (d.max, d.bin, d.maxSector)) empty⟩
  · obtain ⟨d, extreme, mem, best⟩ := extremeRing_firstBest (better := fun x y => decide (x.min < y.min))
      (key := fun x => x.min) (fun x y => by simp) some places
    exact ⟨d, mem, congrArg (Option.map _) extreme, fun x hx => by have := best x hx; simp only at this; omega⟩
  · obtain ⟨d, extreme, mem, best⟩ := extremeRing_firstBest (better := fun x y => decide (y.max < x.max))
      (key := fun x => -x.max) (fun x y => by simp) some places
    exact ⟨d, mem, congrArg (Option.map _) extreme, fun x hx => by have := best x hx; simp only at this; omega⟩
  · have empty : eccentricities body = [] := List.filterMap_eq_nil_iff.mpr fun d hd => by rw [none d hd]; rfl
    exact congrArg (extreme fun x y => decide (y < x)) empty
  · obtain ⟨v, hv⟩ := Option.ne_none_iff_exists'.mp has
    have listed := (mem_eccentricities_iff body v d.bin).mpr ⟨d, mem, hv, rfl⟩
    obtain ⟨⟨w, bin⟩, greatest, among, best⟩ := extreme_firstBest (better := fun x y => decide (y < x)) (key := fun x => -x)
      (fun x y => by simp) (List.ne_nil_of_mem listed) (eccentricities_ascending places)
    obtain ⟨e, he, hw, rfl⟩ := (mem_eccentricities_iff body w bin).mp among
    refine ⟨e, he, w, hw, greatest, fun x hx z hz => ?_⟩
    have := best _ ((mem_eccentricities_iff body z x.bin).mpr ⟨x, hx, hz, rfl⟩)
    simp only at this
    omega

/-! ### The rings that remain (R104) -/

theorem closeUpTo_iterate {s : State} {c : Ctx} {t : Tube} (tube : tubeAt s c = some t) (time : Time) (n : Nat)
    (fits : ∀ i < n, t.nextRing + i < ringLimit t) : closeUpTo c time n s = (closeNext c time)^[n] s := by
  induction n generalizing s t with
  | zero => rfl
  | succ n ih =>
    obtain ⟨x, first⟩ := closeNext_iterate tube time 1
    rw [Function.iterate_one] at first
    obtain ⟨closed, digest, worst, rfl⟩ := first.same
    have one : closeNext c time s = closeRing c t.nextRing time s := closeNext_some tube time
    unfold closeUpTo
    rw [tube]
    rw [Function.iterate_succ_apply, ← ih first.tube fun i hi => ?_]
    · exact (if_pos (fits 0 (Nat.succ_pos n))).trans (by rw [← one])
    · have := fits (i + 1) (Nat.succ_lt_succ hi)
      change t.nextRing + 1 + i < ringLimit t
      omega

/-- `n` is the number of rings that settle completion closes (R104). -/
def RingsLeft (s : State) (t : Tube) (n : Nat) : Prop :=
  (highestBin s t = none → n = 0) ∧ ∀ b, highestBin s t = some b → b < ringLimit t ∧ n = b + 1 - t.nextRing

theorem closeRemaining_iterate {s : State} {c : Ctx} {t : Tube} {e : TubeEnd} {n : Nat} (tube : tubeAt s c = some t)
    (ended : t.ended = some e) (left : RingsLeft s t n) : closeRemaining c s = (closeNext c e.time)^[n] s := by
  obtain ⟨none, some⟩ := left
  unfold closeRemaining
  rw [tube]
  simp only
  rw [ended]
  cases highest : highestBin s t with
  | none => rw [none highest]; rfl
  | some b =>
    obtain ⟨below, rfl⟩ := some b highest
    exact closeUpTo_iterate tube e.time _ fun i hi => by omega

theorem highestBin_congr {s u : State} {t x : Tube} (wall : u.wall = s.wall) (directory : x.directory = t.directory)
    (setup : x.setup = t.setup) : highestBin u x = highestBin s t := by
  unfold highestBin
  rw [wall, directory, setup]

/-! ### Settle completion with a full MAP class queue (R77, R78, R96) -/

theorem offerTube_ended {s : State} {c : Ctx} {x : Tube} {e : TubeEnd} (tube : tubeAt s c = some x)
    (ended : x.ended = some e) : offerTube c s = offerSummary (.tube (summaryOf x e)) s := by
  unfold offerTube
  rw [tube]
  simp only
  rw [ended]

/-- R77: the tube whose settling is complete, the Drain Engine waiting on it. -/
def drainsNext (c : Ctx) (y : Tube) (v : State) : State :=
  (putTube c (some { y with stage := .draining, settleEntry := none }) v).setDrain
    (some { ctx := c, cursor := 0, sent := 0, waiting := true })

theorem completeSettling_full {s v : State} {c : Ctx} {y : Tube} (offered : offerTube c (closeRemaining c s) = v)
    (tube : tubeAt v c = some y) (free : tubeAt v (otherCtx c) = none) (idle : v.drain = none)
    (full : v.mill.mapQ.length = 4) : completeSettling c s = drainsNext c y v := by
  unfold completeSettling
  rw [offered, modTube_some tube, examineDrain_full (s := putTube c _ v) idle (tubeAt_putTube_same ..) rfl full]
  · simp [drainsNext, putTube, State.setTubes, State.setDrain]
  · rw [stageIs_putTube_other, stageIs_of_free free]
    exact fun h => absurd h Bool.false_ne_true

/-- R77 to R79, R95, R96, R104: from `s` to `u` the SETTLING tube `t` of context `c` has closed its `n` rings, sent its TUBE
frame and is `x`, DRAINING. -/
structure SettlingDone (c : Ctx) (e : TubeEnd) (n : Nat) (s : State) (t : Tube) (u : State) (x : Tube) : Prop where
  tube : tubeAt u c = some x
  free : tubeAt u (otherCtx c) = none
  stage : x.stage = .draining
  settleEntry : x.settleEntry = none
  ended : x.ended = some e
  directory : x.directory = t.directory
  nextRing : x.nextRing = t.nextRing + n
  binsClosed : x.binsClosed = if n = 0 then t.binsClosed else min 65535 (t.binsClosed + n)
  drain : u.drain = some { ctx := c, cursor := 0, sent := 0, waiting := true }
  wall : u.wall = s.wall
  queue : s.mill.summaryQ.length + n < 32 → u.mill.summaryQ = s.mill.summaryQ ++
    (List.range' t.nextRing n).map (fun b => .ring (ringRecord s t b e.time)) ++ [.tube (summaryOf x e)]

section
variable {s : State} {c : Ctx} {t : Tube} {e : TubeEnd} {n : Nat} (tube : tubeAt s c = some t) (ended : t.ended = some e)
  (free : tubeAt s (otherCtx c) = none) (idle : s.drain = none) (full : s.mill.mapQ.length = 4)
include tube ended free idle full

theorem completeSettling_done (left : RingsLeft s t n) :
    (∃ x, SettlingDone c e n s t (completeSettling c s) x) ∧
      ∀ k, k ≠ .summaryLost → k ≠ .noticeLost → occurrences (completeSettling c s) k = occurrences s k := by
  obtain ⟨x, closed⟩ := closeNext_iterate tube e.time n
  have remaining := closeRemaining_iterate tube ended left
  generalize (closeNext c e.time)^[n] s = u at closed remaining
  obtain ⟨hended, directory, nextRing⟩ : x.ended = some e ∧ x.directory = t.directory ∧ x.nextRing = t.nextRing + n := by
    obtain ⟨_, _, _, rfl⟩ := closed.same
    exact ⟨ended, rfl, rfl⟩
  obtain ⟨worst, hy⟩ := offerSummary_tube (.tube (summaryOf x e)) closed.tube
  have whole := closed.reports.trans (offerSummary_reports (.tube (summaryOf x e)) u)
  have done := completeSettling_full ((congrArg _ remaining).trans (offerTube_ended closed.tube hended)) hy
    (whole.free _ free) (whole.drain.trans idle) (by rw [whole.mapQ]; exact full)
  rw [done]
  refine ⟨⟨_, { tube := tubeAt_putTube_same .., free := (tubeAt_putTube_other ..).trans (whole.free _ free), stage := rfl,
                settleEntry := rfl, ended := hended, directory := directory, nextRing := nextRing,
                binsClosed := closed.binsClosed, drain := rfl, wall := whole.wall, queue := fun room => ?_ }⟩,
    fun k summary notice => (occurrences_offerSummary _ u summary notice).trans (closed.counts k summary notice)⟩
  have queue := closed.queue (by omega)
  have fits : u.mill.summaryQ.length < 32 := by rw [queue]; simpa using room
  rw [offerSummary_room fits] at hy ⊢
  obtain rfl : x.worstSeen = worst := congrArg Tube.worstSeen (Option.some.inj (closed.tube.symm.trans hy))
  exact congrArg (· ++ [_]) queue

/-- R78: where no ring is left and there is room, the TUBE frame and the drain are all that settle completion adds. -/
theorem completeSettling_room (left : RingsLeft s t 0) (room : s.mill.summaryQ.length < 32) :
    completeSettling c s =
      drainsNext c t (s.setMill { s.mill with summaryQ := s.mill.summaryQ ++ [.tube (summaryOf t e)] }) := by
  have remaining : closeRemaining c s = s := closeRemaining_iterate tube ended left
  have offered := (offerTube_ended tube ended).trans (offerSummary_room room)
  exact completeSettling_full (by rw [remaining, offered]) tube free idle full

end

/-! ### The commands that complete settling (R75, R76) -/

theorem SettlingDone.quiet {c : Ctx} {e : TubeEnd} {n : Nat} {s u : State} {t x : Tube} (done : SettlingDone c e n s t u x) :
    Quiet u := by
  have own : Machine.stageIs u c .settling = false := by rw [stageIs_of_tubeAt done.tube, done.stage]; rfl
  have other : Machine.stageIs u (otherCtx c) .settling = false := stageIs_of_free done.free _
  cases c
  · exact ⟨own, other⟩
  · exact ⟨other, own⟩

/-- What settling completes is the same from a state that differs by a NOTICE and by the worst condition seen. -/
theorem SettlingDone.of_noticeOnly {c : Ctx} {e : TubeEnd} {n : Nat} {s v u : State} {t x : Tube} {w : Condition}
    (done : SettlingDone c e n v { t with worstSeen := w } u x) (only : NoticeOnly s v) (wall : v.wall = s.wall) :
    SettlingDone c e n s t u x := by
  refine { done with wall := done.wall.trans wall, queue := fun room => ?_ }
  have queue := done.queue (by rw [only.summaryQ]; exact room)
  have records (b : Nat) : ringRecord v { t with worstSeen := w } b e.time = ringRecord s t b e.time :=
    ringRecord_congr (congrArg _ wall) rfl rfl rfl b e.time
  simpa only [only.summaryQ, records] using queue

theorem settleDue_of {s : State} {c : Ctx} {t : Tube} {m : Time} (tube : tubeAt s c = some t) (settling : t.stage = .settling)
    (entry : t.settleEntry = some m) (due : s.agent.timing.settle * 1000 ≤ (s.headPort.partTime - m).toNat) :
    settleDue s c = true := by
  unfold settleDue
  rw [tube]
  simp only
  rw [settling, entry]
  exact decide_eq_true due

theorem examineSettle_completes {s : State} {c : Ctx} {t : Tube} {e : TubeEnd} (tube : tubeAt s c = some t)
    (settling : t.stage = .settling) (ended : t.ended = some e) (settled : settleCondition s t e.time = true) :
    examineSettle c s = completeSettling c s := by
  unfold examineSettle
  rw [tube]
  simp only
  rw [settling, ended]
  exact if_pos settled

theorem examineSettle_of_free {s : State} {c : Ctx} (free : tubeAt s c = none) : examineSettle c s = s :=
  examineSettle_of_not_settling (stageIs_of_free free _)

/-- Where the other context is FREE, settle completion is what this context's tube does. -/
theorem examineBoth_alone {s : State} {c : Ctx} (free : tubeAt s (otherCtx c) = none)
    (freeAfter : tubeAt (examineSettle c s) (otherCtx c) = none) : examineBoth s = examineSettle c s := by
  obtain ⟨d, both⟩ := examineBoth_eq s
  rw [both]
  obtain rfl | rfl := Ctx.eq_or_other c d
  · exact examineSettle_of_free freeAfter
  · rw [examineSettle_of_free free, otherCtx_otherCtx]

section
variable {s : State} {c : Ctx} {t : Tube} {e : TubeEnd} {n : Nat} (tube : tubeAt s c = some t)
  (settling : t.stage = .settling) (ended : t.ended = some e)
  (free : tubeAt s (otherCtx c) = none) (idle : s.drain = none) (full : s.mill.mapQ.length = 4) (left : RingsLeft s t n)
include tube settling ended free idle full left

theorem exec_settleCompletion_completes (settled : settleCondition s t e.time = true) :
    exec .settleCompletion s = .next (completeSettling c s) := by
  obtain ⟨⟨x, done⟩, -⟩ := completeSettling_done tube ended free idle full left
  have completes := examineSettle_completes tube settling ended settled
  rw [← completes]
  exact congrArg _ (examineBoth_alone free (completes ▸ done.free))

/-- R76: at the settle limit SETTLE_TIMEOUT occurs, then settling completes whatever the settle condition says. -/
theorem exec_settleLimit_completes {m : Time} (entry : t.settleEntry = some m)
    (due : s.agent.timing.settle * 1000 ≤ (s.headPort.partTime - m).toNat) (waiting : s.pose.waiting = []) :
    ∃ (u : State) (x : Tube), exec (.settleLimitExpiry c) s = .next u ∧ SettlingDone c e n s t u x ∧
      occurrences u .settleTimeout = min 65535 (occurrences s .settleTimeout + 1) := by
  let v := raise .settleTimeout (.tube t.id) s
  have only : NoticeOnly s v := raise_noticeOnly _ _ s
  have raised : Standing tubeKinds s v := raise_standing (by decide) noticeLost_notMem_tubeKinds _ s
  have wall : v.wall = s.wall := raise_wall ..
  obtain ⟨w, hy⟩ := only.tube tube
  have left' : RingsLeft v { t with worstSeen := w } n := by
    unfold RingsLeft
    rw [highestBin_congr wall rfl rfl]
    exact left
  obtain ⟨⟨x, done⟩, counts⟩ := completeSettling_done hy ended (raised.free _ free) (raised.drain.trans idle)
    (by rw [raised.mapQ]; exact full) left'
  have expired : expireSettle c s = completeSettling c v := by
    unfold expireSettle
    rw [tube]
    simp only
    rw [ended]
    simp only
    rw [resolvePending_nil ((congrArg _ (raise_pose ..)).trans waiting)]
    exact if_pos (settleDue_of tube settling entry due)
  have outcome : exec (.settleLimitExpiry c) s = .next (completeSettling c v) := by
    rw [← examineBoth_of_quiet done.quiet, ← expired]
    exact if_pos (settleDue_of tube settling entry due)
  refine ⟨_, x, outcome, done.of_noticeOnly only wall, ?_⟩
  rw [counts _ (by decide) (by decide), occurrences_raise (by decide), if_pos rfl]

end

/-! ### The obligation -/

/-- Settles O40: the summary by `bodyStats_spec`, the condition by its parts, and both completing commands by
`completeSettling_done`. -/
theorem settlingCompletes : Obligations.SettlingCompletes := by
  unfold Obligations.SettlingCompletes
  refine ⟨fun t e ascending => ?_, settleCondition_iff, fun s c t e n => ?_⟩
  · exact ⟨⟨rfl, rfl, rfl, rfl, rfl, rfl, rfl, rfl, rfl, rfl, rfl, rfl, rfl⟩, rfl,
      bodyStats_spec t (tailBin t e.length) ascending⟩
  · intro closed tube settling ended free idle full none some
    have left : RingsLeft s t n := ⟨none, some⟩
    have closes (u : State) (x : Tube) (done : SettlingDone c e n s t u x) : closed u x :=
      ⟨done.tube, done.stage, done.settleEntry, done.ended, done.directory, done.nextRing, done.binsClosed, done.drain,
        done.wall, done.queue⟩
    refine ⟨fun settled => ?_, fun settled hn room => ?_, fun m entry due waiting => ?_⟩
    · obtain ⟨⟨x, done⟩, -⟩ := completeSettling_done tube ended free idle full left
      exact ⟨_, x, exec_settleCompletion_completes tube settling ended free idle full left settled, closes _ _ done⟩
    · subst hn
      rw [exec_settleCompletion_completes tube settling ended free idle full left settled,
        completeSettling_room tube ended free idle full left room]
      rfl
    · obtain ⟨u, x, outcome, done, count⟩ :=
        exec_settleLimit_completes tube settling ended free idle full left entry due waiting
      exact ⟨u, x, outcome, closes u x done, count⟩

end Sys2Proof.Machine
end

section
/-! The bytes of sent frames (R176, R177): numbers most significant byte first, and payloads as lists of fields, each with its
size and its number, so that what stands at an offset is read off the list. -/

namespace Sys2Proof.Machine

/-! ### Numbers (R177) -/

@[simp] theorem bigEndian_length (size n : Nat) : (bigEndian size n).length = size := by
  induction size with
  | zero => rfl
  | succ size ih => exact congrArg Nat.succ ih

@[simp] theorem num_length (size n : Nat) : (num size n).length = size := by
  unfold num
  split <;> exact bigEndian_length ..

theorem num_of_lt {size n : Nat} (fits : n < 256 ^ size) : num size n = bigEndian size n := if_pos fits

/-- R177: the number that bytes carry, most significant first. -/
theorem foldl_bigEndian (size n v : Nat) :
    (bigEndian size n).foldl (fun v x => 256 * v + x.toNat) v = 256 ^ size * v + n % 256 ^ size := by
  induction size generalizing v with
  | zero => simp [bigEndian, Nat.mod_one]
  | succ size ih =>
    rw [bigEndian, List.foldl_cons, ih, Nat.mod_pow_succ, BitVec.toNat_ofNat]
    ring

theorem bitVec_append_toNat {m n : Nat} (x : BitVec m) (y : BitVec n) : (x ++ y).toNat = x.toNat * 2 ^ n + y.toNat := by
  rw [BitVec.toNat_append, ← Nat.shiftLeft_add_eq_or_of_lt y.isLt, Nat.shiftLeft_eq]

theorem num_one {n : Nat} (fits : n < 256) : num 1 n = [BitVec.ofNat 8 n] := by
  rw [num_of_lt (by simpa using fits)]
  simp [bigEndian]

theorem num_byte (x : Byte) : num 1 x.toNat = [x] := by rw [num_one x.isLt, BitVec.ofNat_toNat, BitVec.setWidth_eq]

theorem bigEndian_two (n : Nat) : bigEndian 2 n = [BitVec.ofNat 8 (n / 256), BitVec.ofNat 8 n] := by simp [bigEndian]

theorem append_of_word (w : BitVec 16) : BitVec.ofNat 8 (w.toNat / 256) ++ BitVec.ofNat 8 w.toNat = w := by
  apply BitVec.eq_of_toNat_eq
  rw [bitVec_append_toNat, BitVec.toNat_ofNat, BitVec.toNat_ofNat]
  omega

theorem num_word (w : BitVec 16) : num 2 w.toNat = [BitVec.ofNat 8 (w.toNat / 256), BitVec.ofNat 8 w.toNat] := by
  rw [num_of_lt w.isLt, bigEndian_two]

theorem num_append (x y : Byte) : num 2 (x ++ y).toNat = [x, y] := by
  have hx := x.isLt
  have hy := y.isLt
  rw [num_word, bitVec_append_toNat]
  congr 2
  · exact BitVec.eq_of_toNat_eq (by rw [BitVec.toNat_ofNat]; omega)
  · exact BitVec.eq_of_toNat_eq (by rw [BitVec.toNat_ofNat]; omega)

theorem num_long (t : BitVec 32) : num 4 t.toNat = [BitVec.ofNat 8 (t.toNat / 16777216), BitVec.ofNat 8 (t.toNat / 65536),
    BitVec.ofNat 8 (t.toNat / 256), BitVec.ofNat 8 t.toNat] := by
  rw [num_of_lt t.isLt]
  simp [bigEndian]

theorem append_of_long (t : BitVec 32) :
    (BitVec.ofNat 8 (t.toNat / 16777216) ++ BitVec.ofNat 8 (t.toNat / 65536) : BitVec 16) ++
      (BitVec.ofNat 8 (t.toNat / 256) ++ BitVec.ofNat 8 t.toNat : BitVec 16) = t := by
  apply BitVec.eq_of_toNat_eq
  simp only [bitVec_append_toNat, BitVec.toNat_ofNat]
  omega

/-- R177: two's complement is the number of the word that the signed number makes. -/
theorem signedNum_four (i : Int) : signedNum 4 i = num 4 (BitVec.ofInt 32 i).toNat := by
  rw [num_of_lt (BitVec.ofInt 32 i).isLt, BitVec.toNat_ofInt]
  rfl

/-! ### Flag bytes -/

theorem yesNo_le_one (b : Bool) : yesNo b ≤ 1 := by cases b <;> decide

theorem bitsOf_lt (l : List Bool) : bitsOf l < 2 ^ l.length := by
  induction l with
  | nil => decide
  | cons b rest ih =>
    have := yesNo_le_one b
    rw [bitsOf, List.length_cons, Nat.pow_succ]
    omega

theorem bitsOf_testBit (l : List Bool) (i : Nat) : (bitsOf l).testBit i = l.getD i false := by
  induction l generalizing i with
  | nil => simp [bitsOf]
  | cons b rest ih =>
    cases i with
    | zero => cases b <;> simp [bitsOf, yesNo, Nat.testBit_zero]
    | succ i =>
      have half : (yesNo b + 2 * bitsOf rest) / 2 = bitsOf rest := by
        have := yesNo_le_one b
        omega
      rw [bitsOf, Nat.testBit_succ, half, ih]
      rfl

/-! ### Lists of fields -/

/-- The bytes of fields, each given by its size and its number. -/
def layout (fs : List (Nat × Nat)) : List Byte := fs.flatMap fun f => num f.1 f.2

/-- The number of bytes of the first `i` fields: where field `i` starts. -/
def fieldStart (fs : List (Nat × Nat)) (i : Nat) : Nat := ((fs.take i).map Prod.fst).sum

/-- The number of bytes of all the fields. -/
def width (fs : List (Nat × Nat)) : Nat := (fs.map Prod.fst).sum

@[simp] theorem layout_nil : layout [] = [] := rfl

@[simp] theorem layout_cons (f : Nat × Nat) (fs : List (Nat × Nat)) : layout (f :: fs) = num f.1 f.2 ++ layout fs := rfl

@[simp] theorem layout_append (fs gs : List (Nat × Nat)) : layout (fs ++ gs) = layout fs ++ layout gs :=
  List.flatMap_append ..

@[simp] theorem layout_flatMap {α : Type} (l : List α) (g : α → List (Nat × Nat)) :
    layout (l.flatMap g) = l.flatMap fun x => layout (g x) := List.flatMap_assoc ..

@[simp] theorem width_nil : width [] = 0 := rfl

@[simp] theorem width_cons (f : Nat × Nat) (fs : List (Nat × Nat)) : width (f :: fs) = f.1 + width fs := by simp [width]

@[simp] theorem width_append (fs gs : List (Nat × Nat)) : width (fs ++ gs) = width fs + width gs := by simp [width]

theorem width_flatMap {α : Type} {w : Nat} {g : α → List (Nat × Nat)} (each : ∀ x, width (g x) = w) (l : List α) :
    width (l.flatMap g) = w * l.length := by
  induction l with
  | nil => rfl
  | cons x rest ih => rw [List.flatMap_cons, width_append, each, ih, List.length_cons]; ring

@[simp] theorem layout_length (fs : List (Nat × Nat)) : (layout fs).length = width fs := by
  induction fs with
  | nil => rfl
  | cons f fs ih => simp [ih]

/-- The fields stand in the bytes from offset `p` on. -/
def LaidOut (fs : List (Nat × Nat)) (b : List Byte) (p : Nat) : Prop := layout fs <+: b.drop p

theorem laidOut_append (fs : List (Nat × Nat)) (rest : List Byte) : LaidOut fs (layout fs ++ rest) 0 := ⟨rest, rfl⟩

theorem laidOut_layout (fs : List (Nat × Nat)) : LaidOut fs (layout fs) 0 := List.prefix_rfl

/-- Bytes that are the layout of fields have the fields' width and hold each at its offset. -/
theorem laidOut_of_eq {fs : List (Nat × Nat)} {b : List Byte} (h : b = layout fs) : b.length = width fs ∧ LaidOut fs b 0 :=
  h ▸ ⟨layout_length fs, laidOut_layout fs⟩

namespace LaidOut

variable {fs gs : List (Nat × Nat)} {b : List Byte} {p : Nat}

theorem left (h : LaidOut (fs ++ gs) b p) : LaidOut fs b p := by
  unfold LaidOut at h
  rw [layout_append] at h
  exact (List.prefix_append ..).trans h

theorem right (h : LaidOut (fs ++ gs) b p) {q : Nat} (place : p + width fs = q := by simp +arith) : LaidOut gs b q := by
  subst place
  obtain ⟨rest, h⟩ := h
  refine ⟨rest, ?_⟩
  rw [← List.drop_drop, ← h, layout_append, List.append_assoc, ← layout_length fs, List.drop_left]

/-- In a repeated part, the fields of item `i` stand at `i` times the width of an item. -/
theorem item {α : Type} {g : α → List (Nat × Nat)} {w : Nat} {l : List α} (h : LaidOut (l.flatMap g) b p)
    (each : ∀ x, width (g x) = w) {i : Nat} {x : α} (at_i : l[i]? = some x) : LaidOut (g x) b (p + w * i) := by
  obtain ⟨less, rfl⟩ := List.getElem?_eq_some_iff.mp at_i
  have split : l.flatMap g = (l.take i).flatMap g ++ (g l[i] ++ (l.drop (i + 1)).flatMap g) := by
    rw [← List.flatMap_cons, List.getElem_cons_drop, ← List.flatMap_append, List.take_append_drop]
  rw [split] at h
  have part := (h.right rfl).left
  rw [width_flatMap each, List.length_take, Nat.min_eq_left (le_of_lt less)] at part
  exact part

variable {i o size n : Nat} (h : LaidOut fs b p)
include h

theorem field (at_i : fs[i]? = some (size, n)) (offset : p + fieldStart fs i = o) : num size n <+: b.drop o := by
  obtain ⟨less, here⟩ := List.getElem?_eq_some_iff.mp at_i
  rw [← List.take_append_drop i fs, ← List.getElem_cons_drop less, here] at h
  have part := h.right offset
  exact (List.prefix_append ..).trans part

theorem bytes (at_i : fs[i]? = some (size, n)) (offset : p + fieldStart fs i = o) (j : Nat) (inside : j < size) :
    byteAt b (o + j) = byteAt (num size n) j := by
  obtain ⟨rest, h⟩ := h.field at_i offset
  have : byteAt (b.drop o) j = byteAt b (o + j) := by simp [byteAt, List.getD]
  rw [← this, ← h]
  simp [byteAt, List.getD, List.getElem?_append, inside]

theorem carries (i : Nat) (at_i : fs[i]? = some (size, n) := by rfl)
    (offset : p + fieldStart fs i = o := by simp +arith [fieldStart]) : Carries b o size n := by
  intro fits
  obtain ⟨rest, h⟩ := h.field at_i offset
  rw [← h, List.take_left' (num_length ..), num_of_lt fits, foldl_bigEndian, Nat.mod_eq_of_lt fits]
  simp

theorem byte (i : Nat) {x : Byte} (at_i : fs[i]? = some (1, x.toNat) := by rfl)
    (offset : p + fieldStart fs i = o := by simp +arith [fieldStart]) :
    byteAt b o = x := by
  rw [← Nat.add_zero o, h.bytes at_i offset 0 one_pos, num_byte]
  rfl

theorem word (i : Nat) {x : BitVec 16} (at_i : fs[i]? = some (2, x.toNat) := by rfl)
    (offset : p + fieldStart fs i = o := by simp +arith [fieldStart]) :
    wordAt b o = x := by
  have bytes := h.bytes at_i offset
  rw [num_word] at bytes
  exact (congrArg₂ (· ++ ·) (bytes 0 (by decide)) (bytes 1 (by decide))).trans (append_of_word x)

theorem long (i : Nat) {x : BitVec 32} (at_i : fs[i]? = some (4, x.toNat) := by rfl)
    (offset : p + fieldStart fs i = o := by simp +arith [fieldStart]) :
    longAt b o = x := by
  have bytes := h.bytes at_i offset
  rw [num_long] at bytes
  have high : wordAt b o = _ := congrArg₂ (· ++ ·) (bytes 0 (by decide)) (bytes 1 (by decide))
  have low : wordAt b (o + 2) = _ := congrArg₂ (· ++ ·) (bytes 2 (by decide)) (bytes 3 (by decide))
  exact (congrArg₂ (· ++ ·) high low).trans (append_of_long x)

theorem bits (i : Nat) {l : List Bool} (at_i : fs[i]? = some (1, bitsOf l) := by rfl)
    (offset : p + fieldStart fs i = o := by simp +arith [fieldStart])
    (eight : l.length = 8 := by rfl) : CarriesBits b o l := by
  intro j x hx
  obtain ⟨less, -⟩ := List.getElem?_eq_some_iff.mp hx
  have fits := bitsOf_lt l
  rw [eight] at fits less
  rw [← Nat.add_zero o, h.bytes at_i offset 0 one_pos, num_one fits]
  change (BitVec.ofNat 8 (bitsOf l)).getLsbD j = x
  rw [BitVec.getLsbD_ofNat, bitsOf_testBit, decide_eq_true less, Bool.true_and, List.getD, hx]
  rfl

end LaidOut

end Sys2Proof.Machine
end

section
/-! The payloads of sent frames as lists of fields (R177 to R182), each tied to the model's bytes, and the layouts read
off them. -/

namespace Sys2Proof.Machine

theorem getD_toNat {w : Nat} (o : Option (BitVec w)) : (o.map BitVec.toNat).getD 0 = (o.getD 0).toNat := by
  cases o <;> simp

/-! ### READING and MIRROR -/

/-- R181: the fields of a READING payload. -/
abbrev Reading.fields (r : Reading) : List (Nat × Nat) :=
  [(1, r.head.val), (2, r.sequence.toNat), (4, r.timestamp.toNat), (4, r.generation), (1, r.outcome.code.val),
   (1, r.flags.byte), (1, r.presence), (4, (BitVec.ofInt 32 (r.delta.getD 0)).toNat), (2, r.echo1.getD 0),
   (2, r.echo2.getD 0), (2, r.echo3.getD 0), (2, r.temperature), (2, r.velocity), (2, r.thickness.getD 0),
   (1, (r.placement.map fun p => p.code.val).getD 255), (1, r.sector.getD 0), (4, r.bin.getD 0), (2, (r.tubeId.getD 0).toNat)]

theorem placementCode_eq (o : Option Placement) : placementCode o = (o.map fun p => p.code.val).getD 255 := by
  cases o <;> rfl

theorem Reading.payload_eq (r : Reading) : r.payload = layout r.fields := by
  simp [Reading.payload, Reading.fields, optNum, getD_toNat, signedNum_four, placementCode_eq]

theorem Reading.payload_spec (r : Reading) : r.payload.length = 38 ∧ ReadingLayout r.payload r := by
  obtain ⟨length, h⟩ := laidOut_of_eq r.payload_eq
  exact ⟨length.trans (by simp), h.carries 0, h.word 1, h.long 2, h.carries 3, h.carries 4, h.bits 5, h.bits 6, h.long 7,
    h.carries 8, h.carries 9, h.carries 10, h.carries 11, h.carries 12, h.carries 13, h.carries 14, h.carries 15,
    h.carries 16, h.word 17⟩

/-- R178: the fields of a TRACE payload before its samples. -/
abbrev traceHead (t : Trace) : List (Nat × Nat) :=
  [(1, t.head.val), (1, Interval.code t.interval), (2, t.sequence.toNat), (4, t.timestamp.toNat), (1, t.energy.toNat),
   (2, t.samples.length)]

/-- R178: the fields of a TRACE payload. -/
abbrev traceFields (t : Trace) : List (Nat × Nat) := traceHead t ++ t.samples.flatMap fun x => [(2, x.toNat)]

theorem tracePayload_eq (t : Trace) : tracePayload t = layout (traceFields t) := by
  have word (x : BitVec 16) : bigEndian 2 x.toNat = num 2 x.toNat := (num_of_lt x.isLt).symm
  simp [tracePayload, traceFields, traceHead, word]

theorem tracePayload_length (t : Trace) : (tracePayload t).length = 11 + 2 * t.samples.length := by
  rw [tracePayload_eq, layout_length, traceFields, width_append, width_flatMap (w := 2) fun _ => rfl]
  rfl

theorem trace_layout_of (t : Trace) {b : List Byte} (h : LaidOut (traceFields t) b 0) : TraceLayout b t :=
  have head := h.left
  have samples : LaidOut (t.samples.flatMap fun x => [(2, x.toNat)]) b 11 := h.right
  ⟨head.carries 0, head.carries 1, head.word 2, head.long 3, head.byte 4,
    head.carries 5, fun _ _ at_i => (samples.item (w := 2) (fun _ => rfl) at_i).word 0⟩

/-- An evaluated reading has not met the map yet: no placement and no place. -/
theorem Stages.unplaced {ev : Evaluation} {r : Reading} (h : Stages ev r) :
    r.placement = none ∧ r.sector = none ∧ r.bin = none ∧ r.tubeId = none := by
  cases h <;> exact ⟨rfl, rfl, rfl, rfl⟩

theorem MirrorFrame.payload_spec (m : MirrorFrame) :
    let b := m.payload
    let n := m.trace.samples.length
    b.length = 49 + 2 * n ∧ TraceLayout b m.trace ∧ ReadingLayout (b.drop (11 + 2 * n)) m.reading ∧
    (∀ ev, m.reading = evaluate ev → byteAt b (11 + 2 * n + 30) = 255 ∧
      ∀ i, 5 ≤ i → (byteAt b (11 + 2 * n + 13)).getLsbD i = false) := by
  intro b n
  have second : b.drop (11 + 2 * n) = m.reading.payload := List.drop_left' (tracePayload_length m.trace)
  have reading : LaidOut m.reading.fields b (11 + 2 * n) := by
    rw [LaidOut, second, m.reading.payload_eq]
  refine ⟨?_, trace_layout_of m.trace ?_, ?_, fun ev evaluated => ?_⟩
  · rw [show b = tracePayload m.trace ++ m.reading.payload from rfl, List.length_append, tracePayload_length,
      m.reading.payload_spec.1]
    omega
  · rw [show b = tracePayload m.trace ++ m.reading.payload from rfl, tracePayload_eq]
    exact laidOut_append ..
  · rw [second]
    exact m.reading.payload_spec.2
  · obtain ⟨placement, sector, bin, tubeId⟩ : m.reading.placement = none ∧ m.reading.sector = none ∧ m.reading.bin = none ∧
        m.reading.tubeId = none := evaluated ▸ (evaluate_stages ev).unplaced
    refine ⟨reading.byte 14 (by simp [placement]), fun i le => ?_⟩
    have bits : CarriesBits b (11 + 2 * n + 13) [m.reading.delta.isSome, m.reading.echo1.isSome, m.reading.echo2.isSome,
        m.reading.echo3.isSome, m.reading.thickness.isSome, false, false, false] :=
      reading.bits 6 (by simp [Reading.presence, sector, bin, tubeId])
    rcases Nat.lt_or_ge i 8 with less | beyond
    · refine bits i false ?_
      interval_cases i <;> rfl
    · exact BitVec.getLsbD_of_ge _ _ beyond

/-! ### RING, TUBE and CAL_RESULT -/

/-- R181: the fields of one sector of a RING payload. -/
abbrev SectorMean.fields (m : SectorMean) : List (Nat × Nat) :=
  [(1, match m with | .measured _ => 0 | .filled _ => 1 | .absent => 2),
   (2, match m with | .measured x => x | .filled x => x | .absent => 0)]

theorem SectorMean.bytes_eq (m : SectorMean) : m.bytes = layout m.fields := by
  cases m <;> simp [SectorMean.bytes, SectorMean.fields]

/-- R181: the fields of a RING payload before its sectors. -/
abbrev RingRecord.headFields (r : RingRecord) : List (Nat × Nat) :=
  [(2, r.tubeId.toNat), (2, r.bin), (4, r.closeTime.toNat), (1, r.zone.code), (1, r.status.code), (1, r.sectors),
   (1, bitsOf [r.mean.isSome, r.min.isSome, r.max.isSome, r.eccentricity.isSome, r.thinSector.isSome, false, false, false]),
   (2, r.mean.getD 0), (2, (r.min.map Prod.fst).getD 0), (1, (r.min.map Prod.snd).getD 0),
   (2, (r.max.map Prod.fst).getD 0), (1, (r.max.map Prod.snd).getD 0), (2, r.eccentricity.getD 0),
   (1, r.thinSector.getD 0), (4, r.readings), (2, r.flaws)]

theorem RingRecord.payload_eq (r : RingRecord) :
    r.payload = layout (r.headFields ++ r.means.flatMap SectorMean.fields) := by
  simp [RingRecord.payload, RingRecord.headFields, optNum, withSector, funext SectorMean.bytes_eq, bitsOf, yesNo]

theorem RingRecord.payload_spec (r : RingRecord) :
    r.payload.length = 29 + 3 * r.means.length ∧ RingLayout r.payload r := by
  obtain ⟨length, h⟩ := laidOut_of_eq r.payload_eq
  have head := h.left
  have means : LaidOut (r.means.flatMap SectorMean.fields) r.payload 29 := h.right
  refine ⟨?_, head.word 0, head.carries 1, head.long 2, head.carries 3, head.carries 4,
    head.carries 5, head.bits 6, head.carries 7, head.carries 8, head.carries 9,
    head.carries 10, head.carries 11, head.carries 12, head.carries 13,
    head.carries 14, head.carries 15, fun j m at_j => ?_⟩
  · rw [length, width_append, width_flatMap (w := 3) fun _ => rfl]
    rfl
  · have sector := means.item (w := 3) (fun _ => rfl) at_j
    exact ⟨sector.carries 0, sector.carries 1⟩

end Sys2Proof.Machine
end

section
/-! The remaining payloads as lists of fields (R79, R121, R166, R179, R181, R182): TUBE, CAL_RESULT, NOTICE, MAP and the entries
of a RESPONSE. -/

namespace Sys2Proof.Machine

/-! ### TUBE and CAL_RESULT -/

/-- R79: the fields of a TUBE payload before its counts. -/
abbrev TubeSummary.headFields (t : TubeSummary) : List (Nat × Nat) :=
  let body := t.body
  [(2, t.tubeId.toNat), (4, t.startTime.toNat), (4, t.endTime.toNat), (4, t.length), (1, t.reason.code), (4, t.generation),
   (2, t.binsClosed), (2, t.tailBin),
   (1, bitsOf [body.mean.isSome, body.min.isSome, body.max.isSome, body.maxEccentricity.isSome, false, false, false, false]),
   (2, body.count), (2, body.mean.getD 0),
   (2, (body.min.getD (0, 0, 0)).1), (2, (body.min.getD (0, 0, 0)).2.1), (1, (body.min.getD (0, 0, 0)).2.2),
   (2, (body.max.getD (0, 0, 0)).1), (2, (body.max.getD (0, 0, 0)).2.1), (1, (body.max.getD (0, 0, 0)).2.2),
   (2, (body.maxEccentricity.getD (0, 0)).1), (2, (body.maxEccentricity.getD (0, 0)).2)]

/-- R79: the fields of a TUBE payload after its counts. -/
abbrev TubeSummary.lastFields (t : TubeSummary) : List (Nat × Nat) :=
  [(1, bitsOf t.headsLost.toList), (2, t.pagesUsed), (2, t.pagesTaken), (1, t.worstSeen.code)]

/-- R79: the fields of a TUBE payload. -/
abbrev TubeSummary.fields (t : TubeSummary) : List (Nat × Nat) :=
  t.headFields ++ (tubeOutcomes.flatMap (fun o => [(4, tableGet t.outcomes o.code)]) ++
    (tubePlacements.flatMap (fun p => [(4, tableGet t.placements p.code)]) ++ t.lastFields))

theorem optNum_map {α : Type} (size : Nat) (f : α → Nat) (o : Option α) (zero : α) (h : f zero = 0) :
    optNum size (o.map f) = num size (f (o.getD zero)) := by
  cases o
  · exact congrArg (num size) h.symm
  · rfl

theorem withBinSector_eq (o : Option (Nat × Nat × Nat)) : withBinSector o =
    num 2 (o.getD (0, 0, 0)).1 ++ num 2 (o.getD (0, 0, 0)).2.1 ++ num 1 (o.getD (0, 0, 0)).2.2 := by
  cases o <;> rfl

theorem BodyStats.bytes_eq (m : BodyStats) : m.bytes = layout
    [(1, bitsOf [m.mean.isSome, m.min.isSome, m.max.isSome, m.maxEccentricity.isSome, false, false, false, false]),
     (2, m.count), (2, m.mean.getD 0),
     (2, (m.min.getD (0, 0, 0)).1), (2, (m.min.getD (0, 0, 0)).2.1), (1, (m.min.getD (0, 0, 0)).2.2),
     (2, (m.max.getD (0, 0, 0)).1), (2, (m.max.getD (0, 0, 0)).2.1), (1, (m.max.getD (0, 0, 0)).2.2),
     (2, (m.maxEccentricity.getD (0, 0)).1), (2, (m.maxEccentricity.getD (0, 0)).2)] := by
  simp only [BodyStats.bytes, withBinSector_eq, optNum_map 2 Prod.fst m.maxEccentricity (0, 0) rfl,
    optNum_map 2 Prod.snd m.maxEccentricity (0, 0) rfl]
  simp [optNum, bitsOf, yesNo]

@[simp] theorem width_tubeOutcomes (count : EvalOutcome → Nat) : width (tubeOutcomes.flatMap fun o => [(4, count o)]) = 24 :=
  width_flatMap (w := 4) (fun _ => rfl) _

@[simp] theorem width_tubePlacements (count : Placement → Nat) :
    width (tubePlacements.flatMap fun p => [(4, count p)]) = 36 :=
  width_flatMap (w := 4) (fun _ => rfl) _

theorem TubeSummary.payload_eq (t : TubeSummary) : t.payload = layout t.fields := by
  simp [TubeSummary.payload, BodyStats.bytes_eq]

theorem TubeSummary.payload_spec (t : TubeSummary) : t.payload.length = 108 ∧ TubeLayout t.payload t := by
  obtain ⟨length, h⟩ := laidOut_of_eq t.payload_eq
  have outcomes : LaidOut (tubeOutcomes.flatMap fun o => [(4, tableGet t.outcomes o.code)]) t.payload 42 := h.right.left
  have placements : LaidOut (tubePlacements.flatMap fun p => [(4, tableGet t.placements p.code)]) t.payload 66 :=
    (h.right (q := 42)).right.left
  have last : LaidOut t.lastFields t.payload 102 := ((h.right (q := 42)).right (q := 66)).right
  have head := h.left
  refine ⟨?_, head.word 0, head.long 1, head.long 2, head.carries 3, head.carries 4, head.carries 5, head.carries 6,
    head.carries 7, head.bits 8, head.carries 9, head.carries 10, ⟨head.carries 11, head.carries 12, head.carries 13⟩,
    ⟨head.carries 14, head.carries 15, head.carries 16⟩, ⟨head.carries 17, head.carries 18⟩, fun k o at_k => ?_,
    fun k p at_k => ?_, last.bits 0 (eight := t.headsLost.size_toArray), last.carries 1, last.carries 2, last.carries 3⟩
  · exact length.trans (by simp)
  · exact (outcomes.item (w := 4) (fun _ => rfl) at_k).carries 0
  · exact (placements.item (w := 4) (fun _ => rfl) at_k).carries 0

/-- R121: the fields of a CAL_RESULT payload. -/
abbrev CalResult.fields (c : CalResult) : List (Nat × Nat) :=
  [(1, c.head.val), (1, c.outcome.code),
   (1, bitsOf [c.newFactor.isSome, c.measured.isSome, c.spread.isSome, false, false, false, false, false]),
   (4, c.oldFactor), (4, c.newFactor.getD 0), (2, c.measured.getD 0), (1, c.counted), (2, c.spread.getD 0), (4, c.duration)]

theorem CalResult.payload_eq (c : CalResult) : c.payload = layout c.fields := by
  simp [CalResult.payload, optNum, bitsOf, yesNo]

theorem CalResult.payload_spec (c : CalResult) : c.payload.length = 20 ∧ CalResultLayout c.payload c := by
  obtain ⟨length, h⟩ := laidOut_of_eq c.payload_eq
  exact ⟨length.trans (by simp), h.carries 0, h.carries 1, h.bits 2, h.carries 3, h.carries 4, h.carries 5, h.carries 6,
    h.carries 7, h.carries 8⟩

/-! ### NOTICE -/

/-- R182: the items of a detail are its fields. -/
theorem Detail.items_eq (d : Detail) : d.items = layout (detailItems d) := by
  cases d with
  | source | frameTube | frameHead => simp [Detail.items, detailItems, num_byte]
  | headChannel h channel => cases channel <;> simp [Detail.items, detailItems, channelCode]
  | _ => simp [Detail.items, detailItems]

theorem detailItems_width (d : Detail) : width (detailItems d) ≤ 8 := by
  cases d <;> simp [detailItems]

/-- R182: the items of a NOTICE, none where it carries no detail. -/
def Notice.itemFields (n : Notice) : List (Nat × Nat) := (n.detail.map detailItems).getD []

/-- R181: the fields of a NOTICE payload before its items. -/
abbrev Notice.headFields (n : Notice) : List (Nat × Nat) :=
  [(1, n.cause.code), (1, n.kind.index.val), (1, n.severity.code), (4, (n.time.getD 0).toNat), (2, n.count), (1, n.worst.code)]

theorem Notice.itemFields_width (n : Notice) : width n.itemFields ≤ 8 := by
  unfold Notice.itemFields
  cases n.detail
  · exact Nat.zero_le _
  · exact detailItems_width _

theorem Notice.payload_eq (n : Notice) : n.payload =
    layout (n.headFields ++ n.itemFields) ++ List.replicate (8 - width n.itemFields) 0 := by
  have items : (n.detail.map Detail.items).getD [] = layout n.itemFields := by
    unfold Notice.itemFields
    cases n.detail
    · rfl
    · exact Detail.items_eq _
  simp [Notice.payload, padEight, items, optNum, getD_toNat]

theorem Notice.payload_spec (n : Notice) : n.payload.length = 18 ∧ NoticeLayout n.payload n := by
  have narrow := n.itemFields_width
  have h : LaidOut (n.headFields ++ n.itemFields) n.payload 0 := n.payload_eq ▸ laidOut_append ..
  have head := h.left
  have items : LaidOut n.itemFields n.payload 10 := h.right
  refine ⟨?_, head.carries 0, head.carries 1, head.carries 2, head.long 3, head.carries 4, head.carries 5,
    fun k size x at_k => items.carries k at_k rfl, fun i from_ less => ?_⟩
  · rw [n.payload_eq, List.length_append, layout_length, List.length_replicate, width_append]
    simp only [width_cons, width_nil]
    omega
  · have past : (layout (n.headFields ++ n.itemFields)).length ≤ 10 + i := by
      have : width n.itemFields ≤ i := by simpa [width, Notice.itemFields] using from_
      rw [layout_length, width_append]
      simp only [width_cons, width_nil]
      omega
    rw [n.payload_eq, byteAt, List.getD_append_right _ _ _ _ past]
    simp

/-! ### MAP and MAP_END -/

/-- R91: the fields of a cell in a MAP payload. -/
abbrev Cell.fields (x : Cell) : List (Nat × Nat) :=
  [(2, x.count), (4, x.sum.getD 0), (2, x.min.getD 0), (2, x.max.getD 0), (1, x.flaws), (1, yesNo x.extrapolated)]

theorem Cell.bytes_eq (x : Cell) : x.bytes = layout x.fields := by simp [Cell.bytes, optNum]

/-- R181: the fields of a MAP payload before its cells. -/
abbrev MapFrame.headFields (f : MapFrame) : List (Nat × Nat) :=
  [(2, f.tubeId.toNat), (1, f.segment), (2, f.firstBin), (1, f.sectors), (2, f.readings)]

theorem mapPayload_eq (f : MapFrame) :
    (MapClassFrame.page f).payload = layout (f.headFields ++ f.cells.flatMap Cell.fields) := by
  simp [MapClassFrame.payload, funext Cell.bytes_eq]

theorem mapPayload_spec (f : MapFrame) :
    (f.cells.length = 256 → (MapClassFrame.page f).payload.length = 3080) ∧ MapLayout (MapClassFrame.page f).payload f := by
  obtain ⟨length, h⟩ := laidOut_of_eq (mapPayload_eq f)
  have head := h.left
  have cells : LaidOut (f.cells.flatMap Cell.fields) (MapClassFrame.page f).payload 8 := h.right
  refine ⟨fun whole => ?_, head.word 0, head.carries 1, head.carries 2, head.carries 3, head.carries 4, fun i x at_i => ?_⟩
  · rw [length, width_append, width_flatMap (w := 12) fun _ => rfl, whole]
    simp
  · have cell := cells.item (w := 12) (fun _ => rfl) at_i
    exact ⟨cell.carries 0, cell.carries 1, cell.carries 2, cell.carries 3, cell.carries 4⟩

theorem mapEndPayload_spec (id : TubeId) (x y : Nat) : let b := (MapClassFrame.finish id x y).payload
    b.length = 6 ∧ wordAt b 0 = id ∧ Carries b 2 2 x ∧ Carries b 4 2 y := by
  intro b
  obtain ⟨length, h⟩ := laidOut_of_eq (fs := [(2, id.toNat), (2, x), (2, y)]) (b := b) (by simp [b, MapClassFrame.payload])
  exact ⟨length, h.word 0, h.carries 1, h.carries 2⟩

end Sys2Proof.Machine
end

section
/-! The envelope of a sent frame (R176), the entries of a RESPONSE (R127, R179), and the obligation on sent payloads. -/

namespace Sys2Proof.Machine

/-! ### The envelope (R176) -/

theorem sealFrame_eq (kind source : Byte) {payload : List Byte} (short : payload.length < 65536) :
    ∃ hi lo x y : Byte, sealFrame kind source payload = kind :: source :: hi :: lo :: (payload ++ [x, y]) ∧
      hi.toNat * 256 + lo.toNat = payload.length ∧ x ++ y = frameCheck (kind :: source :: hi :: lo :: payload) := by
  refine ⟨BitVec.ofNat 8 (payload.length / 256), BitVec.ofNat 8 payload.length, _, _, ?_, ?_, append_of_word _⟩
  · simp only [sealFrame, bigEndian_two]
    rfl
  · rw [BitVec.toNat_ofNat, BitVec.toNat_ofNat]
    omega

theorem longAt_num (t : BitVec 32) : longAt (num 4 t.toNat) 0 = t := by
  obtain ⟨-, h⟩ := laidOut_of_eq (fs := [(4, t.toNat)]) (b := num 4 t.toNat) (by simp)
  exact h.long 0

/-! ### The entries of a RESPONSE (R179) -/

theorem Status.code_lt (x : Status) : x.code < 256 := by cases x <;> decide

theorem Response.payload_eq (r : Response) : r.payload = r.tag :: BitVec.ofNat 8 r.status.code :: r.data.bytes := by
  unfold Response.payload
  rw [num_one (Status.code_lt _)]
  rfl

/-- R179: the fields of a HEAD entry. -/
abbrev HeadEntry.fields (e : HeadEntry) : List (Nat × Nat) :=
  [(1, e.enabled.toNat), (1, e.chainStart.toNat), (1, e.pairMode.toNat), (2, e.minSep.toNat), (1, e.weakPct.toNat),
   (1, e.minEnergy.toNat), (1, e.channel.toNat), (2, e.angleOffset.toNat), (2, e.axialOffset.toNat)]

theorem HeadEntry.bytes_eq (e : HeadEntry) : e.bytes = layout e.fields := by simp [HeadEntry.bytes, num_byte]

/-- R179: the fields of a GATE descriptor. -/
abbrev GateEntry.fields (e : GateEntry) : List (Nat × Nat) :=
  [(1, e.kind.toNat), (1, e.enabled.toNat), (1, e.placement.toNat), (1, e.anchor.toNat), (2, e.offset.toNat),
   (2, e.width.toNat), (2, e.threshold.toNat), (1, e.next.toNat)]

theorem GateEntry.bytes_eq (e : GateEntry) : e.bytes = layout e.fields := by simp [GateEntry.bytes, num_byte]

/-- R179: the fields of the MAP_SETUP entry. -/
abbrev MapSetup.fields (m : MapSetup) : List (Nat × Nat) :=
  [(1, m.sectors.toNat), (2, m.binLen.toNat), (2, m.closeMargin.toNat), (1, m.gapLimit.toNat), (2, m.headZone.toNat),
   (2, m.tailZone.toNat), (2, m.windowLow.toNat), (2, m.windowHigh.toNat), (2, m.nominal.toNat), (2, m.fallback.toNat),
   (1, m.presenceCount.toNat)]

theorem MapSetup.bytes_eq (m : MapSetup) : m.bytes = layout m.fields := by simp [MapSetup.bytes, num_byte]

/-- R179: the fields of an EVENT entry. -/
abbrev EventRecord.fields (r : EventRecord) : List (Nat × Nat) :=
  [(1, r.severity.code), (1, yesNo r.report), (1, yesNo r.flag), (2, r.count), (4, (r.firstTime.getD 0).toNat),
   (4, (r.lastTime.getD 0).toNat)]

theorem EventRecord.bytes_eq (r : EventRecord) : r.bytes = layout r.fields := by
  simp [EventRecord.bytes, optNum, getD_toNat]

theorem headEntry_layout (e : HeadEntry) : let b := (RespData.headEntry e).bytes
    b.length = 12 ∧ byteAt b 0 = e.enabled ∧ byteAt b 1 = e.chainStart ∧ byteAt b 2 = e.pairMode ∧ wordAt b 3 = e.minSep ∧
    byteAt b 5 = e.weakPct ∧ byteAt b 6 = e.minEnergy ∧ byteAt b 7 = e.channel ∧ wordAt b 8 = e.angleOffset ∧
    wordAt b 10 = e.axialOffset := by
  obtain ⟨length, h⟩ := laidOut_of_eq e.bytes_eq
  exact ⟨length.trans (by simp), h.byte 0, h.byte 1, h.byte 2, h.word 3, h.byte 4, h.byte 5, h.byte 6, h.word 7, h.word 8⟩

theorem gateEntry_layout (e : GateEntry) : let b := (RespData.gateEntry e).bytes
    b.length = 11 ∧ byteAt b 0 = e.kind ∧ byteAt b 1 = e.enabled ∧ byteAt b 2 = e.placement ∧ byteAt b 3 = e.anchor ∧
    wordAt b 4 = e.offset ∧ wordAt b 6 = e.width ∧ wordAt b 8 = e.threshold ∧ byteAt b 10 = e.next := by
  obtain ⟨length, h⟩ := laidOut_of_eq e.bytes_eq
  exact ⟨length.trans (by simp), h.byte 0, h.byte 1, h.byte 2, h.byte 3, h.word 4, h.word 5, h.word 6, h.byte 7⟩

theorem twoWords_layout (x y : BitVec 16) : let b := num 2 x.toNat ++ num 2 y.toNat
    b.length = 4 ∧ wordAt b 0 = x ∧ wordAt b 2 = y := by
  obtain ⟨length, h⟩ := laidOut_of_eq (fs := [(2, x.toNat), (2, y.toNat)]) (b := num 2 x.toNat ++ num 2 y.toNat) (by simp)
  exact ⟨length, h.word 0, h.word 1⟩

theorem mapSetup_layout (m : MapSetup) : let b := (RespData.mapSetup m).bytes
    b.length = 19 ∧ byteAt b 0 = m.sectors ∧ wordAt b 1 = m.binLen ∧ wordAt b 3 = m.closeMargin ∧ byteAt b 5 = m.gapLimit ∧
    wordAt b 6 = m.headZone ∧ wordAt b 8 = m.tailZone ∧ wordAt b 10 = m.windowLow ∧ wordAt b 12 = m.windowHigh ∧
    wordAt b 14 = m.nominal ∧ wordAt b 16 = m.fallback ∧ byteAt b 18 = m.presenceCount := by
  obtain ⟨length, h⟩ := laidOut_of_eq m.bytes_eq
  exact ⟨length.trans (by simp), h.byte 0, h.word 1, h.word 2, h.byte 3, h.word 4, h.word 5, h.word 6, h.word 7, h.word 8,
    h.word 9, h.byte 10⟩

theorem timing_layout (t : Timing) : let b := (RespData.timing t).bytes
    b.length = 10 ∧ Carries b 0 2 t.headSilence ∧ Carries b 2 2 t.positionSilence ∧ Carries b 4 2 t.temperatureStale ∧
    Carries b 6 2 t.settle ∧ Carries b 8 2 t.calibration := by
  obtain ⟨length, h⟩ := laidOut_of_eq (fs := [(2, t.headSilence), (2, t.positionSilence), (2, t.temperatureStale),
    (2, t.settle), (2, t.calibration)]) (b := t.bytes) (by simp [Timing.bytes])
  exact ⟨length, h.carries 0, h.carries 1, h.carries 2, h.carries 3, h.carries 4⟩

theorem output_layout (e : OutputEntry) (d : Decimation) : let b := (RespData.output e d).bytes
    b.length = 6 ∧ Carries b 0 1 e.reading.code ∧ Carries b 1 1 e.readingN ∧ Carries b 2 1 e.mirror.code ∧
    Carries b 3 1 e.mirrorN ∧ Carries b 4 1 d.reading ∧ Carries b 5 1 d.mirror := by
  obtain ⟨length, h⟩ := laidOut_of_eq (fs := [(1, e.reading.code), (1, e.readingN), (1, e.mirror.code), (1, e.mirrorN),
    (1, d.reading), (1, d.mirror)]) (b := outputBytes e d) (by simp [outputBytes])
  exact ⟨length, h.carries 0, h.carries 1, h.carries 2, h.carries 3, h.carries 4, h.carries 5⟩

theorem event_layout (r : EventRecord) : let b := (RespData.event r).bytes
    b.length = 13 ∧ Carries b 0 1 r.severity.code ∧ Carries b 1 1 (if r.report = true then 1 else 0) ∧ Carries b 3 2 r.count ∧
    longAt b 5 = r.firstTime.getD 0 ∧ longAt b 9 = r.lastTime.getD 0 := by
  obtain ⟨length, h⟩ := laidOut_of_eq r.bytes_eq
  exact ⟨length.trans (by simp), h.carries 0, h.carries 1, h.carries 3, h.long 4, h.long 5⟩

theorem calibration_layout (f : CalFields) : let b := (RespData.calibration f).bytes
    b.length = 8 ∧ Carries b 0 1 f.head.val ∧ Carries b 1 2 f.reference ∧ Carries b 3 2 f.temperature ∧
    Carries b 5 1 f.traces ∧ Carries b 6 2 f.tolerance := by
  obtain ⟨length, h⟩ := laidOut_of_eq (fs := [(1, f.head.val), (2, f.reference), (2, f.temperature), (1, f.traces),
    (2, f.tolerance)]) (b := f.bytes) (by simp [CalFields.bytes])
  exact ⟨length, h.carries 0, h.carries 1, h.carries 2, h.carries 3, h.carries 4⟩

/-- One number alone in its field. -/
theorem num_layout (size n : Nat) : (num size n).length = size ∧ Carries (num size n) 0 size n := by
  obtain ⟨length, h⟩ := laidOut_of_eq (fs := [(size, n)]) (b := num size n) (by simp)
  exact ⟨length, h.carries 0⟩

/-! ### Staged entries as they were written (R127, R177) -/

theorem parseHead_bytes : ∀ {d : List Byte}, d.length = 12 → (parseHead d).bytes = d
  | [_, _, _, _, _, _, _, _, _, _, _, _], _ => by simp [HeadEntry.bytes, parseHead, byteAt, wordAt, num_append]

theorem parseGate_bytes : ∀ {d : List Byte}, d.length = 11 → (parseGate d).bytes = d
  | [_, _, _, _, _, _, _, _, _, _, _], _ => by simp [GateEntry.bytes, parseGate, byteAt, wordAt, num_append]

theorem parseVelocity_bytes : ∀ {d : List Byte}, d.length = 4 → (parseVelocity d).bytes = d
  | [_, _, _, _], _ => by simp [VelocityEntry.bytes, parseVelocity, byteAt, wordAt, num_append]

theorem parseMapSetup_bytes : ∀ {d : List Byte}, d.length = 19 → (parseMapSetup d).bytes = d
  | [_, _, _, _, _, _, _, _, _, _, _, _, _, _, _, _, _, _, _], _ => by
    simp [MapSetup.bytes, parseMapSetup, byteAt, wordAt, num_append]

/-! ### The obligation -/

/-- Settles O16: each payload is the layout of its list of fields, from which its length and what stands at
each offset are read. -/
theorem sentPayloadsFollowTheLayouts : Obligations.SentPayloadsFollowTheLayouts := by
  unfold Obligations.SentPayloadsFollowTheLayouts
  refine ⟨⟨fun f short => sealFrame_eq _ _ short, fun t => ⟨num 4 t.toNat, num_length .., longAt_num t, ?_⟩⟩,
    Reading.payload_spec, MirrorFrame.payload_spec, RingRecord.payload_spec,
    TubeSummary.payload_spec, CalResult.payload_spec, Notice.payload_spec, mapPayload_spec, mapEndPayload_spec,
    Response.payload_eq, headEntry_layout, gateEntry_layout, fun e => twoWords_layout e.temperature e.velocity,
    fun n => twoWords_layout n 0, mapSetup_layout, timing_layout, output_layout, num_layout 4, event_layout,
    calibration_layout, fun n => ⟨(num_layout 4 n).1, (num_layout 4 n).2, num_layout 1 n⟩,
    fun d => ⟨parseHead_bytes, parseGate_bytes, parseVelocity_bytes, parseMapSetup_bytes⟩, by decide⟩
  exact sealFrame_eq _ _ (by simp)

end Sys2Proof.Machine
end

section
/-! The geometry of R85 and R87: a page of `w` bins of `n` sectors each holds 256 cells, one for each sector of each bin of its
segment. -/

namespace Sys2Proof.Machine

section
variable {n w : Nat} (fills : w * n = 256)
include fills

theorem binsPerPage_eq : binsPerPage n = w :=
  Nat.div_eq_of_eq_mul_left (Nat.pos_of_ne_zero (by rintro rfl; omega)) fills.symm

/-- R85: the segment of a bin counts whole pages below it. -/
theorem segmentOf_eq_div (b : Nat) : segmentOf n b = b / w := by
  rw [segmentOf, ← fills]
  exact Nat.mul_div_mul_right b w (Nat.pos_of_ne_zero (by rintro rfl; omega))

/-- R85: the cell index counts the sectors of the bins before it in its page. -/
theorem cellIndexOf_eq_mod (b j : Nat) : cellIndexOf n b j = b % w * n + j := by
  rw [cellIndexOf, firstBinOf, binsPerPage_eq fills, segmentOf_eq_div fills, Nat.mod_eq_sub_div_mul]

/-- R87: a bin lies between the first bin of its segment and that of the next. -/
theorem segmentOf_bounds (b : Nat) : firstBinOf n (segmentOf n b) ≤ b ∧ b < firstBinOf n (segmentOf n b + 1) := by
  have pos : 0 < w := Nat.pos_of_ne_zero (by rintro rfl; omega)
  rw [firstBinOf, firstBinOf, binsPerPage_eq fills, segmentOf_eq_div fills]
  exact ⟨Nat.div_mul_le_self b w, by rw [Nat.mul_comm]; exact Nat.lt_mul_div_succ b pos⟩

end

/-- R85: each sector count divides the 256 cells of a page. -/
theorem sectors_fill_page {n : Nat} (mem : n ∈ [8, 16, 32, 64]) : 256 / n * n = 256 := by
  revert n
  decide

/-- R85: segment and cell index give back the bin, and the bin and the cell index the sector. -/
theorem cellIndexOf_injective {n b b' j j' : Nat} (mem : n ∈ [8, 16, 32, 64]) (sector : j < n) (sector' : j' < n)
    (segment : segmentOf n b = segmentOf n b') (cell : cellIndexOf n b j = cellIndexOf n b' j') : b = b' ∧ j = j' := by
  obtain rfl : b = b' := calc
    b = firstBinOf n (segmentOf n b) + cellIndexOf n b j / n := (firstBinOf_add_cellIndex mem b sector).symm
    _ = firstBinOf n (segmentOf n b') + cellIndexOf n b' j' / n := by rw [segment, cell]
    _ = b' := firstBinOf_add_cellIndex mem b' sector'
  exact ⟨rfl, Nat.add_left_cancel cell⟩

/-- Settles O23: the formulas of a page of 256/S bins; bin and sector read back from segment and cell index. -/
theorem cellsOfATubeAreDistinct : Obligations.CellsOfATubeAreDistinct := by
  intro n mem b j b' j' sector sector'
  have fills := sectors_fill_page mem
  obtain ⟨first, last⟩ := segmentOf_bounds fills b
  exact ⟨segmentOf_eq_div fills b, fun _ => rfl, cellIndexOf_eq_mod fills b j, first, last, cellIndexOf_lt mem b sector,
    cellIndexOf_injective mem sector sector'⟩

end Sys2Proof.Machine
end

section
/-! The law of pages (R83, R86, R95) taken apart by context, and what one update of a context, of the free list or of the Drain
Engine does to it. -/

namespace Sys2Proof.Machine

/-! ### Directories (R86) -/

theorem Tube.directoryOk_iff (t : Tube) :
    t.directoryOk = true ↔ (t.directory.map Prod.fst).Pairwise (· < ·) ∧ ∀ e ∈ t.directory, e.1 < 256 := by
  simp [Tube.directoryOk]

/-- The segments of a directory with their pages, without their reading counts. -/
def Tube.pages (t : Tube) : List (Nat × Nat) := t.directory.map fun e => (e.1, e.2.page)

theorem Tube.pages_fst (t : Tube) : t.pages.map Prod.fst = t.directory.map Prod.fst := by simp [Tube.pages, Function.comp_def]

theorem Tube.pages_snd (t : Tube) : t.pages.map Prod.snd = dirPages t.directory := by
  simp [Tube.pages, dirPages, Function.comp_def]

theorem Tube.directoryOk_of_pages {x y : Tube} (same : y.pages = x.pages) (ok : x.directoryOk = true) :
    y.directoryOk = true := by
  have segments : y.directory.map Prod.fst = x.directory.map Prod.fst := by
    rw [← Tube.pages_fst, ← Tube.pages_fst, same]
  rw [Tube.directoryOk_iff, ← List.forall_mem_map (P := (· < 256)) (f := Prod.fst)] at ok ⊢
  rwa [segments]

/-- R92: a reading counted changes no segment and no page. -/
theorem dirCount_pages (d : List (Nat × DirEntry)) (n : Nat) :
    (dirCount d n).map (fun e => (e.1, e.2.page)) = d.map fun e => (e.1, e.2.page) := by
  induction d with
  | nil => rfl
  | cons y rest ih =>
    rw [dirCount]
    split
    · rfl
    · rw [List.map_cons, List.map_cons, ih]

/-- R86: the entry added stands beside those that stood. -/
theorem dirInsert_perm (d : List (Nat × DirEntry)) (n : Nat) (e : DirEntry) : (dirInsert d n e).Perm ((n, e) :: d) := by
  induction d with
  | nil => exact .refl _
  | cons y rest ih =>
    rw [dirInsert]
    split
    · exact .refl _
    · exact (ih.cons _).trans (.swap _ _ _)

/-- R86: an absent segment goes in its place. -/
theorem dirInsert_ascending {d : List (Nat × DirEntry)} {n : Nat} (e : DirEntry)
    (ascending : (d.map Prod.fst).Pairwise (· < ·)) (absent : dirLookup d n = none) :
    ((dirInsert d n e).map Prod.fst).Pairwise (· < ·) := by
  induction d with
  | nil => simp [dirInsert]
  | cons y rest ih =>
    obtain ⟨k, x⟩ := y
    rw [List.map_cons, List.pairwise_cons] at ascending
    obtain ⟨first, rest'⟩ := ascending
    rw [dirLookup_cons] at absent
    rw [dirInsert]
    split
    next below =>
      rw [List.map_cons, List.pairwise_cons, List.map_cons, List.pairwise_cons]
      refine ⟨fun m hm => ?_, first, rest'⟩
      rcases List.mem_cons.mp hm with rfl | hm
      · exact below
      · exact below.trans (first m hm)
    next above =>
      have ne : k ≠ n := fun same => by rw [if_pos same] at absent; cases absent
      rw [if_neg ne] at absent
      rw [List.map_cons, List.pairwise_cons]
      refine ⟨fun m hm => ?_, ih rest' absent⟩
      rcases List.mem_cons.mp (((dirInsert_perm rest n e).map Prod.fst).subset hm) with rfl | hm
      · omega
      · exact first m hm

theorem dirInsert_directoryOk {t : Tube} {n : Nat} (e : DirEntry) (used taken : Nat) (ok : t.directoryOk = true)
    (absent : dirLookup t.directory n = none) (inMap : n < 256) :
    ({ t with directory := dirInsert t.directory n e, pagesUsed := used, pagesTaken := taken } : Tube).directoryOk = true := by
  rw [Tube.directoryOk_iff] at ok ⊢
  refine ⟨dirInsert_ascending e ok.1 absent, fun x hx => ?_⟩
  rcases List.mem_cons.mp ((dirInsert_perm t.directory n e).subset hx) with rfl | hx
  · exact inMap
  · exact ok.2 x hx

/-- R86: a directory that only loses entries stays in order. -/
theorem Tube.directoryOk_of_sublist {x y : Tube} (fewer : y.directory.Sublist x.directory) (ok : x.directoryOk = true) :
    y.directoryOk = true := by
  rw [Tube.directoryOk_iff] at ok ⊢
  exact ⟨ok.1.sublist (fewer.map Prod.fst), fun e he => ok.2 e (fewer.subset he)⟩

/-! ### The law by context -/

/-- R83: the pages of context `c`. -/
def pagesAt (s : State) (c : Ctx) : List Nat := pagesHeld (tubeAt s c)

theorem pagesAt_some {s : State} {c : Ctx} {t : Tube} (tube : tubeAt s c = some t) : pagesAt s c = dirPages t.directory := by
  rw [pagesAt, tube]; rfl

theorem pagesAt_none {s : State} {c : Ctx} (free : tubeAt s c = none) : pagesAt s c = [] := by
  rw [pagesAt, free]; rfl

theorem pagesAt_of_tubeAt {s t : State} {c d : Ctx} (same : tubeAt t c = tubeAt s d) : pagesAt t c = pagesAt s d := by
  rw [pagesAt, same, pagesAt]

/-- R83: how often page `p` stands on the free list and in the directories, context `c` first. -/
theorem pageLaw_iff (s : State) (c : Ctx) :
    PageLaw s ↔ (∀ p, s.wall.free.count p + (pagesAt s c).count p + (pagesAt s (otherCtx c)).count p =
        (List.range 384).count p) ∧
      (∀ d x, tubeAt s d = some x → x.directoryOk = true) ∧ drainOk s = true := by
  have perm : (s.wall.free ++ (pagesHeld s.tubes.a ++ pagesHeld s.tubes.b)).Perm (List.range 384) ↔
      ∀ p, s.wall.free.count p + (pagesAt s c).count p + (pagesAt s (otherCtx c)).count p = (List.range 384).count p := by
    rw [List.perm_iff_count]
    refine forall_congr' fun p => ?_
    rw [List.count_append, List.count_append]
    cases c
    · rw [← Nat.add_assoc]; rfl
    · rw [Nat.add_comm (List.count p (pagesHeld s.tubes.a)), ← Nat.add_assoc]; rfl
  rw [PageLaw, perm, ← all_tubes_iff, and_assoc]

/-- R95: the engine is IDLE with no context DRAINING, or holds the one that is. -/
theorem drainOk_iff (s : State) :
    drainOk s = true ↔ (s.drain = none → ∀ c, stageIs s c .draining = false) ∧
      ∀ d, s.drain = some d → stageIs s (otherCtx d.ctx) .draining = false ∧ d.sent ≤ d.cursor ∧ d.cursor ≤ 256 ∧
        ∃ t, tubeAt s d.ctx = some t ∧ t.stage = .draining ∧ ∀ e ∈ t.directory, d.cursor ≤ e.1 := by
  unfold drainOk
  cases s.drain with
  | none =>
    simp only [Bool.and_eq_true, Bool.not_eq_true', true_implies, reduceCtorEq, false_implies, implies_true, and_true]
    exact ⟨fun h c => by cases c; exacts [h.1, h.2], fun h => ⟨h .a, h .b⟩⟩
  | some d =>
    cases tube : tubeAt s d.ctx with
    | none => simp [tube]
    | some t =>
      simp only [stageIs_of_tubeAt tube, Bool.and_eq_true, Bool.not_eq_true', beq_iff_eq, decide_eq_true_eq, List.all_eq_true,
        reduceCtorEq, false_implies, true_and, Option.some.injEq, forall_eq', exists_eq_left', tube]
      tauto

theorem drainOk_idle {s : State} (idle : s.drain = none) :
    drainOk s = true ↔ ∀ c, stageIs s c .draining = false := by
  rw [drainOk_iff, idle]
  simp

theorem drainOk_busy {s : State} {d : Drain} (busy : s.drain = some d) :
    drainOk s = true ↔ stageIs s (otherCtx d.ctx) .draining = false ∧ d.sent ≤ d.cursor ∧ d.cursor ≤ 256 ∧
      ∃ t, tubeAt s d.ctx = some t ∧ t.stage = .draining ∧ ∀ e ∈ t.directory, d.cursor ≤ e.1 := by
  rw [drainOk_iff, busy]
  simp

/-- R95: the engine's agreement looks at the engine, at which context is DRAINING and at its segments alone. -/
theorem drainOk_of_draining {s t : State} (drain : t.drain = s.drain)
    (still : ∀ c, stageIs t c .draining = stageIs s c .draining)
    (fewer : ∀ c x y, tubeAt s c = some x → tubeAt t c = some y → x.stage = .draining →
      ∀ e ∈ y.directory, ∃ g ∈ x.directory, g.1 = e.1) (ok : drainOk s = true) : drainOk t = true := by
  rw [drainOk_iff] at ok ⊢
  rw [drain]
  refine ⟨fun idle c => (still c).trans (ok.1 idle c), fun d busy => ?_⟩
  obtain ⟨other, sent, cursor, x, hx, stage, above⟩ := ok.2 d busy
  have draining : stageIs t d.ctx .draining = true := by rw [still, stageIs_of_tubeAt hx, stage]; rfl
  cases hy : tubeAt t d.ctx with
  | none => rw [stageIs_of_free hy] at draining; cases draining
  | some y =>
    rw [stageIs_of_tubeAt hy, beq_iff_eq] at draining
    refine ⟨(still _).trans other, sent, cursor, y, rfl, draining, fun e he => ?_⟩
    obtain ⟨g, hg, same⟩ := fewer _ x y hx hy stage e he
    exact same ▸ above g hg

end Sys2Proof.Machine
end

section
/-! What keeps the law of pages and leaves every cell as it is: updates that touch no page, the drain, settling completed, a tube
truncated and a tube started. -/

namespace Sys2Proof.Machine

/-! ### The relations -/

/-- The Drain Engine, the free list, and each context's stage and segments with their pages stand. -/
structure SamePages (s t : State) : Prop where
  free : t.wall.free = s.wall.free
  drain : t.drain = s.drain
  tube : ∀ c, (tubeAt t c).map (fun x => (x.stage, x.pages)) = (tubeAt s c).map fun x => (x.stage, x.pages)

/-- The law of pages is kept, and no cell changes. -/
structure KeepsPages (s t : State) : Prop where
  law : PageLaw s → PageLaw t
  cells : t.wall.pool = s.wall.pool

theorem SamePages.back {s t : State} (h : SamePages s t) {c : Ctx} {y : Tube} (tube : tubeAt t c = some y) :
    ∃ x, tubeAt s c = some x ∧ y.stage = x.stage ∧ y.pages = x.pages := by
  have same := h.tube c
  rw [tube, Option.map_some, eq_comm, Option.map_eq_some_iff] at same
  obtain ⟨x, hx, e⟩ := same
  rw [Prod.mk.injEq] at e
  exact ⟨x, hx, e.1.symm, e.2.symm⟩

theorem SamePages.sameStages {s t : State} (h : SamePages s t) : SameStages s t := fun c => by
  simpa [Option.map_map, Function.comp_def] using congrArg (Option.map Prod.fst) (h.tube c)

theorem SamePages.pagesAt {s t : State} (h : SamePages s t) (c : Ctx) : pagesAt t c = pagesAt s c := by
  have held (o : Option Tube) : pagesHeld o = ((o.map fun x => (x.stage, x.pages)).map fun x => x.2.map Prod.snd).getD [] := by
    cases o with
    | none => rfl
    | some x => exact x.pages_snd.symm
  rw [Machine.pagesAt, held, h.tube, ← held, Machine.pagesAt]

theorem SamePages.pageLaw {s t : State} (h : SamePages s t) (law : PageLaw s) : PageLaw t := by
  rw [pageLaw_iff _ .a] at law ⊢
  obtain ⟨once, ordered, drain⟩ := law
  rw [h.free, h.pagesAt, h.pagesAt]
  refine ⟨once, fun c y hy => ?_, drainOk_of_draining h.drain (fun c => ?_) (fun c x y hx hy _ e he => ?_) drain⟩
  · obtain ⟨x, hx, -, same⟩ := h.back hy
    exact Tube.directoryOk_of_pages same (ordered c x hx)
  · rw [Bool.eq_iff_iff, stageIs_iff, stageIs_iff, h.sameStages c]
  · obtain ⟨z, hz, -, same⟩ := h.back hy
    obtain rfl : x = z := Option.some.inj (hx.symm.trans hz)
    have segments : y.directory.map Prod.fst = x.directory.map Prod.fst := by
      rw [← Tube.pages_fst, ← Tube.pages_fst, same]
    exact List.mem_map.mp (segments ▸ List.mem_map_of_mem he)

namespace KeepsPages

theorem of_samePages {s t : State} (h : SamePages s t) (cells : t.wall.pool = s.wall.pool) : KeepsPages s t :=
  ⟨h.pageLaw, cells⟩

/-- A change of the blocks that hold no page. -/
theorem of_eq {s t : State} (tubes : t.tubes = s.tubes := by rfl) (wall : t.wall = s.wall := by rfl)
    (drain : t.drain = s.drain := by rfl) : KeepsPages s t :=
  .of_samePages ⟨by rw [wall], drain, fun c => by rw [tubeAt, tubeAt, tubes]⟩ (by rw [wall])

theorem refl (s : State) : KeepsPages s s := .of_eq

theorem trans {s t u : State} (a : KeepsPages s t) (b : KeepsPages t u) : KeepsPages s u :=
  ⟨b.law ∘ a.law, b.cells.trans a.cells⟩

theorem foldl {α : Type} {f : State → α → State} (step : ∀ s x, KeepsPages s (f s x)) (l : List α) (s : State) :
    KeepsPages s (l.foldl f s) := by
  induction l generalizing s with
  | nil => exact refl s
  | cons x rest ih => exact (step s x).trans (ih _)

theorem of_reports {K : List EventKind} {s t : State} (h : Reports K s t) : KeepsPages s t := by
  refine .of_samePages ⟨by rw [h.wall], h.drain, fun c => ?_⟩ (by rw [h.wall])
  cases hx : tubeAt s c with
  | none => rw [h.free c hx]
  | some x =>
    obtain ⟨y, hy, stands⟩ := h.tube hx
    rw [hy, Option.map_some, Option.map_some, stands.stage, Tube.pages, h.directories hx hy, Tube.pages]

end KeepsPages

theorem raise_keepsPages (k : EventKind) (d : Detail) (s : State) : KeepsPages s (raise k d s) :=
  .of_reports (raise_reports (K := []) (by simp) (by simp) d s)

theorem offerSummary_keepsPages (f : SummaryFrame) (s : State) : KeepsPages s (offerSummary f s) :=
  .of_reports (offerSummary_reports f s)

theorem noteWorst_keepsPages (s : State) : KeepsPages s (noteWorst s) :=
  .of_samePages ⟨rfl, rfl, fun c => by
    obtain ⟨worst, h⟩ := (noteWorst_noticeOnly s).tubeAt c
    rw [h, Option.map_map]
    rfl⟩ rfl

/-! ### One context's tube replaced -/

section
variable {c : Ctx} {x y : Tube} {s : State}

/-- The directories stay in order. -/
theorem putTube_directoriesOk {o : Option Tube} (ordered : ∀ d z, tubeAt s d = some z → z.directoryOk = true)
    (new : ∀ z, o = some z → z.directoryOk = true) (d : Ctx) (z : Tube) (tube : tubeAt (putTube c o s) d = some z) :
    z.directoryOk = true := by
  obtain rfl | rfl := Ctx.eq_or_other c d
  · exact new z (by rwa [tubeAt_putTube_same] at tube)
  · exact ordered _ z (by rwa [tubeAt_putTube_other] at tube)

/-- The Drain Engine's agreement, under a tube that is DRAINING as before, with no further segment. -/
theorem putTube_drainOk (tube : tubeAt s c = some x) (still : y.stage = .draining ↔ x.stage = .draining)
    (fewer : x.stage = .draining → ∀ e ∈ y.directory, ∃ g ∈ x.directory, g.1 = e.1) (ok : drainOk s = true) :
    drainOk (putTube c (some y) s) = true := by
  refine drainOk_of_draining (putTube_drain ..) (fun d => ?_) (fun d v w hv hw stage => ?_) ok
  · obtain rfl | rfl := Ctx.eq_or_other c d
    · rw [stageIs_of_tubeAt (tubeAt_putTube_same ..), stageIs_of_tubeAt tube, Bool.eq_iff_iff, beq_iff_eq, beq_iff_eq, still]
    · exact stageIs_putTube_other ..
  · obtain rfl | rfl := Ctx.eq_or_other c d
    · rw [tubeAt_putTube_same] at hw
      obtain rfl := Option.some.inj hw
      obtain rfl := Option.some.inj (tube.symm.trans hv)
      exact fewer stage
    · rw [tubeAt_putTube_other, hv] at hw
      obtain rfl := Option.some.inj hw
      exact fun e he => ⟨e, he, rfl⟩

/-- A tube that neither was nor becomes DRAINING and keeps its directory. -/
theorem putTube_keepsPages (tube : tubeAt s c = some x) (directory : y.directory = x.directory) (was : x.stage ≠ .draining)
    (becomes : y.stage ≠ .draining) : KeepsPages s (putTube c (some y) s) where
  law law := by
    rw [pageLaw_iff _ c] at law ⊢
    obtain ⟨once, ordered, drain⟩ := law
    refine ⟨fun p => ?_, putTube_directoriesOk ordered fun z hz => ?_,
      putTube_drainOk tube (iff_of_false becomes was) (fun stage => absurd stage was) drain⟩
    · rw [pagesAt_some (tubeAt_putTube_same ..), directory, ← pagesAt_some tube, pagesAt, pagesAt, tubeAt_putTube_other]
      exact once p
    · obtain rfl := Option.some.inj hz
      exact Tube.directoryOk_of_pages (by rw [Tube.pages, directory, Tube.pages]) (ordered c x tube)
  cells := rfl

theorem modTube_keepsPages (c : Ctx) (f : Tube → Tube) (s : State) (stage : ∀ z, (f z).stage = z.stage := by intro; rfl)
    (directory : ∀ z, (f z).directory = z.directory := by intro; rfl) : KeepsPages s (modTube c f s) := by
  refine .of_samePages ⟨by rw [modTube_wall], modTube_drain .., fun d => ?_⟩ (by rw [modTube_wall])
  obtain rfl | rfl := Ctx.eq_or_other c d
  · rw [tubeAt_modTube_same, Option.map_map]
    simp [Function.comp_def, Tube.pages, stage, directory]
  · rw [tubeAt_modTube_other]

end

/-! ### The drain (R78, R95 to R99) -/

/-- R78: a context taken when the engine is IDLE. -/
theorem takenUp_keepsPages {s : State} {c : Ctx} {t : Tube} (idle : s.drain = none) (tube : tubeAt s c = some t) :
    KeepsPages s (takenUp c t s) where
  law law := by
    rw [pageLaw_iff _ c] at law ⊢
    obtain ⟨once, ordered, drain⟩ := law
    have here : tubeAt (takenUp c t s) c = some { t with stage := .draining } := tubeAt_putTube_same ..
    have there : tubeAt (takenUp c t s) (otherCtx c) = tubeAt s (otherCtx c) := tubeAt_putTube_other ..
    refine ⟨fun p => ?_, putTube_directoriesOk ordered fun z hz => ?_, ?_⟩
    · rw [pagesAt_some here, ← pagesAt_some (t := t) tube, pagesAt, pagesAt, there]
      exact once p
    · obtain rfl := Option.some.inj hz
      exact Tube.directoryOk_of_pages (x := t) rfl (ordered c t tube)
    · rw [drainOk_busy rfl]
      refine ⟨?_, Nat.le_refl _, Nat.zero_le _, _, here, rfl, fun _ _ => Nat.zero_le _⟩
      rw [stageIs, there]
      exact (drainOk_idle idle).mp drain (otherCtx c)
  cells := rfl

theorem takeContext_keepsPages (s : State) : KeepsPages s (takeContext s) := by
  unfold takeContext
  split
  next idle found =>
    obtain ⟨x, hx, -⟩ := oldestWaiting_stage found
    rw [modTube_some hx]
    exact takenUp_keepsPages idle hx
  next => exact .refl s

/-- R96: with no segment below the cursor, the lowest at or above it is the first. -/
theorem directory_of_lowest {t : Tube} {cursor n : Nat} {e : DirEntry} (above : ∀ x ∈ t.directory, cursor ≤ x.1)
    (lowest : dirLowest t.directory cursor = some (n, e)) : ∃ l, t.directory = (n, e) :: l := by
  cases directory : t.directory with
  | nil => rw [directory] at lowest; cases lowest
  | cons x l =>
    have first := (dirLowest_cons x.2 l (above x (by rw [directory]; exact List.mem_cons_self ..))).1
    rw [directory, first] at lowest
    exact ⟨l, by rw [← Option.some.inj lowest]⟩

theorem directory_of_no_lowest {t : Tube} {cursor : Nat} (above : ∀ x ∈ t.directory, cursor ≤ x.1)
    (none : dirLowest t.directory cursor = none) : t.directory = [] := by
  rw [List.eq_nil_iff_forall_not_mem]
  intro x hx
  have below := List.find?_eq_none.mp none x hx
  rw [decide_eq_true_eq] at below
  exact below (above x hx)

/-- R96: the engine WAITING or SENDING. -/
theorem setWaiting_keepsPages {s : State} {d : Drain} (busy : s.drain = some d) (waiting : Bool) :
    KeepsPages s (s.setDrain (some { d with waiting := waiting })) where
  law law := by
    rw [pageLaw_iff _ d.ctx] at law ⊢
    obtain ⟨once, ordered, drain⟩ := law
    exact ⟨once, ordered, (drainOk_busy (d := { d with waiting := waiting }) rfl).mpr ((drainOk_busy busy).mp drain)⟩
  cells := rfl

section
variable {s : State} {d : Drain} {t : Tube} (busy : s.drain = some d) (tube : tubeAt s d.ctx = some t)
include busy tube

/-- R95: what the law says of the tube that the engine holds. -/
theorem drainOk_tube (ok : drainOk s = true) :
    t.stage = .draining ∧ (∀ e ∈ t.directory, d.cursor ≤ e.1) ∧ stageIs s (otherCtx d.ctx) .draining = false ∧
      d.sent ≤ d.cursor ∧ d.cursor ≤ 256 := by
  obtain ⟨other, sent, cursor, x, hx, stage, above⟩ := (drainOk_busy busy).mp ok
  obtain rfl := Option.some.inj (tube.symm.trans hx)
  exact ⟨stage, above, other, sent, cursor⟩

/-- R97: the lowest segment's page goes to the free list. -/
theorem queueMapFrame_keepsPages {n : Nat} {e : DirEntry} (lowest : dirLowest t.directory d.cursor = some (n, e)) :
    KeepsPages s (queueMapFrame d t n e s) where
  law law := by
    rw [pageLaw_iff _ d.ctx] at law ⊢
    obtain ⟨once, ordered, drain⟩ := law
    obtain ⟨stage, above, other, sent, -⟩ := drainOk_tube busy tube drain
    obtain ⟨l, directory⟩ := directory_of_lowest above lowest
    have ok := (Tube.directoryOk_iff t).mp (ordered _ t tube)
    have first : d.cursor ≤ n := above (n, e) (by rw [directory]; exact List.mem_cons_self ..)
    have inMap : n < 256 := ok.2 (n, e) (by rw [directory]; exact List.mem_cons_self ..)
    have here : tubeAt (queueMapFrame d t n e s) d.ctx = some { t with directory := l } := by
      rw [queueMapFrame_eq directory first]
      exact tubeAt_putTube_same ..
    have there : tubeAt (queueMapFrame d t n e s) (otherCtx d.ctx) = tubeAt s (otherCtx d.ctx) := tubeAt_putTube_other ..
    refine ⟨fun p => ?_, ?_, (drainOk_busy (d := { d with cursor := n + 1, sent := d.sent + 1, waiting := false }) rfl).mpr
      ⟨?_, Nat.succ_le_succ (sent.trans first), inMap, _, here, stage, fun x hx => ?_⟩⟩
    · have count := once p
      rw [pagesAt_some tube, directory] at count
      rw [pagesAt_some here, pagesAt_of_tubeAt there]
      change (s.wall.free ++ [e.page]).count p + _ + _ = _
      simp only [dirPages, List.map_cons, List.count_cons, List.count_append, List.count_nil] at count ⊢
      omega
    · rw [queueMapFrame_eq directory first]
      refine putTube_directoriesOk ordered fun z hz => ?_
      obtain rfl := Option.some.inj hz
      exact Tube.directoryOk_of_sublist (x := t) (by rw [directory]; exact List.sublist_cons_self ..) (ordered _ t tube)
    · rw [← other, stageIs, there, stageIs]
    · have ascending := ok.1
      rw [directory, List.map_cons, List.pairwise_cons] at ascending
      exact ascending.1 x.1 (List.mem_map_of_mem hx)
  cells := rfl

/-- R78, R99: with no segment left, the context becomes FREE and the engine IDLE. -/
theorem queueMapEnd_keepsPages (none : dirLowest t.directory d.cursor = none) : KeepsPages s (queueMapEnd d t s) where
  law law := by
    rw [pageLaw_iff _ d.ctx] at law ⊢
    obtain ⟨once, ordered, drain⟩ := law
    obtain ⟨stage, above, other, -, -⟩ := drainOk_tube busy tube drain
    have empty := directory_of_no_lowest above none
    have here : tubeAt (queueMapEnd d t s) d.ctx = Option.none := by unfold queueMapEnd; cases d.ctx <;> rfl
    have there : tubeAt (queueMapEnd d t s) (otherCtx d.ctx) = tubeAt s (otherCtx d.ctx) := by
      unfold queueMapEnd; cases d.ctx <;> rfl
    refine ⟨fun p => ?_, fun c x hx => ?_, (drainOk_idle rfl).mpr fun c => ?_⟩
    · have count := once p
      rw [pagesAt_some tube, empty] at count
      rw [pagesAt_none here, pagesAt_of_tubeAt there]
      exact count
    · obtain rfl | rfl := Ctx.eq_or_other d.ctx c
      · rw [here] at hx; cases hx
      · exact ordered _ x (there ▸ hx)
    · obtain rfl | rfl := Ctx.eq_or_other d.ctx c
      · exact stageIs_of_free here _
      · rw [← other, stageIs, there, stageIs]
  cells := rfl

end

theorem drainOne_keepsPages (s : State) : KeepsPages s (drainOne s) := by
  unfold drainOne
  split
  · exact .refl s
  next d busy =>
    split
    next =>
      split
      · exact .refl s
      next tube =>
        split
        next lowest => exact queueMapFrame_keepsPages busy tube lowest
        next none => exact queueMapEnd_keepsPages busy tube none
    next => exact setWaiting_keepsPages busy true

theorem drainOn_keepsPages (n : Nat) (s : State) : KeepsPages s (drainOn n s) := by
  induction n generalizing s with
  | zero => exact .refl s
  | succ n ih =>
    unfold drainOn
    split
    · exact (drainOne_keepsPages s).trans ((takeContext_keepsPages _).trans (ih _))
    · exact .refl s

theorem runDrain_keepsPages (s : State) : KeepsPages s (runDrain s) := drainOn_keepsPages _ s

theorem examineDrain_keepsPages (s : State) : KeepsPages s (examineDrain s) :=
  (takeContext_keepsPages s).trans (runDrain_keepsPages _)

theorem markWaiting_keepsPages (s : State) : KeepsPages s (markWaiting s) := by
  unfold markWaiting
  split
  · exact .refl s
  next busy => exact setWaiting_keepsPages busy _

end Sys2Proof.Machine
end

section
/-! The law of pages through settling, tube end, truncation and tube start (R64, R65, R67, R75, R77), and through the work that
holds no page at all. -/

namespace Sys2Proof.Machine

/-! ### Settling and tube end -/

/-- R77: a context whose settling completes becomes CLOSED_WAIT. -/
theorem completeSettling_keepsPages {c : Ctx} {x : Tube} {s : State} (tube : tubeAt s c = some x)
    (settling : x.stage = .settling) : KeepsPages s (completeSettling c s) := by
  have offered := offerClosing_reports c s
  obtain ⟨y, hy, stands⟩ := offered.tube tube
  have stage : y.stage ≠ .draining := by rw [stands.stage, settling]; exact Stage.noConfusion
  unfold completeSettling
  rw [modTube_some hy]
  exact (KeepsPages.of_reports offered).trans
    ((putTube_keepsPages (y := { y with stage := .closedWait, settleEntry := none }) hy rfl stage Stage.noConfusion).trans
      (examineDrain_keepsPages _))

theorem examineSettle_keepsPages (c : Ctx) (s : State) : KeepsPages s (examineSettle c s) := by
  unfold examineSettle
  split
  · exact .refl s
  next tube =>
    split
    next stage _ =>
      split
      · exact completeSettling_keepsPages tube stage
      · exact .refl s
    next => exact .refl s

theorem examineBoth_keepsPages (s : State) : KeepsPages s (examineBoth s) :=
  .foldl (fun s c => examineSettle_keepsPages c s) _ s

theorem endTube_keepsPages (time : Time) (travel : Nat) (reason : CloseReason) (s : State) :
    KeepsPages s (endTube time travel reason s) := by
  cases active : activeCtx s with
  | none => unfold endTube; rw [active]; exact .refl s
  | some c =>
    obtain ⟨x, hx, stage⟩ := activeCtx_some active
    rw [endTube_some active hx]
    exact putTube_keepsPages hx rfl (by rw [stage]; exact Stage.noConfusion) Stage.noConfusion

theorem losePosition_keepsPages (s : State) : KeepsPages s (losePosition s) := by
  unfold losePosition
  split
  · split
    · exact .refl s
    · exact (endTube_keepsPages _ _ _ s).trans (raise_keepsPages _ _ _)
  · exact .refl s

/-! ### Truncation and tube start (R64, R65) -/

/-- R65 step 3, R100: the engine stops when it holds the context, and goes on otherwise. -/
theorem stopDrain_cases (c : Ctx) (s : State) :
    (∃ d, s.drain = some d ∧ d.ctx = c ∧ stopDrain c s = s.setDrain none) ∨
    ((∀ d, s.drain = some d → d.ctx ≠ c) ∧ stopDrain c s = s) := by
  cases busy : s.drain with
  | none => exact .inr ⟨(fun _ h => nomatch h), by rw [stopDrain, busy]⟩
  | some d =>
    by_cases here : d.ctx = c
    · exact .inl ⟨d, rfl, here, by rw [stopDrain, busy]; exact if_pos here⟩
    · exact .inr ⟨fun g h => Option.some.inj h ▸ here, by rw [stopDrain, busy]; exact if_neg here⟩

/-- R65, R95: once a context that the engine may hold is FREE, the engine stands stopped or holds the other one. -/
theorem stopDrain_drainOk {c : Ctx} {s t : State} (drain : t.drain = (stopDrain c s).drain) (here : tubeAt t c = none)
    (there : tubeAt t (otherCtx c) = tubeAt s (otherCtx c)) (ok : drainOk s = true) : drainOk t = true := by
  have stages (g : Stage) : stageIs t (otherCtx c) g = stageIs s (otherCtx c) g := by rw [stageIs, there, stageIs]
  obtain ⟨d, busy, rfl, stopped⟩ | ⟨away, same⟩ := stopDrain_cases c s
  · rw [stopped] at drain
    refine (drainOk_idle drain).mpr fun e => ?_
    obtain rfl | rfl := Ctx.eq_or_other d.ctx e
    · exact stageIs_of_free here _
    · exact (stages _).trans ((drainOk_busy busy).mp ok).1
  · rw [same] at drain
    cases busy : s.drain with
    | none =>
      refine (drainOk_idle (drain.trans busy)).mpr fun e => ?_
      obtain rfl | rfl := Ctx.eq_or_other c e
      · exact stageIs_of_free here _
      · exact (stages _).trans ((drainOk_idle busy).mp ok _)
    | some d =>
      obtain ⟨-, sent, cursor, x, hx, stage, above⟩ := (drainOk_busy busy).mp ok
      have other := (Ctx.eq_or_other c d.ctx).resolve_left (away d busy)
      rw [drainOk_busy (drain.trans busy), other, otherCtx_otherCtx, there, ← other]
      exact ⟨stageIs_of_free here _, sent, cursor, x, hx, stage, above⟩

/-- R65 steps 2 to 4: the engine stopped if it holds context `c`, the context FREE, the pages of its tube `x` given back. -/
def released (c : Ctx) (x : Tube) (s : State) : State :=
  putTube c none ((stopDrain c s).setWall
    { (stopDrain c s).wall with free := (stopDrain c s).wall.free ++ dirPages x.directory })

theorem released_wall (c : Ctx) (x : Tube) (s : State) :
    (released c x s).wall = { s.wall with free := s.wall.free ++ dirPages x.directory } := by
  rw [released, putTube_wall, State.setWall_wall, (stopDrain_rest c s).1]

theorem released_tube (c : Ctx) (x : Tube) (s : State) :
    tubeAt (released c x s) c = none ∧ tubeAt (released c x s) (otherCtx c) = tubeAt s (otherCtx c) := by
  rw [released, tubeAt_putTube_same, tubeAt_putTube_other, tubeAt, State.setWall_tubes, stopDrain_tubes]
  exact ⟨rfl, rfl⟩

theorem released_keepsPages {c : Ctx} {x : Tube} {s : State} (tube : tubeAt s c = some x) :
    KeepsPages s (released c x s) := by
  obtain ⟨here, there⟩ := released_tube c x s
  refine ⟨fun law => ?_, by rw [released_wall]⟩
  rw [pageLaw_iff _ c] at law ⊢
  obtain ⟨once, ordered, drain⟩ := law
  refine ⟨fun p => ?_, fun d z hz => ?_, stopDrain_drainOk rfl here there drain⟩
  · have count := once p
    rw [pagesAt_some tube] at count
    rw [pagesAt_none here, pagesAt_of_tubeAt there, released_wall, List.count_append]
    exact count
  · obtain rfl | rfl := Ctx.eq_or_other c d
    · rw [here] at hz; cases hz
    · exact ordered _ z (there ▸ hz)

theorem truncateSummary_keepsPages (c : Ctx) (s : State) : KeepsPages s (truncateSummary c s) := by
  unfold truncateSummary
  split
  · exact (modTube_keepsPages c Tube.markTruncated s).trans
      (.of_reports (offerTube_reports c _))
  · exact .refl s

theorem truncate_keepsPages (c : Ctx) (s : State) : KeepsPages s (truncate c s) := by
  cases tube : tubeAt s c with
  | none => rw [truncate_free tube]; exact .refl s
  | some o =>
    have summed := (truncateSummary_heralds c s).tubes c
    rw [tube, Option.map_some, Option.map_eq_some_iff] at summed
    obtain ⟨x, hx, same⟩ := summed
    obtain ⟨-, directory⟩ := Prod.mk.inj same
    have freed : pagesFreed c o s = released c x (truncateSummary c s) := by rw [pagesFreed, ← directory, released]
    rw [truncate_some tube, freed]
    exact (truncateSummary_keepsPages c s).trans ((released_keepsPages hx).trans (raise_keepsPages _ _ _))

/-- R64 step 4: a FREE context takes a tube without pages. -/
theorem takeTube_keepsPages {c : Ctx} {s : State} (free : tubeAt s c = none) (b : Bank) (time : Time) (travel : Nat) :
    KeepsPages s (takeTube c b time travel s) where
  law law := by
    rw [pageLaw_iff _ c] at law ⊢
    obtain ⟨once, ordered, drain⟩ := law
    have here := takeTube_same c b time travel s
    have there := takeTube_other c b time travel s
    refine ⟨fun p => ?_, fun d x hx => ?_, drainOk_of_draining (s := s) rfl (fun d => ?_)
      (fun d x y hx hy stage => ?_) drain⟩
    · have count := once p
      rw [pagesAt_none free] at count
      rw [pagesAt_some here, pagesAt_of_tubeAt there]
      exact count
    · obtain rfl | rfl := Ctx.eq_or_other c d
      · rw [here] at hx
        obtain rfl := Option.some.inj hx
        rfl
      · exact ordered _ x (there ▸ hx)
    · obtain rfl | rfl := Ctx.eq_or_other c d
      · rw [stageIs_of_tubeAt here, stageIs_of_free free]; rfl
      · rw [stageIs, there, stageIs]
    · obtain rfl | rfl := Ctx.eq_or_other c d
      · rw [free] at hx; cases hx
      · rw [there, hx] at hy
        obtain rfl := Option.some.inj hy
        exact fun e he => ⟨e, he, rfl⟩
  cells := rfl

/-! ### Applies (R131, R132) and the calibration run (R114 to R121) -/

theorem compareSnapshot_keepsPages (h : HeadNo) (s : State) : KeepsPages s (compareSnapshot h s) := by
  unfold compareSnapshot
  split
  · exact .refl s
  · exact raise_keepsPages _ _ s

theorem endRun_keepsPages (r : CalRun) (o : CalOutcome) (k : Option Nat) (s : State) : KeepsPages s (endRun r o k s) := by
  have factor : KeepsPages s (writeFactor r o k s) := by
    unfold writeFactor
    split
    · exact .of_eq
    · exact .refl s
  exact factor.trans ((offerSummary_keepsPages _ _).trans ((raise_keepsPages _ _ _).trans .of_eq))

theorem abortRun_keepsPages (s : State) : KeepsPages s (abortRun s) := by
  unfold abortRun
  split
  · exact .refl s
  · exact endRun_keepsPages _ _ _ s

theorem expireRun_keepsPages (s : State) : KeepsPages s (expireRun s) := by
  unfold expireRun
  split
  · exact .refl s
  split
  · exact endRun_keepsPages _ _ _ s
  · exact .refl s

theorem abortDisabledRun_keepsPages (s : State) : KeepsPages s (abortDisabledRun s) := by
  unfold abortDisabledRun
  split
  · exact .refl s
  split
  · exact .refl s
  · exact abortRun_keepsPages s

theorem reportRebank_keepsPages (old : State) (h : HeadNo) (s : State) : KeepsPages s (reportRebank old h s) := by
  unfold reportRebank
  split
  · exact .refl s
  · exact compareSnapshot_keepsPages h s

theorem carryOutApply_keepsPages (s : State) : KeepsPages s (carryOutApply s) := by
  have copied : KeepsPages s (copyBank s) := .of_eq
  have rebanked (u : State) : KeepsPages u (allHeads.foldl (fun x h => rebankHead s h x) u) := .foldl (fun _ _ => .of_eq) _ u
  have reported (u : State) : KeepsPages u (allHeads.foldl (fun x h => reportRebank s h x) u) :=
    .foldl (fun x h => reportRebank_keepsPages s h x) _ u
  exact copied.trans ((rebanked _).trans ((reported _).trans (abortDisabledRun_keepsPages _)))

theorem pendingApply_keepsPages (s : State) : KeepsPages s (pendingApply s) := by
  unfold pendingApply
  split
  · split
    · exact carryOutApply_keepsPages s
    · exact KeepsPages.trans .of_eq (raise_keepsPages _ _ (s.setAgent _))
  · exact .refl s

theorem startTube_keepsPages (time : Time) (travel : Nat) (s : State) : KeepsPages s (startTube time travel s) := by
  simp only [startTube]
  split
  · exact pendingApply_keepsPages s
  · exact (pendingApply_keepsPages s).trans ((truncate_keepsPages _ _).trans (takeTube_keepsPages (truncate_gone _ _) _ _ _))

/-! ### The presence run (R57 to R59) -/

theorem changePresence_keepsPages (s : State) : KeepsPages s (changePresence s) := by
  have flipped : KeepsPages s (flipPresence s) := .of_eq
  simp only [changePresence]
  split
  · exact flipped
  · split
    · exact flipped.trans (startTube_keepsPages _ _ _)
    · exact flipped
  · exact flipped.trans (endTube_keepsPages _ _ _ _)

theorem advancePresence_keepsPages (f : Sample) (s : State) : KeepsPages s (advancePresence f s) := by
  have advanced : KeepsPages s (modPose (fun p => p.advanceRun f) s) := .of_eq
  simp only [advancePresence]
  split
  · exact advanced.trans (changePresence_keepsPages _)
  · exact advanced

end Sys2Proof.Machine
end

section
/-! What a reading placed does to the page pool (R70, R87 to R92): its cell updated, a page given to its segment from the free
list or from the other context, and the law of pages and the pool's canonical form kept. -/

namespace Sys2Proof.Machine

/-- The law of pages and the canonical form of the pool are kept. -/
structure KeepsMap (s t : State) : Prop where
  pages : PageLaw s → PageLaw t
  pool : PoolLaw s → PoolLaw t

theorem KeepsPages.map {s t : State} (h : KeepsPages s t) : KeepsMap s t :=
  ⟨h.law, by rw [PoolLaw, PoolLaw, h.cells]; exact id⟩

namespace KeepsMap

theorem refl (s : State) : KeepsMap s s := ⟨id, id⟩

theorem trans {s t u : State} (a : KeepsMap s t) (b : KeepsMap t u) : KeepsMap s u :=
  ⟨b.pages ∘ a.pages, b.pool ∘ a.pool⟩

theorem foldl {α : Type} {f : State → α → State} (step : ∀ s x, KeepsMap s (f s x)) (l : List α) (s : State) :
    KeepsMap s (l.foldl f s) := by
  induction l generalizing s with
  | nil => exact refl s
  | cons x rest ih => exact (step s x).trans (ih _)

end KeepsMap

/-! ### A cell, and a page for it (R88, R89, R92) -/

/-- R92: the cell written and its segment's reading counted. -/
theorem updateCell_keepsMap (c : Ctx) (page bin sector : Nat) (r : Reading) (s : State) :
    KeepsMap s (updateCell c page bin sector r s) := by
  cases tube : tubeAt s c with
  | none => rw [updateCell, tube]; exact .refl s
  | some t =>
    rw [updateCell_some tube]
    refine ⟨SamePages.pageLaw ⟨rfl, rfl, fun d => ?_⟩, poolWf_writeCell _ _⟩
    obtain rfl | rfl := Ctx.eq_or_other c d
    · rw [tubeAt_putTube_same, tube, Option.map_some, Option.map_some, Tube.pages, dirCount_pages, Tube.pages]
    · rw [tubeAt_putTube_other]
      rfl

/-- R89 steps 1 and 2: the tube that loses the page of its last segment. -/
def Tube.yielding (o : Tube) : Tube :=
  { o with directory := o.directory.dropLast, pagesLost := min 65535 (o.pagesLost + 1) }

section
variable {c : Ctx} {t : Tube} {s : State} {n : Nat} (tube : tubeAt s c = some t) (live : t.stage ≠ .draining)
  (inMap : n < 256) (absent : dirLookup t.directory n = none)
include tube live inMap absent

/-- R88: the head of the free list given to an absent segment. -/
theorem allocatePage_keepsMap {page : Nat} {rest : List Nat} (free : s.wall.free = page :: rest) :
    KeepsMap s (allocatePage c n page rest s) := by
  rw [allocatePage_some tube]
  refine ⟨fun law => ?_, poolWf_clearPage page⟩
  rw [pageLaw_iff _ c] at law ⊢
  obtain ⟨once, ordered, drain⟩ := law
  refine ⟨fun p => ?_, putTube_directoriesOk ordered fun z hz => ?_,
    putTube_drainOk (s := s.setWall _) tube Iff.rfl (fun stage => absurd stage live) drain⟩
  · have count := once p
    have given := ((dirInsert_perm t.directory n { page := page, readings := 0 }).map fun e => e.2.page).count_eq p
    rw [pagesAt_some tube, free] at count
    rw [pagesAt_some (tubeAt_putTube_same ..), pagesAt_of_tubeAt (tubeAt_putTube_other ..), putTube_wall, State.setWall_wall]
    change _ + _ + (pagesAt s (otherCtx c)).count p = _
    simp only [dirPages, List.map_cons, List.count_cons] at count given ⊢
    omega
  · obtain rfl := Option.some.inj hz
    exact dirInsert_directoryOk _ _ _ (ordered c t tube) absent inMap

/-- R89: the last present segment of the other context gives its page. -/
theorem reclaimPage_keepsMap {lost : Nat × DirEntry} (gives : reclaimFrom s c = some lost) :
    KeepsMap s (reclaimPage c n lost s) := by
  obtain ⟨o, other⟩ := reclaimFrom_tube gives
  have last : o.directory.getLast? = some lost := by
    rw [reclaimFrom, other] at gives
    dsimp only at gives
    split at gives
    · exact gives
    · exact gives
    · cases gives
    · cases gives
  obtain ⟨l, directory⟩ := List.getLast?_eq_some_iff.mp last
  rw [reclaimPage_some tube other, show ({ o with directory := o.directory.dropLast, pagesLost := min 65535 (o.pagesLost + 1) } :
    Tube) = o.yielding from rfl]
  refine KeepsMap.trans ⟨fun law => ?_, poolWf_clearPage lost.2.page⟩ (raise_keepsPages _ _ _).map
  rw [pageLaw_iff _ c] at law ⊢
  obtain ⟨once, ordered, drain⟩ := law
  have fewer : o.yielding.directory.Sublist o.directory := List.dropLast_sublist _
  have ordered' := putTube_directoriesOk (c := otherCtx c) (o := some o.yielding) ordered fun z hz => by
    obtain rfl := Option.some.inj hz
    exact Tube.directoryOk_of_sublist fewer (ordered _ o other)
  have drain' := putTube_drainOk (y := o.yielding) other Iff.rfl (fun _ e he => ⟨e, fewer.subset he, rfl⟩) drain
  have tube' : tubeAt (putTube (otherCtx c) (some o.yielding) s) c = some t := by
    have untouched := tubeAt_putTube_other (otherCtx c) (some o.yielding) s
    rwa [otherCtx_otherCtx, tube] at untouched
  have there (w : WallMap) : tubeAt ((putTube (otherCtx c) (some o.yielding) s).setWall w) (otherCtx c) = some o.yielding :=
    tubeAt_putTube_same ..
  refine ⟨fun p => ?_, putTube_directoriesOk ordered' fun z hz => ?_,
    putTube_drainOk (s := (putTube (otherCtx c) _ s).setWall _) tube' Iff.rfl (fun stage => absurd stage live) drain'⟩
  · have count := once p
    have given := ((dirInsert_perm t.directory n { page := lost.2.page, readings := 0 }).map fun e => e.2.page).count_eq p
    rw [pagesAt_some tube, pagesAt_some other, directory] at count
    rw [pagesAt_some (tubeAt_putTube_same ..), pagesAt_some ((tubeAt_putTube_other ..).trans (there _)), putTube_wall,
      State.setWall_wall, Tube.yielding, directory, List.dropLast_concat]
    simp only [dirPages, List.map_append, List.map_cons, List.map_nil, List.count_append, List.count_cons, List.count_nil]
      at count given ⊢
    omega
  · obtain rfl := Option.some.inj hz
    exact dirInsert_directoryOk _ _ _ (ordered c t tube) absent inMap

end

/-! ### Readings placed, counted and offered (R70 to R73) -/

theorem placeValid_keepsMap {c : Ctx} {t : Tube} {s : State} (tube : tubeAt s c = some t) (live : t.stage ≠ .draining)
    (bin sector : Nat) (r : Reading) : KeepsMap s (placeValid c t bin sector r s).2 := by
  simp only [placeValid]
  split
  · exact .refl s
  next inMap =>
    split
    next => exact updateCell_keepsMap c _ bin sector r s
    next absent =>
      split
      next free =>
        exact (allocatePage_keepsMap tube live (Nat.not_le.mp inMap) absent free).trans (updateCell_keepsMap c _ bin sector r _)
      next =>
        split
        next gives =>
          exact (reclaimPage_keepsMap tube live (Nat.not_le.mp inMap) absent gives).trans
            (updateCell_keepsMap c _ bin sector r _)
        next => exact (raise_keepsPages _ _ s).map

theorem decideReading_keepsPages (r : Reading) (s : State) : KeepsPages s (decideReading r s) :=
  .of_eq (decideReading_tubes r s) (decideReading_wall r s) (decideReading_drain r s)

theorem countAndOffer_keepsPages (c : Ctx) (r : Reading) (p : Placement) (s : State) :
    KeepsPages s (countAndOffer c r p s) :=
  (modTube_keepsPages c (Tube.countReading r.outcome p) s).trans (decideReading_keepsPages _ _)

theorem assignLive_keepsMap {c : Ctx} {t : Tube} {s : State} (tube : tubeAt s c = some t) (live : t.stage ≠ .draining)
    (r : Reading) (p : Pose) : KeepsMap s (assignLive c t r p s) := by
  simp only [assignLive]
  split
  · exact (countAndOffer_keepsPages c _ _ s).map
  split
  · exact (countAndOffer_keepsPages c _ _ s).map
  split
  · exact (countAndOffer_keepsPages c _ _ s).map
  · exact (placeValid_keepsMap tube live _ _ _).trans (countAndOffer_keepsPages c _ _ _).map

/-- R69, R70: a reading is placed on a live tube only, which is not DRAINING. -/
theorem assignPosed_keepsMap (r : Reading) (p : Pose) (s : State) : KeepsMap s (assignPosed r p s) := by
  unfold assignPosed
  split
  · exact (decideReading_keepsPages _ s).map
  · exact ((raise_keepsPages _ _ s).trans (decideReading_keepsPages _ _)).map
  next span =>
    obtain ⟨t, tube, live⟩ := spanOf_live span
    rw [tube]
    exact assignLive_keepsMap tube (by rcases live with live | live <;> rw [live] <;> exact Stage.noConfusion) r p

theorem assignUnposed_keepsPages (r : Reading) (p : Placement) (s : State) : KeepsPages s (assignUnposed r p s) := by
  unfold assignUnposed
  split
  · split
    · exact .refl s
    · exact countAndOffer_keepsPages _ _ p s
  all_goals exact decideReading_keepsPages _ s

theorem extrapolate_keepsMap (r : Reading) (s : State) : KeepsMap s (extrapolate r s) := by
  unfold extrapolate
  split
  · exact (assignUnposed_keepsPages r _ s).map
  · split
    · exact assignPosed_keepsMap _ _ s
    · exact (assignUnposed_keepsPages r _ s).map

theorem interpolateNewest_keepsMap (r : Reading) (s : State) : KeepsMap s (interpolateNewest r s) := by
  unfold interpolateNewest
  split
  · exact (assignUnposed_keepsPages r _ s).map
  · exact assignPosed_keepsMap r _ s

theorem modPose_keepsPages (f : PoseTracker → PoseTracker) (s : State) : KeepsPages s (modPose f s) := .of_eq

theorem resolvePending_keepsMap (due : Reading → Bool) {how : Reading → State → State}
    (resolves : ∀ r s, KeepsMap s (how r s)) (s : State) : KeepsMap s (resolvePending due how s) :=
  (modPose_keepsPages _ s).map.trans (.foldl (fun x r => resolves r x) _ _)

theorem joinPending_keepsMap (r : Reading) (s : State) : KeepsMap s (joinPending r s) := by
  unfold joinPending
  split
  · split
    · exact (modPose_keepsPages _ s).map.trans ((extrapolate_keepsMap _ _).trans (modPose_keepsPages _ _).map)
    · exact (modPose_keepsPages _ s).map
  · exact (modPose_keepsPages _ s).map

theorem resolveReading_keepsMap (r : Reading) (s : State) : KeepsMap s (resolveReading r s) := by
  unfold resolveReading
  split
  · split
    · exact (assignUnposed_keepsPages r _ s).map
    split
    · split
      · exact assignPosed_keepsMap r _ s
      · exact (assignUnposed_keepsPages r _ s).map
    split
    · exact joinPending_keepsMap r s
    · exact extrapolate_keepsMap r s
  · exact (assignUnposed_keepsPages r _ s).map

/-! ### The commands that may place a reading -/

theorem runTakes_keepsPages (r : Reading) (s : State) : KeepsPages s (runTakes r s) := by
  simp only [runTakes]
  split
  · exact .refl s
  next x _ =>
    have taken : KeepsPages s (s.setAgent { s.agent with run := some (x.take r) }) := .of_eq
    split
    · exact taken.trans ((endRun_keepsPages _ _ _ _).trans (decideReading_keepsPages _ _))
    · exact taken.trans (decideReading_keepsPages _ _)

theorem completeEvaluation_keepsMap (ev : Evaluation) (s : State) : KeepsMap s (completeEvaluation ev s) := by
  have handed : KeepsMap s (handOn ev.tie (evaluate ev) (s.setEvaluator none)) := by
    refine KeepsMap.trans (KeepsPages.of_eq (t := s.setEvaluator none)).map ?_
    unfold handOn
    split
    · exact resolveReading_keepsMap _ _
    · exact (runTakes_keepsPages _ _).map
    · exact .refl _
  have flawed (u : State) : KeepsPages u (raiseFlaw (evaluate ev) u) := by
    unfold raiseFlaw
    split
    · exact raise_keepsPages _ _ _
    · exact .refl u
  have fallen (u : State) : KeepsPages u (raiseTempFallback (evaluate ev) ev.slice.channel u) := by
    unfold raiseTempFallback
    split
    · exact raise_keepsPages _ _ _
    · exact .refl u
  have mirrored (m : MirrorFrame) (u : State) : KeepsPages u (decideMirror m u) :=
    .of_eq (decideMirror_tubes m u) (decideMirror_wall m u) (decideMirror_drain m u)
  exact handed.trans ((flawed _).trans ((fallen _).trans (mirrored _ _))).map

theorem takePosition_keepsMap (f : PositionFrame) (s : State) : KeepsMap s (takePosition f s) := by
  unfold takePosition
  split
  · exact ((modPose_keepsPages _ s).trans (raise_keepsPages _ _ _)).map
  split
  · exact ((modPose_keepsPages _ s).trans (raise_keepsPages _ _ _)).map
  · have joined := (modPose_keepsPages _ s).trans (advancePresence_keepsPages (sampleOf f) (acceptSample (sampleOf f) s))
    exact joined.map.trans ((resolvePending_keepsMap _ interpolateNewest_keepsMap _).trans
      ((KeepsPages.of_reports (closeRingsByLead_reports _ _)).trans
        ((examineBoth_keepsPages _).trans (examineDrain_keepsPages _))).map)

theorem expirePosition_keepsMap (s : State) : KeepsMap s (expirePosition s) := by
  simp only [expirePosition]
  split
  · exact (modPose_keepsPages _ s).map.trans ((resolvePending_keepsMap _ extrapolate_keepsMap _).trans
      ((losePosition_keepsPages _).trans (modPose_keepsPages _ _)).map)
  · exact .refl s

theorem expireSettle_keepsMap (c : Ctx) (s : State) : KeepsMap s (expireSettle c s) := by
  unfold expireSettle
  split
  · exact .refl s
  next t tube =>
    split
    · exact .refl s
    next e _ =>
      split
      next due =>
        obtain ⟨x, _, hx, settling, _⟩ := settleDue_stage due
        have stands : Standing tubeKinds s
            (resolvePending (fun r => notLater r.timestamp e.time) extrapolate (raise .settleTimeout (.tube t.id) s)) :=
          (raise_standing (by decide) noticeLost_notMem_tubeKinds _ s).trans (resolvePending_standing _ extrapolate_standing _)
        obtain ⟨y, hy, same⟩ := stands.tube hx
        exact (raise_keepsPages _ _ s).map.trans ((resolvePending_keepsMap _ extrapolate_keepsMap _).trans
          (completeSettling_keepsPages hy (same.stage.trans settling)).map)
      next => exact .refl s

theorem loseHead_keepsPages (h : HeadNo) (s : State) : KeepsPages s (loseHead h s) := by
  unfold loseHead
  split
  · exact .refl s
  split
  · exact .refl s
  · exact (modTube_keepsPages _ _ s).trans (raise_keepsPages _ _ _)

theorem allHeadsLost_keepsPages (s : State) : KeepsPages s (allHeadsLost s) := by
  unfold allHeadsLost
  split
  · exact .refl s
  split
  · exact .refl s
  split
  · exact raise_keepsPages _ _ s
  · exact .refl s

theorem modHead_keepsPages (h : HeadNo) (f : HeadRecord → HeadRecord) (s : State) : KeepsPages s (modHead h f s) := .of_eq

theorem expireHead_keepsPages (h : HeadNo) (s : State) : KeepsPages s (expireHead h s) := by
  unfold expireHead
  split
  · exact (modHead_keepsPages h _ s).trans ((loseHead_keepsPages h _).trans
      ((allHeadsLost_keepsPages _).trans (compareSnapshot_keepsPages h _)))
  · exact .refl s

theorem fireDueTimers_keepsMap (s : State) : KeepsMap s (fireDueTimers s) := by
  have silent (u : State) : KeepsPages u (allHeads.foldl (fun x h => expireHead h x) u) :=
    .foldl (fun x h => expireHead_keepsPages h x) _ u
  have settled (l : List Ctx) (u : State) : KeepsMap u (l.foldl (fun x c => expireSettle c x) u) :=
    .foldl (fun x c => expireSettle_keepsMap c x) l u
  have ended (u : State) : KeepsPages u (examineBoth (expireRun u)) := (expireRun_keepsPages u).trans (examineBoth_keepsPages _)
  simp only [fireDueTimers]
  exact (silent s).map.trans ((expirePosition_keepsMap _).trans ((settled _ _).trans (ended _).map))

end Sys2Proof.Machine
end

section
/-! Command by command: which of them can change a cell (R88, R89, R91, R97), and that all of them keep the law of pages (R83,
R86, R95) and the canonical form of the pool. -/

namespace Sys2Proof.Machine

/-! ### Frames, requests and the transmitter -/

theorem rejectHeadFrame_keepsPages (r : HeadReject) (s : State) : KeepsPages s (rejectHeadFrame r s) := by
  have counted (f : HeadCounters → HeadCounters) : KeepsPages s (modHeadCounters f s) := .of_eq
  cases r with
  | traceFields h => exact (counted _).trans ((modHead_keepsPages h _ _).trans (raise_keepsPages _ _ _))
  | frameCheck | kind | source | length => exact (counted _).trans (raise_keepsPages _ _ _)

theorem rejectMillFrame_keepsPages (r : MillReject) (s : State) : KeepsPages s (rejectMillFrame r s) := by
  have counted (f : MillCounters → MillCounters) : KeepsPages s (modMillCounters f s) := .of_eq
  cases r <;> exact (counted _).trans (raise_keepsPages _ _ _)

theorem queueRequest_keepsPages (r : Request) (s : State) : KeepsPages s (queueRequest r s) := by
  unfold queueRequest
  split
  · exact .of_eq
  · exact (KeepsPages.of_eq (t := modMillCounters _ s)).trans (raise_keepsPages _ _ _)

theorem admitTrace_keepsPages (t : Trace) (s : State) : KeepsPages s (admitTrace t s) := by
  unfold admitTrace
  split
  · split
    · exact .of_eq
    · exact (modHead_keepsPages t.head _ s).trans (raise_keepsPages _ _ _)
  · exact modHead_keepsPages t.head _ s

theorem acceptTrace_keepsPages (t : Trace) (g : Nat) (s : State) : KeepsPages s (acceptTrace t g s) := by
  have counted : KeepsPages s (countGap t.head g s) := by
    unfold countGap
    split
    · exact .refl s
    · exact (modHead_keepsPages t.head _ s).trans (raise_keepsPages _ _ _)
  have accepted := counted.trans (modHead_keepsPages t.head (HeadRecord.accept s.now t) _)
  refine accepted.trans (KeepsPages.trans ?_ ((admitTrace_keepsPages t _).trans (examineBoth_keepsPages _)))
  split
  · exact .refl _
  · exact compareSnapshot_keepsPages _ _

theorem checkSequence_keepsPages (t : Trace) (s : State) : KeepsPages s (checkSequence t s) := by
  simp only [checkSequence]
  split
  · exact modHead_keepsPages t.head _ s
  · exact acceptTrace_keepsPages t 0 s
  all_goals
    split
    · exact acceptTrace_keepsPages t _ s
    · exact (modHead_keepsPages t.head _ s).trans (raise_keepsPages _ _ _)

theorem startEvaluation_keepsPages (t : Trace) (rest : List Trace) (s : State) : KeepsPages s (startEvaluation t rest s) := by
  simp only [startEvaluation]
  split
  · exact .of_eq
  split <;> exact .of_eq

theorem releaseHeld_keepsPages (s : State) : KeepsPages s (releaseHeld s) := by
  unfold releaseHeld
  split
  · exact .refl s
  split
  · exact .of_eq
  · exact .refl s

theorem startTransmission_keepsPages (s : State) : KeepsPages s (startTransmission s) := by
  have sent (m : MillPort) : KeepsPages s (s.setMill m) := .of_eq
  unfold startTransmission
  split
  · split
    · exact (sent _).trans (releaseHeld_keepsPages _)
    · exact sent _
    · exact sent _
    · exact (sent _).trans (runDrain_keepsPages _)
    · exact sent _
    · exact sent _
    · exact .refl s
  · exact .refl s

/-! ### The work of requests -/

theorem clearEvent_keepsPages (k : EventKind) (s : State) : KeepsPages s (clearEvent k s) := by
  have cleared (x : EventUnit) : KeepsPages s (s.setEvents x) := .of_eq
  have raised (u : State) : KeepsPages u (reraiseHeadChange u) := by
    unfold reraiseHeadChange
    split
    · exact .refl u
    · exact compareSnapshot_keepsPages _ u
  simp only [clearEvent]
  split
  · exact (cleared _).trans (raised _)
  · exact cleared _

theorem offerNotice_keepsPages (n : Notice) (s : State) : KeepsPages s (offerNotice n s) := by
  refine .of_samePages ⟨by rw [offerNotice_wall], offerNotice_drain n s, fun c => ?_⟩ (by rw [offerNotice_wall])
  obtain ⟨worst, h⟩ := (offerNotice_noticeOnly n s).tubeAt c
  rw [h, Option.map_map]
  rfl

theorem storeEvent_keepsPages (k : EventKind) (severity : Severity) (report : Bool) (s : State) :
    KeepsPages s (storeEvent k severity report s) := by
  have noted (x : EventUnit) : KeepsPages s (noteWorst (s.setEvents x)) :=
    (KeepsPages.of_eq (t := s.setEvents x)).trans (noteWorst_keepsPages _)
  simp only [storeEvent]
  split
  · exact (noted _).trans (offerNotice_keepsPages _ _)
  · exact noted _

theorem clearEntry_keepsPages (e : EntryName) (s : State) : KeepsPages s (clearEntry e s) := by
  cases e with
  | event k => exact clearEvent_keepsPages k s
  | headStatus | tempChannel | fault | portCounters => exact .of_eq
  | head | gate | velocity | velocityCount | mapSetup | timing | output | calib | pose | context | directory | mapPage =>
    exact .refl s

theorem storeEntry_keepsMap (e : EntryName) (d : List Byte) (s : State) : KeepsMap s (storeEntry e d s).1 := by
  unfold storeEntry
  cases e <;> dsimp only
  case timing => exact KeepsMap.trans (KeepsPages.of_eq (t := s.setAgent _)).map (fireDueTimers_keepsMap _)
  case event k => exact (storeEvent_keepsPages k _ _ s).map
  case headStatus | tempChannel | pose | context | directory | mapPage | fault | portCounters => exact .refl s
  case output | calib | head | gate | velocity | velocityCount | mapSetup => exact KeepsPages.map .of_eq

theorem readWork_keepsPages (r : Request) (s : State) : KeepsPages s (readWork r s).state := by
  unfold readWork
  split
  · exact .refl s
  · unfold afterRead
    split
    · exact .of_eq
    all_goals exact .refl s

theorem writeWork_keepsMap (r : Request) (s : State) : KeepsMap s (writeWork r s).state := by
  unfold writeWork
  split
  · exact .refl s
  · exact storeEntry_keepsMap _ _ s

theorem exchangeWork_keepsMap (r : Request) (s : State) : KeepsMap s (exchangeWork r s).state := by
  unfold exchangeWork
  split
  · exact .refl s
  · exact storeEntry_keepsMap _ _ s

theorem clearWork_keepsPages (r : Request) (s : State) : KeepsPages s (clearWork r s).state := by
  unfold clearWork
  split
  · exact .refl s
  · exact clearEntry_keepsPages _ s

theorem applyWork_keepsPages (r : Request) (s : State) : KeepsPages s (applyWork r s).state := by
  unfold applyWork
  split
  · exact .of_eq
  split
  · exact .of_eq
  split
  · exact .refl s
  · exact (carryOutApply_keepsPages s).trans (examineBoth_keepsPages _)

theorem changeMode_keepsPages (m : Mode) (s : State) : KeepsPages s (changeMode m s) := by
  have left : KeepsPages s (leaveCalibrate s) := by
    unfold leaveCalibrate
    split
    · exact abortRun_keepsPages s
    · exact .refl s
  have ended (u : State) : KeepsPages u (leaveMeasure m u) := by
    unfold leaveMeasure
    split
    · exact endTube_keepsPages _ _ _ u
    · exact .refl u
  have moved (u : State) : KeepsPages u (u.setAgent { u.agent with mode := m }) := .of_eq
  exact left.trans ((ended _).trans ((moved _).trans (examineBoth_keepsPages _)))

theorem modeWork_keepsPages (r : Request) (s : State) : KeepsPages s (modeWork r s).state := by
  unfold modeWork
  split
  · exact .refl s
  split
  · exact .refl s
  split
  · exact .refl s
  split
  · exact .refl s
  · exact changeMode_keepsPages _ s

theorem calibrateWork_keepsPages (r : Request) (s : State) : KeepsPages s (calibrateWork r s).state := by
  unfold calibrateWork
  split
  · exact .refl s
  split
  · exact .refl s
  split
  · exact .refl s
  split
  · exact .refl s
  · exact .of_eq

/-- R83, R84: every page on the free list, both contexts FREE, the engine IDLE. -/
theorem pageLaw_of_empty {s : State} (free : s.wall.free = List.range 384) (a : s.tubes.a = none) (b : s.tubes.b = none)
    (drain : s.drain = none) : PageLaw s := by
  refine ⟨by rw [free, a, b]; exact .of_eq (List.append_nil _), by rw [a]; rfl, by rw [b]; rfl,
    (drainOk_idle drain).mpr fun c => ?_⟩
  cases c
  · exact stageIs_of_free (c := .a) a _
  · exact stageIs_of_free (c := .b) b _

/-- R84, R164: a RESTART frees every page and changes no cell. -/
theorem restart_keepsPages (s : State) : KeepsPages s (restart s) := by
  have wall : (restart s).wall = { s.wall with free := List.range 384 } := rfl
  exact ⟨fun _ => pageLaw_of_empty (by rw [wall]) rfl rfl rfl, by rw [wall]⟩

theorem respond_keepsPages (r : Request) (a : Response) (s : State) : KeepsPages s (respond r a s) := by
  obtain ⟨_, h⟩ | ⟨_, h⟩ := respond_cases r a s <;> rw [h] <;> exact .of_eq

/-- R155: taking the oldest request keeps what its work keeps. -/
theorem takeOldest_keepsPages (want : Request → Bool) {work : Request → State → Answer}
    (works : ∀ r s, KeepsPages s (work r s).state) (s : State) : KeepsPages s (takeOldest want work s) := by
  obtain h | ⟨r, rest, -, -, -, h⟩ := takeOldest_cases want work s <;> rw [h]
  · exact .refl s
  · exact (KeepsPages.of_eq (t := s.setMill _)).trans ((works r _).trans (respond_keepsPages _ _ _))

theorem takeOldest_keepsMap (want : Request → Bool) {work : Request → State → Answer}
    (works : ∀ r s, KeepsMap s (work r s).state) (s : State) : KeepsMap s (takeOldest want work s) := by
  obtain h | ⟨r, rest, -, -, -, h⟩ := takeOldest_cases want work s <;> rw [h]
  · exact .refl s
  · exact KeepsMap.trans (KeepsPages.of_eq (t := s.setMill _)).map ((works r _).trans (respond_keepsPages _ _ _).map)

/-! ### The commands that place no reading -/

/-- The commands in whose step a reading can be placed, and POWER_ON_RESET, whose pool is the model's own (log 14). -/
def mayChangeCells : Instr → Bool
  | .powerOnReset | .evaluationCompletion | .positionFrame _ | .positionSilenceExpiry | .settleLimitExpiry _ | .write
  | .exchange => true
  | _ => false

/-- An outcome that keeps the pages of the state it starts from. -/
theorem keepsPages_of_next {s t u : State} (w : KeepsPages s u)
    (h : Host.Outcome.next u = (.next t : Host.Outcome State Fault Refusal)) : KeepsPages s t := by
  cases h; exact w

/-- One of two outcomes. -/
theorem keepsPages_of_ite {c : Prop} [Decidable c] {s t u v : State} (yes : KeepsPages s u) (no : KeepsPages s v)
    (h : (if c then .next u else .next v) = (.next t : Host.Outcome State Fault Refusal)) : KeepsPages s t := by
  split at h
  · exact keepsPages_of_next yes h
  · exact keepsPages_of_next no h

section
variable {s t : State}

theorem execTraceFrame_keepsPages {x : Trace} (h : execTraceFrame x s = .next t) : KeepsPages s t := by
  have counted : KeepsPages s (countHeadFrame s) := .of_eq
  unfold execTraceFrame at h
  split at h
  · exact keepsPages_of_ite (counted.trans ((modHead_keepsPages x.head _ _).trans (checkSequence_keepsPages x _)))
      (counted.trans (rejectHeadFrame_keepsPages _ _)) h
  · exact keepsPages_of_next (.refl s) h

theorem execRequestFrame_keepsPages {r : Request} (h : execRequestFrame r s = .next t) : KeepsPages s t := by
  have counted : KeepsPages s (countMillFrame s) := .of_eq
  unfold execRequestFrame at h
  split at h
  · exact keepsPages_of_ite (counted.trans (queueRequest_keepsPages r _)) (counted.trans (rejectMillFrame_keepsPages _ _)) h
  · exact keepsPages_of_next (.refl s) h

theorem execEvaluationStart_keepsPages (h : execEvaluationStart s = .next t) : KeepsPages s t := by
  unfold execEvaluationStart at h
  split at h
  · exact keepsPages_of_next ((startEvaluation_keepsPages _ _ s).trans (examineBoth_keepsPages _)) h
  · exact keepsPages_of_next (.refl s) h

theorem execTimeMarkSent_keepsPages (h : execTimeMarkSent s = .next t) : KeepsPages s t := by
  unfold execTimeMarkSent at h
  split at h
  · exact keepsPages_of_next (.refl s) h
  · exact keepsPages_of_next .of_eq h

theorem execTransmissionCompletion_keepsPages (h : execTransmissionCompletion s = .next t) : KeepsPages s t := by
  unfold execTransmissionCompletion at h
  split at h
  · exact keepsPages_of_next (.refl s) h
  · exact keepsPages_of_next .of_eq h

theorem execMapFrameQueued_keepsPages (h : execMapFrameQueued s = .next t) : KeepsPages s t := by
  unfold execMapFrameQueued at h
  split at h
  · exact keepsPages_of_next (.refl s) h
  next busy =>
    split at h
    · exact keepsPages_of_next (.refl s) h
    next tube =>
      split at h
      next lowest =>
        exact keepsPages_of_ite ((queueMapFrame_keepsPages busy tube lowest).trans (markWaiting_keepsPages _)) (.refl s) h
      next => exact keepsPages_of_next (.refl s) h

theorem execMapEndQueued_keepsPages (h : execMapEndQueued s = .next t) : KeepsPages s t := by
  unfold execMapEndQueued at h
  split at h
  · exact keepsPages_of_next (.refl s) h
  next busy =>
    split at h
    · exact keepsPages_of_next (.refl s) h
    next tube =>
      split at h
      next => exact keepsPages_of_next (.refl s) h
      next none =>
        exact keepsPages_of_ite ((queueMapEnd_keepsPages busy tube none).trans (examineDrain_keepsPages _)) (.refl s) h

theorem exec_keepsPages {i : Instr} (still : mayChangeCells i = false) (h : exec i s = .next t) : KeepsPages s t := by
  have asked {want : Request → Bool} {work : Request → State → Answer} (works : ∀ r s, KeepsPages s (work r s).state)
      (h : Host.Outcome.next (takeOldest want work s) = (.next t : Host.Outcome State Fault Refusal)) : KeepsPages s t :=
    keepsPages_of_next (takeOldest_keepsPages want works s) h
  have headCounted : KeepsPages s (countHeadFrame s) := .of_eq
  have millCounted : KeepsPages s (countMillFrame s) := .of_eq
  have linkUp : KeepsPages s (s.setMill { s.mill with link := .up }) := .of_eq
  cases i with
  | powerOnReset | evaluationCompletion | positionFrame | positionSilenceExpiry | settleLimitExpiry | write | exchange =>
    cases still
  | headLinkUp => exact keepsPages_of_ite (.refl s) .of_eq h
  | headLinkDown cut => exact keepsPages_of_ite (.refl s) .of_eq h
  | traceFrame x => exact execTraceFrame_keepsPages h
  | temperatureFrame f => exact keepsPages_of_ite .of_eq (.refl s) h
  | headFrameRejected r => exact keepsPages_of_ite (headCounted.trans (rejectHeadFrame_keepsPages r _)) (.refl s) h
  | timeMark => exact keepsPages_of_ite .of_eq (.refl s) h
  | timeMarkSent => exact execTimeMarkSent_keepsPages h
  | headSilenceExpiry x => exact keepsPages_of_ite ((expireHead_keepsPages x s).trans (examineBoth_keepsPages _)) (.refl s) h
  | tempRecordExpiry ch => exact keepsPages_of_next .of_eq h
  | evaluationStart => exact execEvaluationStart_keepsPages h
  | settleCompletion => exact keepsPages_of_next (examineBoth_keepsPages s) h
  | calibrationTimeout => exact keepsPages_of_next (expireRun_keepsPages s) h
  | drainBegin => exact keepsPages_of_next (examineDrain_keepsPages s) h
  | mapFrameQueued => exact execMapFrameQueued_keepsPages h
  | mapEndQueued => exact execMapEndQueued_keepsPages h
  | millLinkUp => exact keepsPages_of_ite (.refl s) (linkUp.trans (startTransmission_keepsPages _)) h
  | millLinkDown cut => exact keepsPages_of_ite (.refl s) .of_eq h
  | requestFrame r => exact execRequestFrame_keepsPages h
  | millFrameRejected r => exact keepsPages_of_ite (millCounted.trans (rejectMillFrame_keepsPages r _)) (.refl s) h
  | transmissionStart => exact keepsPages_of_next (startTransmission_keepsPages s) h
  | transmissionCompletion => exact execTransmissionCompletion_keepsPages h
  | responseHeldRelease => exact keepsPages_of_next (releaseHeld_keepsPages s) h
  | read => exact asked readWork_keepsPages h
  | clear => exact asked clearWork_keepsPages h
  | apply => exact asked applyWork_keepsPages h
  | mode => exact asked modeWork_keepsPages h
  | calibrate => exact asked calibrateWork_keepsPages h
  | abortCal => exact asked (fun _ s => abortRun_keepsPages s) h
  | restart => exact asked (fun _ s => restart_keepsPages s) h
  | status => exact asked (fun _ s => .refl s) h
  | undefinedOperation => exact asked (fun _ s => .refl s) h

/-! ### Every command -/

theorem keepsMap_of_next {u : State} (w : KeepsMap s u)
    (h : Host.Outcome.next u = (.next t : Host.Outcome State Fault Refusal)) : KeepsMap s t := by
  cases h; exact w

theorem keepsMap_of_ite {c : Prop} [Decidable c] {u : State} (w : KeepsMap s u)
    (h : (if c then .next u else .next s) = (.next t : Host.Outcome State Fault Refusal)) : KeepsMap s t := by
  split at h
  · exact keepsMap_of_next w h
  · exact keepsMap_of_next (.refl s) h

theorem execEvaluationCompletion_keepsMap (h : execEvaluationCompletion s = .next t) : KeepsMap s t := by
  unfold execEvaluationCompletion at h
  split at h
  · exact keepsMap_of_next (.refl s) h
  · exact keepsMap_of_next ((completeEvaluation_keepsMap _ s).trans (examineBoth_keepsPages _).map) h

theorem exec_keepsMap {i : Instr} (h : exec i s = .next t) : KeepsMap s t := by
  have examined {u : State} (w : KeepsMap s u) : KeepsMap s (examineBoth u) := w.trans (examineBoth_keepsPages u).map
  have counted : KeepsPages s (countHeadFrame s) := .of_eq
  cases still : mayChangeCells i with
  | false => exact (exec_keepsPages still h).map
  | true =>
    cases i with
    | powerOnReset => cases h; exact ⟨fun _ => reset_pageLaw, fun _ => poolWf_reset⟩
    | evaluationCompletion => exact execEvaluationCompletion_keepsMap h
    | positionFrame f => exact keepsMap_of_ite (counted.map.trans (takePosition_keepsMap f _)) h
    | positionSilenceExpiry => exact keepsMap_of_ite (examined (expirePosition_keepsMap s)) h
    | settleLimitExpiry c => exact keepsMap_of_ite (examined (expireSettle_keepsMap c s)) h
    | write => exact keepsMap_of_next (takeOldest_keepsMap _ writeWork_keepsMap s) h
    | exchange => exact keepsMap_of_next (takeOldest_keepsMap _ exchangeWork_keepsMap s) h
    | _ => cases still

theorem step_keepsMap (h : step s = .next t) : KeepsMap s t := by
  unfold step at h
  split at h
  · exact keepsMap_of_next (KeepsPages.map .of_eq) h
  · have kept := exec_keepsMap h
    exact ⟨kept.pages, kept.pool⟩

end

/-- Settles O6: page by page, what each update moves between the free list and the directories, and where the engine stands
after it; then command by command. -/
theorem pagesAreNeverLostOrShared : Obligations.PagesAreNeverLostOrShared := fun _ _ law h => (step_keepsMap h).pages law

/-- Settles O11: cells change by a write and by a cleared page alone, which both keep the form. -/
theorem poolKeepsCanonicalForm : Obligations.PoolKeepsCanonicalForm := fun _ _ law h => (step_keepsMap h).pool law

/-- Settles O28: every other command's work keeps the cells, command by command. -/
theorem onlyPlacementsChangeCells : Obligations.OnlyPlacementsChangeCells := by
  intro i s t h reset completion position silence settle write exchange
  refine (exec_keepsPages ?_ h).cells
  cases i with
  | powerOnReset => exact absurd rfl reset
  | evaluationCompletion => exact absurd rfl completion
  | positionFrame f => exact absurd rfl (position f)
  | positionSilenceExpiry => exact absurd rfl silence
  | settleLimitExpiry c => exact absurd rfl (settle c)
  | write => exact absurd rfl write
  | exchange => exact absurd rfl exchange
  | _ => rfl

end Sys2Proof.Machine
end

section
/-! The transmitter (R149 to R151) and the RESPONSE that is held (R155): what leaves its class queue, what that lets in, and what
a request in processing holds back. -/

namespace Sys2Proof.Machine

/-! ### A held RESPONSE (R155) -/

theorem releaseHeld_idle {s : State} (idle : s.agent.processing = none) : releaseHeld s = s := by
  rw [releaseHeld, idle]

theorem releaseHeld_joins {s : State} {p : Processing} (held : s.agent.processing = some p)
    (room : s.mill.responseQ.length < 2) :
    releaseHeld s = (s.setMill { s.mill with responseQ := s.mill.responseQ ++ [p.response] }).setAgent
      { s.agent with processing := none } := by
  rw [releaseHeld, held]
  exact if_pos room

/-- R155: a full RESPONSE class queue holds the RESPONSE, its request in processing. -/
theorem answer_held {r : Request} {st : Status} {d : RespData} {s : State} (full : s.mill.responseQ.length = 2) :
    answer r st d s = s.setAgent { s.agent with
      processing := some { request := r, response := { tag := r.tag, status := st, data := d } } } :=
  if_neg (by rw [full]; decide)

/-- R155: while a request is in processing none is taken. -/
theorem exec_request_busy {s : State} {p : Processing} (busy : s.agent.processing = some p) {i : Instr}
    (request : i ∈ [Instr.read, .write, .exchange, .clear, .apply, .mode, .calibrate, .abortCal, .restart, .status,
      .undefinedOperation]) : exec i s = .next s := by
  have waits (want : Request → Bool) (work : Request → State → Answer) :
      Host.Outcome.next (takeOldest want work s) = (.next s : Host.Outcome State Fault Refusal) :=
    congrArg _ (takeOldest_busy busy)
  simp only [List.mem_cons, List.not_mem_nil, or_false] at request
  rcases request with rfl | rfl | rfl | rfl | rfl | rfl | rfl | rfl | rfl | rfl | rfl <;> exact waits _ _

/-! ### Transmission start (R149, R150) -/

section
variable {s : State} (up : s.mill.link = .up) (idle : s.mill.transmitter = none)
include up idle

theorem startTransmission_response {f : Response} {l : List Response} (first : s.mill.responseQ = f :: l) :
    startTransmission s =
      releaseHeld (s.setMill { s.mill with transmitter := some (.response f), responseQ := l }) := by
  rw [startTransmission, if_pos ⟨up, idle⟩, first]
  rfl

variable (responses : s.mill.responseQ = [])
include responses

theorem startTransmission_notice {f : Notice} {l : List Notice} (first : s.mill.noticeQ = f :: l) :
    startTransmission s = s.setMill { s.mill with transmitter := some (.notice f), noticeQ := l } := by
  rw [startTransmission, if_pos ⟨up, idle⟩, responses, first]
  rfl

variable (notices : s.mill.noticeQ = [])
include notices

theorem startTransmission_summary {f : SummaryFrame} {l : List SummaryFrame} (first : s.mill.summaryQ = f :: l) :
    startTransmission s = s.setMill { s.mill with transmitter := some (.summary f), summaryQ := l } := by
  rw [startTransmission, if_pos ⟨up, idle⟩, responses, notices, first]
  rfl

variable (summaries : s.mill.summaryQ = [])
include summaries

theorem startTransmission_map {f : MapClassFrame} {l : List MapClassFrame} (first : s.mill.mapQ = f :: l) :
    startTransmission s = runDrain (s.setMill { s.mill with transmitter := some (.map f), mapQ := l }) := by
  rw [startTransmission, if_pos ⟨up, idle⟩, responses, notices, summaries, first]
  rfl

variable (maps : s.mill.mapQ = [])
include maps

theorem startTransmission_reading {f : Reading} {l : List Reading} (first : s.mill.readingQ = f :: l) :
    startTransmission s = s.setMill { s.mill with transmitter := some (.reading f), readingQ := l } := by
  rw [startTransmission, if_pos ⟨up, idle⟩, responses, notices, summaries, maps, first]
  rfl

theorem startTransmission_mirror {f : MirrorFrame} {l : List MirrorFrame} (readings : s.mill.readingQ = [])
    (first : s.mill.mirrorQ = f :: l) :
    startTransmission s = s.setMill { s.mill with transmitter := some (.mirror f), mirrorQ := l } := by
  rw [startTransmission, if_pos ⟨up, idle⟩, responses, notices, summaries, maps, readings, first]
  rfl

end

/-! ### A departure from the MAP class (R96) -/

/-- R95, R96: what the law of pages says of the context the engine holds is what its drain goes on from. -/
theorem runDrain_drainsOn {s : State} {d : Drain} {t : Tube} (law : PageLaw s) (busy : s.drain = some d)
    (tube : tubeAt s d.ctx = some t) : DrainsOn d t s (runDrain s) := by
  obtain ⟨-, above, -⟩ := drainOk_tube busy tube law.2.2.2
  exact drainOn_drainsOn busy tube (directory_ascending law tube) above (Nat.lt_succ_of_le (Nat.sub_le ..))

/-! ### The statement -/

theorem exec_transmissionCompletion {s : State} {f : Frame} (sending : s.mill.transmitter = some f) :
    exec .transmissionCompletion s =
      .next (s.setMill { s.mill with
        transmitter := none,
        counters := { s.mill.counters with
          sent := tableSet s.mill.counters.sent f.cls (min 4294967295 (tableGet s.mill.counters.sent f.cls + 1)) } }) := by
  change execTransmissionCompletion s = _
  rw [execTransmissionCompletion, sending]
  rfl

/-- Settles O46: each class by the equation of a start from its queue, the drain by `runDrain_drainsOn`, a held RESPONSE by
whether there is room for it. -/
theorem framesAreSentByClass : Obligations.FramesAreSentByClass := by
  refine ⟨fun s up idle => ⟨fun f l first free => ?_, fun f l p first held room => ?_, fun f l q₁ first => ?_,
      fun f l q₁ q₂ first => ?_, fun f l q₁ q₂ q₃ first => ?_, fun f l q₁ q₂ q₃ q₄ first => ?_,
      fun f l q₁ q₂ q₃ q₄ q₅ first => ?_⟩,
    fun s f sending => exec_transmissionCompletion sending, fun s p held room => congrArg _ (releaseHeld_joins held room),
    fun s r st d => ⟨fun room => if_pos room, answer_held⟩, fun s p busy i request => exec_request_busy busy request⟩
  · exact congrArg _ ((startTransmission_response up idle first).trans (releaseHeld_idle free))
  · exact congrArg _ ((startTransmission_response up idle first).trans (releaseHeld_joins held room))
  · exact congrArg _ (startTransmission_notice up idle q₁ first)
  · exact congrArg _ (startTransmission_summary up idle q₁ q₂ first)
  · have started := startTransmission_map up idle q₁ q₂ q₃ first
    exact ⟨fun none => congrArg _ (started.trans (drainOn_idle (by exact none) _)), fun d _ => congrArg _ started,
      fun d t busy tube law => ⟨_, congrArg Host.Outcome.next started, runDrain_drainsOn (s := s.setMill _) law busy tube⟩⟩
  · exact congrArg _ (startTransmission_reading up idle q₁ q₂ q₃ q₄ first)
  · exact congrArg _ (startTransmission_mirror up idle q₁ q₂ q₃ q₄ q₅ first)

end Sys2Proof.Machine
end

section
/-! Ring statistics (R106 to R113): the counted sectors and their figures, the sector means with the filled gaps, the harmonic
tables and sums, and the record of a ring as a reading of its bin's cells. -/

namespace Sys2Proof.Machine

/-! ### The counted sectors (R109) -/

theorem SectorMean.value?_eq_some_iff (m : SectorMean) (v : Nat) : m.value? = some v ↔ m = .measured v ∨ m = .filled v := by
  cases m <;> simp [SectorMean.value?]

/-- The counted sectors are the means that stand, each with its place. -/
theorem countedFrom_eq_filterMap (k : Nat) (l : List SectorMean) :
    countedFrom k l = (l.zipIdx k).filterMap (fun p => p.1.value?.map (·, p.2)) := by
  induction l generalizing k with
  | nil => rfl
  | cons m rest ih => cases h : m.value? <;> simp [countedFrom, h, ih]

theorem mem_countedFrom_zero_iff (l : List SectorMean) (v j : Nat) :
    (v, j) ∈ countedFrom 0 l ↔ l[j]? = some (.measured v) ∨ l[j]? = some (.filled v) := by
  rw [countedFrom_eq_filterMap, List.mem_filterMap]
  constructor
  · rintro ⟨⟨m, i⟩, mem, counts⟩
    obtain ⟨x, value, pair⟩ := Option.map_eq_some_iff.mp counts
    obtain ⟨rfl, rfl⟩ := Prod.mk.inj pair
    rw [List.mk_mem_zipIdx_iff_getElem?.mp mem]
    simpa using (SectorMean.value?_eq_some_iff m x).mp value
  · rintro (here | here) <;> exact ⟨_, List.mk_mem_zipIdx_iff_getElem?.mpr here, rfl⟩

theorem countedFrom_ascending (l : List SectorMean) : ((countedFrom 0 l).map Prod.snd).Pairwise (· < ·) := by
  have places : ((l.zipIdx 0).map Prod.snd).Pairwise (· < ·) := by
    rw [List.zipIdx_map_snd]
    exact List.pairwise_lt_range'
  rw [List.pairwise_map] at places ⊢
  rw [countedFrom_eq_filterMap]
  refine places.filterMap _ fun p p' less x hx x' hx' => ?_
  obtain ⟨v, -, rfl⟩ := Option.map_eq_some_iff.mp hx
  obtain ⟨v', -, rfl⟩ := Option.map_eq_some_iff.mp hx'
  exact less

/-! ### Extremes and mean (R109) -/

theorem extreme_countedFrom {better : Nat → Nat → Bool} {key : Nat → Int}
    (better_iff : ∀ x y, better x y = true ↔ key x < key y) {means : List SectorMean} {d : Nat × Nat} (found : extreme better (countedFrom 0 means) = some d) :
    FirstBest (fun p => key p.1) Prod.snd (countedFrom 0 means) d := by
  have counted : countedFrom 0 means ≠ [] := by rintro none; rw [none] at found; cases found
  obtain ⟨e, first, best⟩ := extreme_firstBest better_iff counted (countedFrom_ascending means)
  obtain rfl : e = d := Option.some.inj (first.symm.trans found)
  exact best

theorem ringMin_spec {means : List SectorMean} {v j : Nat} (least : ringMin (countedFrom 0 means) = some (v, j)) :
    (v, j) ∈ countedFrom 0 means ∧ ∀ p ∈ countedFrom 0 means, v ≤ p.1 ∧ (p.1 = v → j ≤ p.2) := by
  obtain ⟨mem, best⟩ := extreme_countedFrom (key := fun x => x) (fun x y => by simp) least
  exact ⟨mem, fun p hp => by have := best p hp; simp only at this; omega⟩

theorem ringMax_spec {means : List SectorMean} {v j : Nat} (greatest : ringMax (countedFrom 0 means) = some (v, j)) :
    (v, j) ∈ countedFrom 0 means ∧ ∀ p ∈ countedFrom 0 means, p.1 ≤ v ∧ (p.1 = v → j ≤ p.2) := by
  obtain ⟨mem, best⟩ := extreme_countedFrom (key := fun x => -x) (fun x y => by simp) greatest
  exact ⟨mem, fun p hp => by have := best p hp; simp only at this; omega⟩

/-- Rounding half up keeps to the whole numbers that bound the quotient. -/
theorem roundHalfUp_between {n d lo hi : Nat} (hd : 0 < d) (low : lo * d ≤ n) (high : n ≤ hi * d) :
    lo ≤ roundHalfUp n d ∧ roundHalfUp n d ≤ hi := by
  obtain ⟨above, below⟩ := roundHalfUp_mul_bounds n hd
  constructor <;> refine Nat.lt_succ_iff.mp (Nat.lt_of_mul_lt_mul_right (a := d) ?_) <;> rw [Nat.succ_mul] <;> omega

/-- R109: the ring mean lies between the bounds of the counted means. -/
theorem ringMean_between {l : List (Nat × Nat)} {lo hi m : Nat} (low : ∀ p ∈ l, lo ≤ p.1) (high : ∀ p ∈ l, p.1 ≤ hi)
    (mean : ringMean l = some m) : lo ≤ m ∧ m ≤ hi := by
  have counted : l ≠ [] := by rintro rfl; cases mean
  obtain rfl : roundHalfUp (valueSum l) l.length = m := Option.some.inj ((if_neg counted).symm.trans mean)
  refine roundHalfUp_between (List.length_pos_iff.mpr counted) ?_ ?_
  · have := List.card_nsmul_le_sum (l.map Prod.fst) lo (by simpa using fun a b => low (a, b))
    simpa [valueSum, Nat.mul_comm] using this
  · have := List.sum_le_card_nsmul (l.map Prod.fst) hi (by simpa using fun a b => high (a, b))
    simpa [valueSum, Nat.mul_comm] using this

/-! ### Filled gaps (R107) -/

/-- The first of the distances 1 to `k` at which `f` answers. -/
theorem findSome?_range'_eq_some {α : Type} {f : Nat → Option α} {k a : Nat} {x : α} (pos : 1 ≤ a) (within : a ≤ k)
    (found : f a = some x) (before : ∀ i, 1 ≤ i → i < a → f i = none) : (List.range' 1 k).findSome? f = some x := by
  obtain ⟨c, rfl⟩ := Nat.exists_eq_add_of_le pos
  obtain ⟨d, rfl⟩ := Nat.exists_eq_add_of_le within
  have split : List.range' 1 (1 + c + d) = List.range' 1 c ++ (1 + c) :: List.range' (1 + c + 1) d := by
    rw [← List.range'_succ, List.range'_append_1]
    congr 1
    omega
  refine List.findSome?_eq_some_iff.mpr ⟨_, _, _, split, found, fun i hi => ?_⟩
  obtain ⟨one, less⟩ := List.mem_range'_1.mp hi
  exact before i one less

theorem nearestUp_eq_findSome? (m : List (Option Nat)) (j k d : Nat) : nearestUp m j k d =
    (List.range' d k).findSome? (fun i => (m.getD ((j + i) % m.length) none).map (·, i)) := by
  induction k generalizing d with
  | zero => rfl
  | succ k ih =>
    cases h : m.getD ((j + d) % m.length) none <;>
      simp only [nearestUp, List.range'_succ, List.findSome?_cons, h, ih, Option.map]

theorem nearestDown_eq_findSome? (m : List (Option Nat)) (j k d : Nat) : nearestDown m j k d =
    (List.range' d k).findSome? (fun i => (m.getD ((j + m.length - i) % m.length) none).map (·, i)) := by
  induction k generalizing d with
  | zero => rfl
  | succ k ih =>
    cases h : m.getD ((j + m.length - d) % m.length) none <;>
      simp only [nearestDown, List.range'_succ, List.findSome?_cons, h, ih, Option.map]

section
variable {m : List (Option Nat)} {n j : Nat} (length : m.length = n)
include length

theorem nearestUp_eq_some {a x : Nat} (pos : 1 ≤ a) (within : a < n) (found : m[(j + a) % n]? = some (some x))
    (before : ∀ i, 1 ≤ i → i < a → m[(j + i) % n]? = some none) : nearestUp m j (n - 1) 1 = some (x, a) := by
  rw [nearestUp_eq_findSome?, length]
  refine findSome?_range'_eq_some pos (by omega) ?_ fun i one less => ?_
  · simp [List.getD_eq_getElem?_getD, found]
  · simp [List.getD_eq_getElem?_getD, before i one less]

theorem nearestDown_eq_some {b x : Nat} (pos : 1 ≤ b) (within : b < n) (found : m[(j + n - b) % n]? = some (some x))
    (before : ∀ i, 1 ≤ i → i < b → m[(j + n - i) % n]? = some none) : nearestDown m j (n - 1) 1 = some (x, b) := by
  rw [nearestDown_eq_findSome?, length]
  refine findSome?_range'_eq_some pos (by omega) ?_ fun i one less => ?_
  · simp [List.getD_eq_getElem?_getD, found]
  · simp [List.getD_eq_getElem?_getD, before i one less]

end

/-! ### The sector means (R106 to R108) -/

@[simp] theorem sectorMeans_length (m : List (Option Nat)) (fill : Bool) : (sectorMeans m fill).length = m.length := by
  simp [sectorMeans]

section
variable {m : List (Option Nat)} {j : Nat}

theorem sectorMeans_at_measured {v : Nat} (fill : Bool) (here : m[j]? = some (some v)) :
    (sectorMeans m fill)[j]? = some (.measured v) := by
  have within := (List.getElem?_eq_some_iff.mp here).1
  simp [sectorMeans, List.getElem?_range within, List.getD_eq_getElem?_getD, here]

theorem sectorMeans_at_empty (fill : Bool) (here : m[j]? = some none) :
    (sectorMeans m fill)[j]? = some (if fill then filledMean m j else .absent) := by
  have within := (List.getElem?_eq_some_iff.mp here).1
  simp [sectorMeans, List.getElem?_range within, List.getD_eq_getElem?_getD, here]

end

/-! ### The harmonics (R110, R111) -/

/-- R110: the four quarters of the table, each from the quarter-wave values. -/
theorem cosTable_quarters {i : Nat} {x : Int} (wave : quarterWave[i]? = some x) :
    cosTable i = x ∧ cosTable (32 - i) = -x ∧ cosTable (32 + i) = -x ∧ (1 ≤ i → cosTable (64 - i) = x) := by
  have within : i < 17 := (List.getElem?_eq_some_iff.mp wave).1
  have quarters : ∀ i < 17, cosTable i = quarterWave.getD i 0 ∧ cosTable (32 - i) = -quarterWave.getD i 0 ∧
      cosTable (32 + i) = -quarterWave.getD i 0 ∧ (1 ≤ i → cosTable (64 - i) = quarterWave.getD i 0) := by decide
  have value : quarterWave.getD i 0 = x := by rw [List.getD_eq_getElem?_getD, wave]; rfl
  exact value ▸ quarters i within

/-- R111 step 1: a harmonic sum over the counted sectors is that over all sectors, where one that is absent adds nothing. -/
theorem harmonic_countedFrom (table : Nat → Int) (n k : Nat) (means : List SectorMean) :
    harmonic table n (countedFrom k means) = ((List.range means.length).map fun j =>
      ((((means[j]?).bind SectorMean.value?).getD 0 : Nat) : Int) * table ((k + j) * 64 / n)).sum := by
  induction means generalizing k with
  | nil => rfl
  | cons x rest ih =>
    have tail := ih (k + 1)
    simp only [Nat.add_assoc, Nat.add_comm 1] at tail
    rw [List.length_cons, List.range_succ_eq_map, List.map_cons, List.sum_cons, List.map_map]
    cases h : x.value? <;> simpa [countedFrom, harmonic, Function.comp_def, h] using tail

/-- R110: sector `j` of S takes the table's entry j · (64/S). -/
theorem table_step {n : Nat} (mem : n ∈ [8, 16, 32, 64]) (j : Nat) : j * 64 / n = j * (64 / n) := by
  have divides : n ∣ 64 := by revert n; decide
  exact Nat.mul_div_assoc j divides

theorem IsRoot.unique {n a b : Nat} (ha : IsRoot n a) (hb : IsRoot n b) : a = b := by
  have := Nat.mul_self_lt_mul_self_iff.mp (ha.1.trans_lt hb.2)
  have := Nat.mul_self_lt_mul_self_iff.mp (hb.1.trans_lt ha.2)
  omega

/-- R111: the eccentricity from the root of the two harmonic sums' squares. -/
theorem eccentricity_eq {n q : Nat} (l : List (Nat × Nat)) (mean : Nat) {a b : Int}
    (cosine : harmonic cosTable n l = a) (sine : harmonic sinTable n l = b)
    (low : (q : Int) * q ≤ a * a + b * b) (high : a * a + b * b < ((q : Int) + 1) * (q + 1)) :
    eccentricity n l mean = min 65535 (roundHalfUp (20000 * q) (32767 * n * mean)) := by
  have root : IsRoot (a * a + b * b).toNat q := by
    constructor
    · rw [Int.le_toNat ((mul_self_nonneg (q : Int)).trans low)]
      exact_mod_cast low
    · rw [Int.toNat_lt ((mul_self_nonneg (q : Int)).trans low)]
      exact_mod_cast high
  rw [eccentricity, cosine, sine, (isqrt_isRoot _).unique root]

/-! ### The cells of a ring (R106) -/

theorem measuredMean_isNone (x : Cell) : (measuredMean x).isNone = decide (x.count = 0) := by
  unfold measuredMean
  split <;> simp [*]

theorem empty_sectors_eq (cells : List Cell) : ((cells.map measuredMean).filter Option.isNone).length =
    (cells.filter (fun x => decide (x.count = 0))).length := by
  rw [List.filter_map, List.length_map]
  exact congrArg (fun p => (cells.filter p).length) (funext measuredMean_isNone)

section
variable {cells : List Cell} {j : Nat}

theorem measuredMean_at_full {v : Nat}
    (full : ∃ x, cells[j]? = some x ∧ x.count ≠ 0 ∧ v = roundHalfUp (x.sum.getD 0) x.count) :
    (cells.map measuredMean)[j]? = some (some v) := by
  obtain ⟨x, here, counts, rfl⟩ := full
  rw [List.getElem?_map, here]
  exact congrArg some (if_neg counts)

theorem measuredMean_at_bare (bare : ∃ x, cells[j]? = some x ∧ x.count = 0) :
    (cells.map measuredMean)[j]? = some none := by
  obtain ⟨x, here, empty⟩ := bare
  rw [List.getElem?_map, here]
  exact congrArg some (if_pos empty)

end

section
variable {s : State} {t : Tube} {bin j : Nat}

theorem binCells_of_absent (absent : dirLookup t.directory (segmentOf t.setup.sectors bin) = none)
    (within : j < t.setup.sectors) : (binCells s t bin)[j]? = some clearedCell := by
  simp only [binCells, absent]
  exact List.getElem?_replicate_of_lt within

theorem binCells_of_present {e : DirEntry} (present : dirLookup t.directory (segmentOf t.setup.sectors bin) = some e)
    (within : j < t.setup.sectors) : (binCells s t bin)[j]? =
      some (readCell s.wall.pool (cellAddress e.page (cellIndexOf t.setup.sectors bin j))) := by
  simp only [binCells, present, List.getElem?_map, List.getElem?_range within, Option.map_some]

end

/-! ### The ring record -/

section
variable (s : State) (t : Tube) (bin : Nat) (time : Time)

theorem ringRecord_means : (ringRecord s t bin time).means =
    sectorMeans ((binCells s t bin).map measuredMean) (decide ((ringRecord s t bin time).status = .complete)) := rfl

theorem ringRecord_status : (ringRecord s t bin time).status =
    ringStatus ((binCells s t bin).filter (fun x => decide (x.count = 0))).length t.setup.sectors t.setup.gapLimit :=
  congrArg (ringStatus · t.setup.sectors t.setup.gapLimit) (empty_sectors_eq _)

theorem ringRecord_means_length : (ringRecord s t bin time).means.length = t.setup.sectors := by
  rw [ringRecord_means, sectorMeans_length, List.length_map, binCells_length]

variable {s t bin time}

/-- R107: in a COMPLETE ring an empty sector is filled from the nearest measured sector each way. -/
theorem ringRecord_filled {j a b x1 x2 : Nat} (complete : (ringRecord s t bin time).status = .complete)
    (empty : ((binCells s t bin).map measuredMean)[j]? = some none)
    (up : nearestUp ((binCells s t bin).map measuredMean) j (t.setup.sectors - 1) 1 = some (x1, a))
    (down : nearestDown ((binCells s t bin).map measuredMean) j (t.setup.sectors - 1) 1 = some (x2, b)) :
    (ringRecord s t bin time).means[j]? = some (.filled (roundHalfUp (x1 * b + x2 * a) (a + b))) := by
  have length : ((binCells s t bin).map measuredMean).length = t.setup.sectors := by
    rw [List.length_map, binCells_length]
  rw [ringRecord_means, sectorMeans_at_empty _ empty, complete, filledMean, length, up, down]
  rfl

/-- R111: the eccentricity of a COMPLETE ring, by the harmonic sums over all its sectors. -/
theorem ringRecord_eccentricity {mean q : Nat} (sectors : t.setup.sectors ∈ [8, 16, 32, 64])
    (complete : (ringRecord s t bin time).status = .complete) (has : (ringRecord s t bin time).mean = some mean) :
    let n := t.setup.sectors
    let value := fun (j : Nat) => ((((ringRecord s t bin time).means[j]?).bind SectorMean.value?).getD 0 : Int)
    let a := ((List.range n).map (fun j => value j * cosTable (j * (64 / n)))).sum
    let b := ((List.range n).map (fun j => value j * sinTable (j * (64 / n)))).sum
    (q : Int) * q ≤ a * a + b * b → a * a + b * b < ((q : Int) + 1) * (q + 1) →
    (ringRecord s t bin time).eccentricity = some (min 65535 (roundHalfUp (20000 * q) (32767 * n * mean))) := by
  intro n value a b low high
  have sums (table : Nat → Int) : harmonic table n (countedFrom 0 (ringRecord s t bin time).means) =
      ((List.range n).map (fun j => value j * table (j * (64 / n)))).sum := by
    rw [harmonic_countedFrom, ringRecord_means_length]
    simp only [Nat.zero_add, table_step sectors, value, n]
  have defined : (ringRecord s t bin time).eccentricity =
      (ringRecord s t bin time).mean.map (eccentricity n (countedFrom 0 (ringRecord s t bin time).means)) := if_pos complete
  rw [defined, has, Option.map_some, eccentricity_eq _ mean (sums cosTable) (sums sinTable) low high]

end

/-- Settles O24: the record field by field from the cells of its bin, the empty sectors by the search each way, the
eccentricity by the uniqueness of the root, the extremes by the first best of a list in ascending places. -/
theorem ringExtremesTakeTheLowestSector : Obligations.RingExtremesTakeTheLowestSector := by
  refine ⟨fun s t bin time sectors => ?_, fun i x wave => ?_, fun means => ?_⟩
  · intro n segment cells r m full bare counted
    have length : (cells.map measuredMean).length = n := by rw [List.length_map, binCells_length]
    refine ⟨binCells_length s t bin, ringRecord_means_length s t bin time,
      fun absent j within => ⟨_, binCells_of_absent absent within, rfl⟩,
      fun e present j within => binCells_of_present present within, ringRecord_status s t bin time,
      fun j v here => sectorMeans_at_measured _ (measuredMean_at_full here),
      fun j here incomplete => ?_, fun j a b x1 x2 here complete a1 an up upBefore b1 bn down downBefore => ?_,
      rfl, rfl, rfl, rfl, fun incomplete => if_neg incomplete,
      fun mean q complete has => ringRecord_eccentricity sectors complete has, rfl, rfl, rfl, rfl, rfl, rfl, rfl⟩
    · rw [show r.means = _ from ringRecord_means s t bin time, sectorMeans_at_empty _ (measuredMean_at_bare here),
        decide_eq_false incomplete]
      rfl
    · refine ringRecord_filled complete (measuredMean_at_bare here) ?_ ?_
      · exact nearestUp_eq_some length a1 an (measuredMean_at_full up) fun i one less =>
          measuredMean_at_bare (upBefore i one less)
      · exact nearestDown_eq_some length b1 bn (measuredMean_at_full down) fun i one less =>
          measuredMean_at_bare (downBefore i one less)
  · obtain ⟨first, second, third, fourth⟩ := cosTable_quarters wave
    exact ⟨first, second, third, fourth, fun _ _ => rfl⟩
  · refine ⟨mem_countedFrom_zero_iff means, fun none => ?_, fun some => ?_, fun _ _ => ringMin_spec,
      fun _ _ => ringMax_spec, fun a b m least greatest mean => ?_⟩
    · rw [none]
      exact ⟨rfl, rfl, rfl⟩
    · obtain ⟨p, least⟩ := extreme_isSome (fun x y => decide (x < y)) some
      obtain ⟨q, greatest⟩ := extreme_isSome (fun x y => decide (y < x)) some
      exact ⟨Option.ne_none_iff_exists'.mpr ⟨p, least⟩, Option.ne_none_iff_exists'.mpr ⟨q, greatest⟩, if_neg some⟩
    · exact ringMean_between (fun p hp => ((ringMin_spec least).2 p hp).1)
        (fun p hp => ((ringMax_spec greatest).2 p hp).1) mean

end Sys2Proof.Machine
end

section
/-! What a step leaves of the law of the mode (R116, R124, R130, R162, R163): most commands leave mode, bank and generation alone,
start no run and bring no context to life; an apply, a tube start and the requests that change the mode or start a run keep the
law by the conditions that they check. -/

namespace Sys2Proof.Machine

variable {K J : List EventKind}

/-! ### What governs the mode -/

/-- R130, R162: a context is live when its tube is ACTIVE or SETTLING. -/
theorem tubeLive_iff (s : State) :
    tubeLive s = true ↔ ∃ c x, tubeAt s c = some x ∧ (x.stage = .active ∨ x.stage = .settling) := by
  have live (c : Ctx) : (stageIs s c .active = true ∨ stageIs s c .settling = true) ↔
      ∃ x, tubeAt s c = some x ∧ (x.stage = .active ∨ x.stage = .settling) := by
    simp only [stageIs_iff, Option.map_eq_some_iff, ← exists_or, ← and_or_left]
  have both : tubeLive s = true ↔ (stageIs s .a .active = true ∨ stageIs s .a .settling = true) ∨
      (stageIs s .b .active = true ∨ stageIs s .b .settling = true) := by
    simp only [tubeLive, Bool.or_eq_true, or_assoc]
  rw [both, live, live]
  refine ⟨fun h => h.elim (⟨.a, ·⟩) (⟨.b, ·⟩), fun ⟨c, h⟩ => ?_⟩
  cases c
  · exact .inl h
  · exact .inr h

/-- From `s` to `t` mode, bank and generation stand, no run starts, and no context comes to life. -/
structure Abides (s t : State) : Prop where
  mode : t.agent.mode = s.agent.mode
  active : t.agent.active = s.agent.active
  generation : t.agent.generation = s.agent.generation
  run : t.agent.run.isSome = true → s.agent.run.isSome = true
  live : tubeLive t = true → tubeLive s = true

namespace Abides

variable {s t u : State}

theorem trans (a : Abides s t) (b : Abides t u) : Abides s u where
  mode := b.mode.trans a.mode
  active := b.active.trans a.active
  generation := b.generation.trans a.generation
  run := a.run ∘ b.run
  live := a.live ∘ b.live

/-- A change of blocks other than the tubes, and of the agent in fields that no mode depends on. -/
theorem of_eq (tubes : t.tubes = s.tubes := by rfl) (mode : t.agent.mode = s.agent.mode := by rfl)
    (active : t.agent.active = s.agent.active := by rfl) (generation : t.agent.generation = s.agent.generation := by rfl)
    (run : t.agent.run = s.agent.run := by rfl) : Abides s t where
  mode := mode
  active := active
  generation := generation
  run := by rw [run]; exact id
  live := by unfold tubeLive stageIs tubeAt; rw [tubes]; exact id

theorem refl (s : State) : Abides s s := of_eq

/-- A change of the agent that leaves its mode, bank and generation and starts no run. -/
theorem of_undisturbed (h : Undisturbed s t) (mode : t.agent.mode = s.agent.mode) (active : t.agent.active = s.agent.active)
    (generation : t.agent.generation = s.agent.generation)
    (run : t.agent.run.isSome = true → s.agent.run.isSome = true) : Abides s t where
  mode := mode
  active := active
  generation := generation
  run := run
  live h' := by
    rw [tubeLive_iff] at h' ⊢
    obtain ⟨c, y, hy, stage⟩ := h'
    obtain ⟨x, hx, settles⟩ := h.tube hy
    exact ⟨c, x, hx, stage.imp settles.active fun settling => (settles.settling settling).1⟩

theorem of_downstream (h : Undisturbed s t) (same : Downstream J s t) : Abides s t := by
  have agent := same.agent
  exact .of_undisturbed h (by rw [agent]) (by rw [agent]) (by rw [agent]) (by rw [agent]; exact id)

theorem of_wraps (wraps : Wraps s t) (same : Downstream J s t) : Abides s t := .of_downstream (.of_wraps wraps same) same

/-- Tubes that stand beside an agent that does not change. -/
theorem of_standing (stands : Standing K s t) (agent : t.agent = s.agent) : Abides s t where
  mode := by rw [agent]
  active := by rw [agent]
  generation := by rw [agent]
  run := by rw [agent]; exact id
  live h := by simpa only [tubeLive, stands.stageIs] using h

theorem foldl {α : Type} {f : State → α → State} (step : ∀ s x, Abides s (f s x)) (l : List α) (s : State) :
    Abides s (l.foldl f s) := by
  induction l generalizing s with
  | nil => exact refl s
  | cons x rest ih => exact (step s x).trans (ih _)

/-- R116, R124, R162: the law reads nothing else. -/
theorem modeLaw (h : Abides s t) (law : ModeLaw s) : ModeLaw t := by
  obtain ⟨loaded, idle, running, applied, range⟩ := law
  rw [ModeLaw, h.mode, h.active, h.generation]
  exact ⟨loaded, fun calibrate => Bool.eq_false_iff.mpr (mt h.live (Bool.eq_false_iff.mp (idle calibrate))),
    running ∘ h.run, applied, range⟩

end Abides

/-! ### Events, settling and the drain -/

theorem raise_abides (k : EventKind) (d : Detail) (s : State) : Abides s (raise k d s) :=
  .of_standing (K := []) (raise_standing (by simp) (by simp) d s) (raise_agent k d s)

theorem compareSnapshot_abides (h : HeadNo) (s : State) : Abides s (compareSnapshot h s) :=
  .of_standing (compareSnapshot_standing h s) (compareSnapshot_agent h s)

theorem examineBoth_abides (s : State) : Abides s (examineBoth s) := .of_wraps (examineBoth_wraps s) (examineBoth_downstream s)

theorem examineDrain_abides (s : State) : Abides s (examineDrain s) :=
  .of_wraps (examineDrain_wraps s) (examineDrain_downstream (K := []) s)

/-- R67: a tube that ends was ACTIVE, and stays live as SETTLING. -/
theorem endTube_abides (time : Time) (travel : Nat) (reason : CloseReason) (s : State) :
    Abides s (endTube time travel reason s) := by
  have agent := (endTube_downstream (K := []) time travel reason s).agent
  refine { mode := by rw [agent], active := by rw [agent], generation := by rw [agent], run := by rw [agent]; exact id,
           live := fun live => ?_ }
  cases active : activeCtx s with
  | none => unfold endTube at live; rwa [active] at live
  | some c =>
    obtain ⟨x, hx, stage⟩ := activeCtx_some active
    exact (tubeLive_iff s).mpr ⟨c, x, hx, .inl stage⟩

/-! ### Traces (R142, R143) -/

theorem rejectHeadFrame_abides (r : HeadReject) (s : State) : Abides s (rejectHeadFrame r s) := by
  have counted (f : HeadCounters → HeadCounters) : Abides s (modHeadCounters f s) := .of_eq
  cases r with
  | traceFields h =>
    have traced : Abides s (countTrace h (modHeadCounters HeadCounters.malformedFrame s)) := .of_eq
    exact traced.trans (raise_abides _ _ _)
  | _ => exact (counted _).trans (raise_abides _ _ _)

theorem admitTrace_abides (t : Trace) (s : State) : Abides s (admitTrace t s) := by
  have dropped (f : HeadRecord → HeadRecord) : Abides s (modHead t.head f s) := .of_eq
  unfold admitTrace
  split
  · split
    · exact .of_eq
    · exact (dropped _).trans (raise_abides _ _ _)
  · exact .of_eq

theorem acceptTrace_abides (t : Trace) (g : Nat) (s : State) : Abides s (acceptTrace t g s) := by
  have counted : Abides s (countGap t.head g s) := by
    unfold countGap
    split
    · exact .refl s
    · exact (Abides.of_eq (t := modHead t.head _ s)).trans (raise_abides _ _ _)
  have accepted : Abides s (modHead t.head (HeadRecord.accept s.now t) (countGap t.head g s)) := counted.trans .of_eq
  simp only [acceptTrace]
  split
  · exact accepted.trans ((admitTrace_abides t _).trans (examineBoth_abides _))
  · exact accepted.trans ((compareSnapshot_abides t.head _).trans ((admitTrace_abides t _).trans (examineBoth_abides _)))

theorem checkSequence_abides (t : Trace) (s : State) : Abides s (checkSequence t s) := by
  have duplicated (f : HeadRecord → HeadRecord) : Abides s (modHead t.head f s) := .of_eq
  simp only [checkSequence]
  split
  · exact .of_eq
  · exact acceptTrace_abides t 0 s
  all_goals
    split
    · exact acceptTrace_abides t _ s
    · exact (duplicated _).trans (raise_abides _ _ _)

/-! ### Calibration runs (R117 to R121) -/

/-- R120: an ABORT_CAL leaves the run record NONE and every factor as it was. -/
theorem abortRun_agent (s : State) : (abortRun s).agent = { s.agent with run := none } := by
  unfold abortRun
  split
  next idle => rw [← idle]
  next r _ => exact endRun_agent r .aborted none s

theorem endRun_abides (r : CalRun) (o : CalOutcome) (k : Option Nat) (s : State) : Abides s (endRun r o k s) := by
  obtain ⟨calib, written⟩ := writeFactor_eq r o k s
  have agent := endRun_agent r o k s
  rw [written] at agent
  exact .of_undisturbed (endRun_undisturbed r o k s) (by rw [agent]; rfl) (by rw [agent]; rfl) (by rw [agent]; rfl)
    (by rw [agent]; exact fun runs => nomatch runs)

theorem abortRun_abides (s : State) : Abides s (abortRun s) := by
  unfold abortRun
  split
  · exact .refl s
  · exact endRun_abides _ _ _ s

theorem expireRun_abides (s : State) : Abides s (expireRun s) := by
  unfold expireRun
  split
  · exact .refl s
  split
  · exact endRun_abides _ _ _ s
  · exact .refl s

theorem decideReading_abides (r : Reading) (s : State) : Abides s (decideReading r s) :=
  .of_eq (decideReading_tubes r s) (by rw [decideReading_agent]) (by rw [decideReading_agent]) (by rw [decideReading_agent])
    (by rw [decideReading_agent])

theorem runTakes_abides (r : Reading) (s : State) : Abides s (runTakes r s) := by
  simp only [runTakes]
  split
  · exact .refl s
  next x run =>
    have took : Abides s (s.setAgent { s.agent with run := some (x.take r) }) :=
      .of_undisturbed (.setAgent s _) rfl rfl rfl fun _ => by rw [run]; rfl
    split
    · exact took.trans ((endRun_abides _ _ _ _).trans (decideReading_abides _ _))
    · exact took.trans (decideReading_abides _ _)

/-! ### Evaluations (R7, R24, R25) -/

theorem startEvaluation_abides (t : Trace) (rest : List Trace) (s : State) : Abides s (startEvaluation t rest s) := by
  simp only [startEvaluation]
  split
  · exact .of_eq
  split <;> exact .of_eq

theorem handOn_abides (tie : Tie) (r : Reading) (s : State) : Abides s (handOn tie r s) := by
  cases tie with
  | ordinary =>
    obtain ⟨p, q, x, reached, h⟩ := resolveReading_reaches r s
    exact .of_standing (resolveReading_standing r s) ((congrArg State.agent h).trans reached.agent)
  | run => exact runTakes_abides r s
  | runEnded => exact .refl s

theorem completeEvaluation_abides (ev : Evaluation) (s : State) : Abides s (completeEvaluation ev s) := by
  have flawed (r : Reading) (u : State) : Abides u (raiseFlaw r u) := by
    unfold raiseFlaw
    split
    · exact raise_abides _ _ u
    · exact .refl u
  have fell (r : Reading) (ch : Option ChannelNo) (u : State) : Abides u (raiseTempFallback r ch u) := by
    unfold raiseTempFallback
    split
    · exact raise_abides _ _ u
    · exact .refl u
  have decided (m : MirrorFrame) (u : State) : Abides u (decideMirror m u) :=
    .of_standing (decideMirror_standing (K := []) m u) (decideMirror_agent m u)
  have idle : Abides s (s.setEvaluator none) := .of_eq
  exact idle.trans ((handOn_abides ev.tie (evaluate ev) _).trans ((flawed _ _).trans ((fell _ _ _).trans (decided _ _))))

/-! ### Expiries (R46, R47, R76, R141) -/

theorem expireHead_abides (h : HeadNo) (s : State) : Abides s (expireHead h s) := by
  cases due : headSilenceDue s h with
  | false => rw [expireHead_off due]; exact .refl s
  | true => exact .of_standing (expireHead_standing h s) (expireHead_downstream due).agent

theorem losePosition_abides (s : State) : Abides s (losePosition s) := by
  unfold losePosition
  split
  · split
    · exact .refl s
    · exact (endTube_abides _ _ _ s).trans (raise_abides _ _ _)
  · exact .refl s

theorem expirePosition_abides (s : State) : Abides s (expirePosition s) := by
  cases due : positionSilenceDue s with
  | false => rw [expirePosition_off due]; exact .refl s
  | true =>
    have silenced : Abides s (silencedFeed s) := .of_standing (silencedFeed_standing s) (silencedFeed_rest s).2.1
    rw [expirePosition_due due]
    exact silenced.trans ((losePosition_abides _).trans .of_eq)

/-- R47, R52, R53: the pending readings resolved. -/
theorem resolvePending_abides (due : Reading → Bool) {how : Reading → State → State}
    (stands : ∀ r s, Standing tubeKinds s (how r s)) (reaches : ∀ r s, Downstream evaluationKinds s (how r s)) (s : State) :
    Abides s (resolvePending due how s) :=
  .of_standing (resolvePending_standing due stands s) (resolvePending_rest due reaches s).2.1

theorem expireSettle_abides (c : Ctx) (s : State) : Abides s (expireSettle c s) := by
  cases due : settleDue s c with
  | false => rw [expireSettle_off due]; exact .refl s
  | true =>
    obtain ⟨x, _, hx, settling, -⟩ := settleDue_stage due
    unfold expireSettle
    rw [hx]
    simp only
    split
    · exact .refl s
    next e _ =>
      let resolved := resolvePending (fun r => notLater r.timestamp e.time) extrapolate (raise .settleTimeout (.tube x.id) s)
      have stands : Standing tubeKinds s resolved :=
        (raise_standing (by decide) noticeLost_notMem_tubeKinds _ s).trans (resolvePending_standing _ extrapolate_standing _)
      obtain ⟨y, hy, same⟩ := stands.tube hx
      rw [if_pos due]
      exact (raise_abides _ _ s).trans ((resolvePending_abides _ extrapolate_standing extrapolate_downstream _).trans
        (.of_wraps (completeSettling_wraps hy (same.stage.trans settling)) (completeSettling_downstream c resolved)))

theorem fireDueTimers_abides (s : State) : Abides s (fireDueTimers s) :=
  (Abides.foldl (fun x h => expireHead_abides h x) allHeads s).trans ((expirePosition_abides _).trans
    ((Abides.foldl (fun x c => expireSettle_abides c x) _ _).trans ((expireRun_abides _).trans (examineBoth_abides _))))

/-! ### The mill link (R147, R150, R154) -/

theorem releaseHeld_abides (s : State) : Abides s (releaseHeld s) := by
  unfold releaseHeld
  split
  · exact .refl s
  split
  · exact .of_eq
  · exact .refl s

theorem startTransmission_abides (s : State) : Abides s (startTransmission s) := by
  have left (m : MillPort) : Abides s (s.setMill m) := .of_eq
  unfold startTransmission
  split
  · split
    · exact (left _).trans (releaseHeld_abides _)
    · exact left _
    · exact left _
    · exact (left _).trans (.of_wraps (runDrain_wraps _) (runDrain_downstream (K := []) _))
    · exact left _
    · exact left _
    · exact .refl s
  · exact .refl s

theorem rejectMillFrame_abides (r : MillReject) (s : State) : Abides s (rejectMillFrame r s) := by
  have counted (f : MillCounters → MillCounters) : Abides s (modMillCounters f s) := .of_eq
  cases r <;> exact (counted _).trans (raise_abides _ _ _)

theorem queueRequest_abides (r : Request) (s : State) : Abides s (queueRequest r s) := by
  have dropped (f : MillCounters → MillCounters) : Abides s (modMillCounters f s) := .of_eq
  unfold queueRequest
  split
  · exact .of_eq
  · exact (dropped _).trans (raise_abides _ _ _)

theorem respond_abides (r : Request) (a : Response) (s : State) : Abides s (respond r a s) := by
  obtain ⟨q, p, h⟩ := respond_eq r a s
  rw [h]
  exact .of_eq

/-! ### READ, WRITE, EXCHANGE and CLEAR -/

theorem afterRead_abides (e : EntryName) (s : State) : Abides s (afterRead e s) := by
  cases e <;> exact .of_eq

theorem storeEntry_abides (e : EntryName) (d : List Byte) (s : State) : Abides s (storeEntry e d s).1 := by
  have limited (x : Timing) : Abides s (s.setAgent { s.agent with timing := x }) := .of_eq
  unfold storeEntry
  cases e <;> dsimp only
  case timing => exact (limited _).trans (fireDueTimers_abides _)
  case event k => exact .of_downstream (storeEvent_undisturbed k _ _ s) (storeEvent_downstream k _ _ s)
  all_goals exact .of_eq

theorem clearEntry_abides (e : EntryName) (s : State) : Abides s (clearEntry e s) := by
  cases e with
  | event k => exact .of_downstream (clearEvent_undisturbed k s) (clearEvent_downstream k s)
  | _ => exact .of_eq

/-! ### The bank (R131, R132) and a tube's start (R64) -/

/-- R131: what follows the copy of the bank: the heads taken into it, and the run ended that a disabled head leaves. -/
theorem carryOutApply_abides (s : State) : Abides (copyBank s) (carryOutApply s) := by
  have rebanked (u : State) : Abides u (allHeads.foldl (fun x h => rebankHead s h x) u) := .foldl (fun _ _ => .of_eq) _ u
  have reported (u : State) : Abides u (allHeads.foldl (fun x h => reportRebank s h x) u) := by
    refine .foldl (fun x h => ?_) _ u
    unfold reportRebank
    split
    · exact .refl x
    · exact compareSnapshot_abides h x
  have ended (u : State) : Abides u (abortDisabledRun u) := by
    unfold abortDisabledRun
    split
    · exact .refl u
    split
    · exact .refl u
    · exact abortRun_abides u
  exact (rebanked _).trans ((reported _).trans (ended _))

/-- R124, R130: an apply carried out below the last generation leaves the bank LOADED and starts no run. -/
theorem carryOutApply_modeLaw {s : State} (below : s.agent.generation ≠ lastGeneration) (law : ModeLaw s) :
    ModeLaw (carryOutApply s) := by
  obtain ⟨-, idle, running, -, range⟩ := law
  have copied : ModeLaw (copyBank s) :=
    ⟨fun _ => rfl, idle, running, ⟨fun _ => Nat.le_add_left .., fun _ => rfl⟩, Nat.lt_of_le_of_ne range below⟩
  exact (carryOutApply_abides s).modeLaw copied

/-- R132: a pending apply that is carried out stands below the last generation. -/
theorem appliesPending_below {s : State} (applies : appliesPending s = true) : s.agent.generation ≠ lastGeneration := by
  simp only [appliesPending, Bool.and_eq_true, bne_iff_ne] at applies
  exact applies.2

theorem pendingApply_modeLaw {s : State} (law : ModeLaw s) : ModeLaw (pendingApply s) := by
  obtain ⟨-, -, h⟩ | ⟨-, applies, h⟩ | ⟨-, -, x, -, h⟩ := pendingApply_cases s <;> rw [h]
  · exact law
  · exact carryOutApply_modeLaw (appliesPending_below applies) law
  · exact ((Abides.of_eq (t := s.setAgent { s.agent with applyPending := false })).trans (raise_abides _ _ _)).modeLaw law

/-- R132: a pending apply leaves the mode. -/
theorem pendingApply_mode (s : State) : (pendingApply s).agent.mode = s.agent.mode := by
  obtain ⟨-, -, h⟩ | ⟨-, -, h⟩ | ⟨-, -, x, -, h⟩ := pendingApply_cases s <;> rw [h]
  · exact (carryOutApply_abides s).mode
  · exact (raise_abides _ _ _).mode

/-- R58, R64: a tube starts in MEASURE, where a live context breaks no law. -/
theorem startTube_modeLaw (time : Time) (travel : Nat) {s : State} (measure : s.agent.mode = .measure) (law : ModeLaw s) :
    ModeLaw (startTube time travel s) := by
  have applied := pendingApply_modeLaw law
  have mode := (pendingApply_mode s).trans measure
  simp only [startTube]
  split
  · exact applied
  next b _ =>
    have agent := ((truncate_downstream (chooseCtx (pendingApply s)) (pendingApply s)).trans
      (takeTube_downstream (chooseCtx (pendingApply s)) b time travel _)).agent
    obtain ⟨loaded, -, rest⟩ := applied
    rw [ModeLaw, agent]
    exact ⟨loaded, fun calibrate => (nomatch mode.symm.trans calibrate), rest⟩

/-! ### POSITION frames (R43 to R45, R57 to R59) -/

theorem advancePresence_modeLaw (f : Sample) {s : State} (law : ModeLaw s) : ModeLaw (advancePresence f s) := by
  simp only [advancePresence]
  split
  · simp only [changePresence]
    split
    · exact law
    · split
      next measure => exact startTube_modeLaw _ _ measure law
      next => exact law
    · exact (endTube_abides _ _ _ _).modeLaw law
  · exact law

theorem takePosition_modeLaw (f : PositionFrame) {s : State} (law : ModeLaw s) : ModeLaw (takePosition f s) := by
  have counted (g : PoseTracker → PoseTracker) : Abides s (modPose g s) := .of_eq
  unfold takePosition
  split
  · exact ((counted _).trans (raise_abides _ _ _)).modeLaw law
  split
  · exact ((counted _).trans (raise_abides _ _ _)).modeLaw law
  · have joined : ModeLaw (acceptSample (sampleOf f) s) := (counted _).modeLaw law
    have tail (u : State) : Abides u (closeRingsByLead (sampleOf f) (resolveCovered (sampleOf f) u)) :=
      (resolvePending_abides _ interpolateNewest_standing interpolateNewest_downstream u).trans
        (.of_standing (closeRingsByLead_reports _ _).toStanding (closeRingsByLead_downstream _ _).agent)
    exact ((tail _).trans ((examineBoth_abides _).trans (examineDrain_abides _))).modeLaw (advancePresence_modeLaw _ joined)

/-! ### APPLY, MODE, CALIBRATE and RESTART -/

/-- R130: an apply is carried out below the last generation. -/
theorem applyWork_modeLaw (r : Request) {s : State} (law : ModeLaw s) : ModeLaw (applyWork r s).state := by
  unfold applyWork
  split
  · exact law
  split
  · exact law
  split
  · exact law
  next below => exact (examineBoth_abides _).modeLaw (carryOutApply_modeLaw below law)

/-- R163: a change of mode brings no context to life. -/
theorem changeMode_live {m : Mode} {s : State} (live : tubeLive (changeMode m s) = true) : tubeLive s = true := by
  have left : Abides s (leaveCalibrate s) := by
    unfold leaveCalibrate
    split
    · exact abortRun_abides s
    · exact .refl s
  have ended (u : State) : Abides u (leaveMeasure m u) := by
    unfold leaveMeasure
    split
    · exact endTube_abides _ _ _ u
    · exact .refl u
  have before := (examineBoth_abides ((leaveMeasure m (leaveCalibrate s)).setAgent
    { (leaveMeasure m (leaveCalibrate s)).agent with mode := m })).live live
  exact (left.trans (ended _)).live before

/-- R162, R163: the new mode's condition was checked; a run ends with CALIBRATE. -/
theorem changeMode_modeLaw {m : Mode} {s : State} (bank : m = .measure → s.agent.active.isSome = true)
    (free : m = .calibrate → tubeLive s = false) (law : ModeLaw s) : ModeLaw (changeMode m s) := by
  obtain ⟨-, -, running, applied, range⟩ := law
  have agent : (changeMode m s).agent = { s.agent with run := none, mode := m } := by
    rw [changeMode_agent]
    unfold leaveCalibrate
    split
    · rw [abortRun_agent]
    next other =>
      have none : s.agent.run = none := Option.not_isSome_iff_eq_none.mp (other ∘ running)
      rw [← none]
  rw [ModeLaw, agent]
  exact ⟨bank, fun calibrate => Bool.eq_false_iff.mpr (mt changeMode_live (Bool.eq_false_iff.mp (free calibrate))),
    fun runs => (nomatch runs), applied, range⟩

theorem modeWork_modeLaw (r : Request) {s : State} (law : ModeLaw s) : ModeLaw (modeWork r s).state := by
  unfold modeWork
  split
  · exact law
  next m _ =>
    split
    · exact law
    split
    · exact law
    next loaded =>
      split
      · exact law
      next free =>
        exact changeMode_modeLaw (fun measure => Option.isSome_iff_ne_none.mpr fun empty => loaded ⟨measure, empty⟩)
          (fun calibrate => Bool.eq_false_iff.mpr fun live => free ⟨calibrate, live⟩) law

/-- R115: a run starts in CALIBRATE alone. -/
theorem calibrateWork_modeLaw (r : Request) {s : State} (law : ModeLaw s) : ModeLaw (calibrateWork r s).state := by
  have ⟨loaded, idle, _, rest⟩ := law
  unfold calibrateWork
  split
  · exact law
  split
  · exact law
  next calibrate =>
    split
    · exact law
    split
    · exact law
    · exact ⟨loaded, idle, fun _ => not_not.mp calibrate, rest⟩

/-- R164: RESTART leaves STANDBY with no run, the bank as it was. -/
theorem restart_modeLaw {s : State} (law : ModeLaw s) : ModeLaw (restart s) := by
  obtain ⟨-, -, -, rest⟩ := law
  exact ⟨fun measure => (nomatch measure), fun calibrate => (nomatch calibrate), fun runs => (nomatch runs), rest⟩

/-! ### Command by command -/

/-- A request's work that keeps the law keeps it with its RESPONSE. -/
theorem takeOldest_modeLaw (want : Request → Bool) {work : Request → State → Answer}
    (works : ∀ r {s}, ModeLaw s → ModeLaw (work r s).state) {s : State} (law : ModeLaw s) :
    ModeLaw (takeOldest want work s) := by
  obtain h | ⟨r, rest, -, -, -, h⟩ := takeOldest_cases want work s <;> rw [h]
  · exact law
  · exact (respond_abides _ _ _).modeLaw (works r (s := s.setMill { s.mill with requestQ := rest }) law)

theorem readWork_abides (r : Request) (s : State) : Abides s (readWork r s).state := by
  unfold readWork
  split
  · exact .refl s
  · exact afterRead_abides _ s

theorem writeWork_abides (r : Request) (s : State) : Abides s (writeWork r s).state := by
  unfold writeWork
  split
  · exact .refl s
  · exact storeEntry_abides _ _ s

theorem exchangeWork_abides (r : Request) (s : State) : Abides s (exchangeWork r s).state := by
  unfold exchangeWork
  split
  · exact .refl s
  · exact storeEntry_abides _ _ s

theorem clearWork_abides (r : Request) (s : State) : Abides s (clearWork r s).state := by
  unfold clearWork
  split
  · exact .refl s
  · exact clearEntry_abides _ s

section
variable {s t : State}

theorem abides_of_next {u : State} (w : Abides s u)
    (h : Host.Outcome.next u = (.next t : Host.Outcome State Fault Refusal)) : Abides s t := by
  cases h; exact w

/-- One of two outcomes. -/
theorem abides_of_ite {c : Prop} [Decidable c] {u v : State} (yes : Abides s u) (no : Abides s v)
    (h : (if c then .next u else .next v) = (.next t : Host.Outcome State Fault Refusal)) : Abides s t := by
  split at h
  · exact abides_of_next yes h
  · exact abides_of_next no h

theorem execTraceFrame_abides {x : Trace} (h : execTraceFrame x s = .next t) : Abides s t := by
  have counted : Abides s (countHeadFrame s) := .of_eq
  have traced : Abides s (countTrace x.head (countHeadFrame s)) := .of_eq
  unfold execTraceFrame at h
  split at h
  · exact abides_of_ite (traced.trans (checkSequence_abides x _)) (counted.trans (rejectHeadFrame_abides _ _)) h
  · exact abides_of_next (.refl s) h

theorem execRequestFrame_abides {r : Request} (h : execRequestFrame r s = .next t) : Abides s t := by
  have counted : Abides s (countMillFrame s) := .of_eq
  unfold execRequestFrame at h
  split at h
  · exact abides_of_ite (counted.trans (queueRequest_abides r _)) (counted.trans (rejectMillFrame_abides _ _)) h
  · exact abides_of_next (.refl s) h

theorem execTimeMarkSent_abides (h : execTimeMarkSent s = .next t) : Abides s t := by
  unfold execTimeMarkSent at h
  split at h
  · exact abides_of_next (.refl s) h
  · exact abides_of_next .of_eq h

theorem execTransmissionCompletion_abides (h : execTransmissionCompletion s = .next t) : Abides s t := by
  unfold execTransmissionCompletion at h
  split at h
  · exact abides_of_next (.refl s) h
  · exact abides_of_next .of_eq h

theorem execEvaluationStart_abides (h : execEvaluationStart s = .next t) : Abides s t := by
  unfold execEvaluationStart at h
  split at h
  · exact abides_of_next ((startEvaluation_abides _ _ s).trans (examineBoth_abides _)) h
  · exact abides_of_next (.refl s) h

theorem execEvaluationCompletion_abides (h : execEvaluationCompletion s = .next t) : Abides s t := by
  unfold execEvaluationCompletion at h
  split at h
  · exact abides_of_next (.refl s) h
  · exact abides_of_next ((completeEvaluation_abides _ s).trans (examineBoth_abides _)) h

theorem execMapFrameQueued_abides (h : execMapFrameQueued s = .next t) : Abides s t := by
  unfold execMapFrameQueued at h
  split at h
  · exact abides_of_next (.refl s) h
  split at h
  · exact abides_of_next (.refl s) h
  next tube =>
    split at h
    · split at h
      next room =>
        exact abides_of_next (.of_wraps ((queueMapFrame_wraps _ _ room tube).trans (markWaiting_wraps _))
          ((queueMapFrame_downstream (K := []) _ _ _ _ room).trans (markWaiting_downstream _))) h
      next => exact abides_of_next (.refl s) h
    · exact abides_of_next (.refl s) h

theorem execMapEndQueued_abides (h : execMapEndQueued s = .next t) : Abides s t := by
  unfold execMapEndQueued at h
  split at h
  · exact abides_of_next (.refl s) h
  split at h
  · exact abides_of_next (.refl s) h
  split at h
  · exact abides_of_next (.refl s) h
  split at h
  next room =>
    exact abides_of_next (.of_wraps ((queueMapEnd_wraps room).trans (examineDrain_wraps _))
      ((queueMapEnd_downstream (K := []) _ _ room).trans (examineDrain_downstream _))) h
  next => exact abides_of_next (.refl s) h

theorem exec_modeLaw {i : Instr} (h : exec i s = .next t) (law : ModeLaw s) : ModeLaw t := by
  have asked {want : Request → Bool} {work : Request → State → Answer} (works : ∀ r {u}, ModeLaw u → ModeLaw (work r u).state)
      (h : Host.Outcome.next (takeOldest want work s) = (.next t : Host.Outcome State Fault Refusal)) : ModeLaw t := by
    cases h; exact takeOldest_modeLaw want works law
  have headCounted : Abides s (countHeadFrame s) := .of_eq
  have millCounted : Abides s (countMillFrame s) := .of_eq
  have linkUp : Abides s (s.setMill { s.mill with link := .up }) := .of_eq
  cases i with
  | powerOnReset => cases h; exact reset_modeLaw
  | positionFrame f =>
    change execPositionFrame f s = .next t at h
    unfold execPositionFrame at h
    split at h <;> cases h
    · exact takePosition_modeLaw f (headCounted.modeLaw law)
    · exact law
  | headLinkUp => exact (abides_of_ite (.refl s) .of_eq h).modeLaw law
  | headLinkDown cut => exact (abides_of_ite (.refl s) .of_eq h).modeLaw law
  | traceFrame x => exact (execTraceFrame_abides h).modeLaw law
  | temperatureFrame f => exact (abides_of_ite .of_eq (.refl s) h).modeLaw law
  | headFrameRejected r =>
    exact (abides_of_ite (headCounted.trans (rejectHeadFrame_abides r _)) (.refl s) h).modeLaw law
  | timeMark => exact (abides_of_ite .of_eq (.refl s) h).modeLaw law
  | timeMarkSent => exact (execTimeMarkSent_abides h).modeLaw law
  | headSilenceExpiry x =>
    exact (abides_of_ite ((expireHead_abides x s).trans (examineBoth_abides _)) (.refl s) h).modeLaw law
  | tempRecordExpiry ch => exact (abides_of_next .of_eq h).modeLaw law
  | evaluationStart => exact (execEvaluationStart_abides h).modeLaw law
  | evaluationCompletion => exact (execEvaluationCompletion_abides h).modeLaw law
  | positionSilenceExpiry =>
    exact (abides_of_ite ((expirePosition_abides s).trans (examineBoth_abides _)) (.refl s) h).modeLaw law
  | settleLimitExpiry c =>
    exact (abides_of_ite ((expireSettle_abides c s).trans (examineBoth_abides _)) (.refl s) h).modeLaw law
  | settleCompletion => exact (abides_of_next (examineBoth_abides s) h).modeLaw law
  | calibrationTimeout => exact (abides_of_next (expireRun_abides s) h).modeLaw law
  | drainBegin => exact (abides_of_next (examineDrain_abides s) h).modeLaw law
  | mapFrameQueued => exact (execMapFrameQueued_abides h).modeLaw law
  | mapEndQueued => exact (execMapEndQueued_abides h).modeLaw law
  | millLinkUp => exact (abides_of_ite (.refl s) (linkUp.trans (startTransmission_abides _)) h).modeLaw law
  | millLinkDown cut => exact (abides_of_ite (.refl s) .of_eq h).modeLaw law
  | requestFrame r => exact (execRequestFrame_abides h).modeLaw law
  | millFrameRejected r =>
    exact (abides_of_ite (millCounted.trans (rejectMillFrame_abides r _)) (.refl s) h).modeLaw law
  | transmissionStart => exact (abides_of_next (startTransmission_abides s) h).modeLaw law
  | transmissionCompletion => exact (execTransmissionCompletion_abides h).modeLaw law
  | responseHeldRelease => exact (abides_of_next (releaseHeld_abides s) h).modeLaw law
  | read => exact asked (fun r u => (readWork_abides r u).modeLaw) h
  | write => exact asked (fun r u => (writeWork_abides r u).modeLaw) h
  | exchange => exact asked (fun r u => (exchangeWork_abides r u).modeLaw) h
  | clear => exact asked (fun r u => (clearWork_abides r u).modeLaw) h
  | apply => exact asked applyWork_modeLaw h
  | mode => exact asked modeWork_modeLaw h
  | calibrate => exact asked calibrateWork_modeLaw h
  | abortCal => exact asked (fun _ u => (abortRun_abides u).modeLaw) h
  | restart => exact asked (fun _ _ => restart_modeLaw) h
  | status => exact asked (fun _ _ => id) h
  | undefinedOperation => exact asked (fun _ _ => id) h

end

/-- Settles O8: most commands abide by the law, the others check what it asks; a step with none waiting moves part time alone. -/
theorem modeStaysLawful : Obligations.ModeStaysLawful := by
  intro s t law h
  unfold step at h
  split at h
  · cases h; exact law
  · exact exec_modeLaw h law

end Sys2Proof.Machine
end

section
/-! Calibration runs and the part's status (R115, R119 to R121, R123, R157, R158, R165): the checks of a CALIBRATE, a run's ends
without a factor, the STATUS record, and the requests that name nothing defined. -/

namespace Sys2Proof.Machine

/-! ### CALIBRATE (R115) -/

/-- A CALIBRATE answers what its work gives. -/
theorem exec_calibrate {r : Request} {rest : List Request} {s : State} (ready : Ready r rest s)
    (named : operationOf r.operation = some .calibrate) {x : Answer} (work : calibrateWork r (dequeued rest s) = x) :
    exec .calibrate s = .next (answer r x.status x.data x.state) := by
  subst work
  exact congrArg _ (takeOldest_ready ready named calibrateWork)

theorem headIndex_none {i : Nat} (beyond : 8 ≤ i) : headIndex i = none := dif_neg (Nat.not_lt.mpr beyond)

theorem calibrateWork_badIndex {r : Request} (beyond : 8 ≤ (byteAt r.data 0).toNat) (s : State) :
    calibrateWork r s = refuse .badIndex s := by
  rw [calibrateWork, headIndex_none beyond]

section
variable {r : Request} {s : State} {h : HeadNo} (head : (byteAt r.data 0).toNat = h.val)
include head

/-- R115: the checks that follow the index's, in their order. -/
theorem calibrateWork_head : calibrateWork r s =
    if s.agent.mode ≠ .calibrate then refuse .refusedMode s
    else if s.agent.run.isSome then refuse .busy s
    else if !headEnabled s h then refuse .noHead s
    else
      { status := .accepted, data := .calibration (calFieldsOf h r.data),
        state := s.setAgent { s.agent with run := some (newRun s.now (calFieldsOf h r.data)) } } := by
  rw [calibrateWork, head, headIndex_val]

theorem calibrateWork_refusedMode (other : s.agent.mode ≠ .calibrate) : calibrateWork r s = refuse .refusedMode s := by
  rw [calibrateWork_head head, if_pos other]

variable (mode : s.agent.mode = .calibrate)
include mode

theorem calibrateWork_busy {x : CalRun} (run : s.agent.run = some x) : calibrateWork r s = refuse .busy s := by
  rw [calibrateWork_head head, if_neg (not_not.mpr mode), if_pos (by rw [run]; rfl)]

variable (idle : s.agent.run = none)
include idle

theorem calibrateWork_noHead (off : headEnabled s h = false) : calibrateWork r s = refuse .noHead s := by
  rw [calibrateWork_head head, if_neg (not_not.mpr mode), if_neg (by rw [idle]; exact Bool.false_ne_true),
    if_pos (by rw [off]; rfl)]

theorem calibrateWork_accepted (on : headEnabled s h = true) : calibrateWork r s =
    { status := .accepted, data := .calibration (calFieldsOf h r.data),
      state := s.setAgent { s.agent with run := some (newRun s.now (calFieldsOf h r.data)) } } := by
  rw [calibrateWork_head head, if_neg (not_not.mpr mode), if_neg (by rw [idle]; exact Bool.false_ne_true),
    if_neg (by rw [on]; exact Bool.false_ne_true)]

end

/-- R115: the four fields in their ranges; a temperature has no lower limit. -/
theorem calFieldsOf_eq (h : HeadNo) (d : List Byte) : calFieldsOf h d =
    { head := h, reference := max 1000 (min 65000 (wordAt d 1).toNat), temperature := min 1600 (wordAt d 3).toNat,
      traces := max 4 (min 64 (byteAt d 5).toNat), tolerance := max 1 (min 5000 (wordAt d 6).toNat) } := by
  simp only [calFieldsOf, clamp, Nat.zero_max]

/-- Settles O55: each check by the equation of the work that it decides. -/
theorem calibrateStartsARun : Obligations.CalibrateStartsARun := by
  intro r rest s s0 ready named
  have answers {x : Answer} := exec_calibrate ready named (x := x)
  refine ⟨fun beyond => answers (calibrateWork_badIndex beyond s0), fun h head =>
    ⟨fun other => answers (calibrateWork_refusedMode (s := s0) head other),
      fun x mode run => answers (calibrateWork_busy (s := s0) head mode run),
      fun mode idle off => answers (calibrateWork_noHead (s := s0) head mode idle off), fun mode idle on => ?_⟩⟩
  have work := calibrateWork_accepted (s := s0) head mode idle on
  rw [calFieldsOf_eq] at work
  exact answers work

/-! ### A run's end without a factor (R119, R120) -/

/-- R121: the end of a run leaves the blocks before the run, and the wall map. -/
theorem endRun_rest (r : CalRun) (o : CalOutcome) (k : Option Nat) (s : State) :
    (endRun r o k s).headPort = s.headPort ∧ (endRun r o k s).traceQueue = s.traceQueue ∧
    (endRun r o k s).pose = s.pose ∧ (endRun r o k s).wall = s.wall := by
  obtain ⟨calib, written⟩ := writeFactor_eq r o k s
  simp [endRun, dropRun, written]

/-- R119: at its limit the run in progress ends TIMEOUT. -/
theorem expireRun_due {s : State} {x : CalRun} (run : s.agent.run = some x)
    (due : s.agent.timing.calibration * 1000 ≤ age s.now x.startTime) : expireRun s = endRun x .timeout none s := by
  have reached : calibrationDue s = true := by
    rw [calibrationDue, run]
    exact decide_eq_true due
  rw [expireRun, run]
  exact if_pos reached

theorem abortRun_some {s : State} {x : CalRun} (run : s.agent.run = some x) : abortRun s = endRun x .aborted none s := by
  rw [abortRun, run]

/-- R120: an ABORT_CAL answers NONE, whether or not a run was in progress. -/
theorem exec_abortCal {r : Request} {rest : List Request} {s : State} (ready : Ready r rest s)
    (named : operationOf r.operation = some .abortCal) :
    exec .abortCal s = .next (answer r .ok (.runState false) (abortRun (dequeued rest s))) := by
  have work : abortWork r (dequeued rest s) =
      { status := .ok, data := .runState false, state := abortRun (dequeued rest s) } := by
    rw [abortWork, abortRun_agent]
    rfl
  exact congrArg _ ((takeOldest_ready ready named abortWork).trans (by rw [work]))

/-- R155: a RESPONSE joins its class queue where there is room. -/
theorem answer_room {r : Request} {st : Status} {d : RespData} {s : State} (room : s.mill.responseQ.length < 2) :
    answer r st d s =
      s.setMill { s.mill with responseQ := s.mill.responseQ ++ [{ tag := r.tag, status := st, data := d }] } := if_pos room

/-- Settles O56: both endings are `endRun` without a factor; the ABORT_CAL's RESPONSE changes its class queue alone. -/
theorem calibrationRunEnds : Obligations.CalibrationRunEnds := by
  intro s
  refine ⟨fun x run due summary _ => ?_, fun r rest ready named => ⟨fun idle => ?_, fun x run response summary => ?_⟩⟩
  · refine ⟨_, congrArg Host.Outcome.next (expireRun_due run due), endRun_agent x .timeout none s,
      endRun_summaryQ x .timeout none s summary, ?_, endRun_rest x .timeout none s⟩
    exact (occurrences_endRun x .timeout none s (k := .calDone) (by decide)).trans (if_pos rfl)
  · rw [exec_abortCal ready named, abortRun_none (s := dequeued rest s) idle]
  · let s0 := dequeued rest s
    let ended := endRun x .aborted none s0
    have queue : ended.mill.responseQ = s.mill.responseQ := (endRun_work x .aborted none s0 nofun).responseQ
    have done : exec .abortCal s = .next (answer r .ok (.runState false) ended) := by
      rw [exec_abortCal ready named, abortRun_some (s := s0) run]
    rw [answer_room (by rw [queue]; exact response)] at done
    refine ⟨_, done, endRun_agent x .aborted none s0, endRun_summaryQ x .aborted none s0 summary, ?_, ?_⟩
    · exact congrArg (· ++ [_]) queue
    · exact (occurrences_endRun x .aborted none s0 (k := .calDone) (by decide)).trans (if_pos rfl)

/-! ### STATUS and undefined requests (R123, R157, R158, R165) -/

theorem operationOf_none {code : Byte} (beyond : 9 < code.toNat) : operationOf code = none := by
  unfold operationOf
  split
  case h_11 => rfl
  all_goals omega

theorem tableOf_none {code : Byte} (beyond : 15 < code.toNat) : tableOf code = none := by
  unfold tableOf
  split
  case h_17 => rfl
  all_goals omega

/-- R177: the operation codes in their order. -/
theorem operationOf_eq (code : Byte) : operationOf code =
    [Operation.read, .write, .exchange, .clear, .apply, .mode, .calibrate, .abortCal, .restart, .status][code.toNat]? := by
  obtain beyond | within := Nat.lt_or_ge 9 code.toNat
  · rw [operationOf_none beyond, List.getElem?_eq_none beyond]
  · unfold operationOf
    interval_cases code.toNat <;> rfl

theorem isUndefined_of_operation {r : Request} (beyond : 9 < r.operation.toNat) : isUndefined r = true := by
  rw [isUndefined, operationOf_none beyond]

/-- R158: the four operations that use a table. -/
theorem isUndefined_of_table {r : Request} (uses : r.operation.toNat < 4) (beyond : 15 < r.table.toNat) :
    isUndefined r = true := by
  have none : (tableOf r.table).isNone = true := by rw [tableOf_none beyond]; rfl
  obtain h | h | h | h : r.operation.toNat = 0 ∨ r.operation.toNat = 1 ∨ r.operation.toNat = 2 ∨ r.operation.toNat = 3 := by
    omega
  all_goals
    rw [isUndefined, operationOf_eq, h]
    exact none

theorem exec_undefinedOperation {r : Request} {rest : List Request} {s : State} (ready : Ready r rest s)
    (undefined : isUndefined r = true) :
    exec .undefinedOperation s = .next (answer r .badTable .none (dequeued rest s)) :=
  congrArg _ (takeOldest_taken ready.1 ready.2 undefined)

/-- R83: the free pages and the pages held make 384. -/
theorem pages_count_of_pageLaw {s : State} (law : PageLaw s) :
    s.wall.free.length + ((pagesHeld s.tubes.a).length + (pagesHeld s.tubes.b).length) = 384 := by
  obtain ⟨pages, -⟩ := law
  simpa only [List.length_append, List.length_range] using pages.length_eq

/-- Settles O59: STATUS by its work, the pages by their permutation, an undefined request by the codes that name nothing. -/
theorem statusAndUndefinedRequests : Obligations.StatusAndUndefinedRequests := by
  intro r rest s ready
  exact ⟨operationOf_eq r.operation, fun named => congrArg _ (takeOldest_ready ready named statusWork), pages_count_of_pageLaw,
    fun beyond => exec_undefinedOperation ready (isUndefined_of_operation beyond),
    fun uses beyond => exec_undefinedOperation ready (isUndefined_of_table uses beyond)⟩

end Sys2Proof.Machine
end

section
/-! What a step leaves of the law of the intake records (R131, R139, R140): most commands leave each record's state and optional
fields, or change them within the law; an apply takes each head into the new bank, and RESTART starts every record anew. -/

namespace Sys2Proof.Machine

variable {K : List EventKind}

/-! ### One intake record (R139, R140) -/

theorem HeadRecord.lawful_iff (enabled : Bool) (r : HeadRecord) :
    r.lawful enabled = true ↔ (r.state = .disabled ↔ enabled = false) ∧ r.expected.isSome = r.lastTimestamp.isSome ∧
      r.expected.isSome = r.lastArrival.isSome ∧ (r.state = .unseen → r.expected = none) ∧
      (r.state = .active ∨ r.state = .silent → r.expected.isSome = true) := by
  have states : ((r.state == .disabled) == !enabled) = true ↔ (r.state = .disabled ↔ enabled = false) := by
    cases r.state <;> cases enabled <;> decide
  unfold HeadRecord.lawful
  simp only [Bool.and_eq_true, states, beq_iff_eq, and_assoc]
  cases r.state <;> simp

/-- R142: an accepted trace fills the optional fields of a head that is not DISABLED. -/
theorem HeadRecord.accept_lawful {enabled : Bool} {r : HeadRecord} (on : r.state ≠ .disabled)
    (law : r.lawful enabled = true) (now : Time) (t : Trace) : (r.accept now t).lawful enabled = true := by
  rw [HeadRecord.lawful_iff] at law ⊢
  simpa [HeadRecord.accept, on] using law.1

/-- R141: an ACTIVE head that becomes SILENT has accepted a trace. -/
theorem HeadRecord.silent_lawful {enabled : Bool} {r : HeadRecord} (active : r.state = .active)
    (law : r.lawful enabled = true) : ({ r with state := .silent } : HeadRecord).lawful enabled = true := by
  rw [HeadRecord.lawful_iff] at law ⊢
  simpa [active] using law

/-- R131: the record of a head taken into the new bank agrees with it. -/
theorem rebank_lawful {was : Bool} {r : HeadRecord} (law : r.lawful was = true) (now : Bool) :
    (rebank was now r).lawful now = true := by
  rw [HeadRecord.lawful_iff] at law ⊢
  obtain ⟨disabled, timestamp, arrival, rest⟩ := law
  unfold rebank
  cases now with
  | false => exact ⟨by simp, timestamp, arrival, by simp, by simp⟩
  | true =>
    cases was with
    | false => simp
    | true => exact ⟨disabled, timestamp, arrival, rest⟩

theorem restart_record_lawful (enabled : Bool) : (HeadRecord.restart enabled).lawful enabled = true := by
  cases enabled <;> rfl

/-! ### Records that keep the law -/

/-- From `s` to `t` the active bank stands, and each intake record that is lawful stays lawful. -/
structure KeepsHeads (s t : State) : Prop where
  active : t.agent.active = s.agent.active
  records : ∀ h enabled, (tableGet s.headPort.heads h).lawful enabled = true →
    (tableGet t.headPort.heads h).lawful enabled = true

theorem headEnabled_of_active {s t : State} (active : t.agent.active = s.agent.active) (h : HeadNo) :
    headEnabled t h = headEnabled s h := by
  unfold headEnabled
  rw [active]

namespace KeepsHeads

variable {s t u : State}

theorem trans (a : KeepsHeads s t) (b : KeepsHeads t u) : KeepsHeads s u where
  active := b.active.trans a.active
  records h enabled := b.records h enabled ∘ a.records h enabled

/-- A change of nothing that the law reads. -/
theorem of_eq (heads : t.headPort.heads = s.headPort.heads := by rfl) (active : t.agent.active = s.agent.active := by rfl) :
    KeepsHeads s t where
  active := active
  records h enabled := by rw [heads]; exact id

theorem refl (s : State) : KeepsHeads s s := of_eq

theorem of_downstream (d : Downstream K s t) : KeepsHeads s t := of_eq (by rw [d.headPort]) (by rw [d.agent])

theorem foldl {α : Type} {f : State → α → State} (step : ∀ s x, KeepsHeads s (f s x)) (l : List α) (s : State) :
    KeepsHeads s (l.foldl f s) := by
  induction l generalizing s with
  | nil => exact refl s
  | cons x rest ih => exact (step s x).trans (ih _)

theorem headLaw (keeps : KeepsHeads s t) (law : HeadLaw s) : HeadLaw t := fun h => by
  rw [headEnabled_of_active keeps.active]
  exact keeps.records h _ (law h)

end KeepsHeads

/-- One record changed within the law. -/
theorem modHead_keepsHeads (h : HeadNo) (f : HeadRecord → HeadRecord) (s : State)
    (lawful : ∀ enabled, (tableGet s.headPort.heads h).lawful enabled = true →
      (f (tableGet s.headPort.heads h)).lawful enabled = true := by exact fun _ => id) : KeepsHeads s (modHead h f s) where
  active := rfl
  records g enabled law := by
    simp only [modHead, State.setHeadPort_headPort]
    by_cases same : g = h
    · subst same
      rw [tableGet_tableMod_same]
      exact lawful enabled law
    · rwa [tableGet_tableMod_other _ _ same]

/-! ### Occurrences and the ends of a step -/

theorem raise_keepsHeads (k : EventKind) (d : Detail) (s : State) : KeepsHeads s (raise k d s) :=
  .of_eq (by rw [raise_headPort]) (by rw [raise_agent])

theorem compareSnapshot_keepsHeads (h : HeadNo) (s : State) : KeepsHeads s (compareSnapshot h s) :=
  .of_downstream (compareSnapshot_downstream h s)

theorem examineBoth_keepsHeads (s : State) : KeepsHeads s (examineBoth s) := .of_downstream (examineBoth_downstream s)

theorem endTube_keepsHeads (time : Time) (travel : Nat) (reason : CloseReason) (s : State) :
    KeepsHeads s (endTube time travel reason s) :=
  .of_downstream (endTube_downstream (K := []) time travel reason s)

/-! ### TRACE frames (R138, R142, R143) -/

theorem rejectHeadFrame_keepsHeads (r : HeadReject) (s : State) : KeepsHeads s (rejectHeadFrame r s) := by
  have counted (f : HeadCounters → HeadCounters) : KeepsHeads s (modHeadCounters f s) := .of_eq
  cases r with
  | traceFields h => exact (counted _).trans ((modHead_keepsHeads h _ _).trans (raise_keepsHeads _ _ _))
  | frameCheck | kind | source | length => exact (counted _).trans (raise_keepsHeads _ _ _)

theorem admitTrace_keepsHeads (t : Trace) (s : State) : KeepsHeads s (admitTrace t s) := by
  unfold admitTrace
  split
  · split
    · exact .of_eq
    · exact (modHead_keepsHeads _ _ s).trans (raise_keepsHeads _ _ _)
  · exact modHead_keepsHeads _ _ s

/-- R142: a gap changes no head's state. -/
theorem countGap_state (h : HeadNo) (g : Nat) (s : State) : headStateOf (countGap h g s) h = headStateOf s h := by
  unfold countGap
  split
  · rfl
  · simp [headStateOf, modHead]

/-- R140, R142: a trace is accepted from a head that is not DISABLED. -/
theorem acceptTrace_keepsHeads {t : Trace} {s : State} (on : headStateOf s t.head ≠ .disabled) (g : Nat) :
    KeepsHeads s (acceptTrace t g s) := by
  have counted : KeepsHeads s (countGap t.head g s) := by
    unfold countGap
    split
    · exact .refl s
    · exact (modHead_keepsHeads _ _ s).trans (raise_keepsHeads _ _ _)
  have accepted := counted.trans (modHead_keepsHeads t.head (HeadRecord.accept s.now t) (countGap t.head g s)
    fun _ law => HeadRecord.accept_lawful (by rwa [← countGap_state t.head g s] at on) law _ _)
  simp only [acceptTrace]
  split
  · exact accepted.trans ((admitTrace_keepsHeads t _).trans (examineBoth_keepsHeads _))
  · exact accepted.trans ((compareSnapshot_keepsHeads _ _).trans
      ((admitTrace_keepsHeads t _).trans (examineBoth_keepsHeads _)))

theorem checkSequence_keepsHeads (t : Trace) (s : State) : KeepsHeads s (checkSequence t s) := by
  have judged (on : headStateOf s t.head ≠ .disabled) (g : Nat) :
      KeepsHeads s (if g < 32768 then acceptTrace t g s
        else raise .duplicate (.headSequence t.head t.sequence)
          (modHead t.head (fun r => { r with duplicates := satInc cap32 r.duplicates }) s)) := by
    split
    · exact acceptTrace_keepsHeads on g
    · exact (modHead_keepsHeads _ _ s).trans (raise_keepsHeads _ _ _)
  have state : headStateOf s t.head = (tableGet s.headPort.heads t.head).state := rfl
  simp only [checkSequence]
  split
  next => exact modHead_keepsHeads _ _ s
  next unseen => exact acceptTrace_keepsHeads (by rw [state, unseen]; decide) 0
  next active => exact judged (by rw [state, active]; decide) _
  next silent => exact judged (by rw [state, silent]; decide) _

/-! ### Expiries (R46, R76, R119, R141) -/

theorem headSilenceDue_active {s : State} {h : HeadNo} (due : headSilenceDue s h = true) : headStateOf s h = .active := by
  unfold headSilenceDue at due
  split at due
  next active _ => exact active
  next => cases due

theorem expireHead_keepsHeads (h : HeadNo) (s : State) : KeepsHeads s (expireHead h s) := by
  cases due : headSilenceDue s h with
  | false => rw [expireHead_off due]; exact .refl s
  | true =>
    have silenced : KeepsHeads s (silencedHead h s) :=
      modHead_keepsHeads h _ s fun _ => HeadRecord.silent_lawful (headSilenceDue_active due)
    exact silenced.trans (.of_downstream (expireHead_downstream due))

/-- R47, R52, R53: the pending readings resolved. -/
theorem resolvePending_keepsHeads (due : Reading → Bool) {how : Reading → State → State}
    (resolves : ∀ r s, Downstream evaluationKinds s (how r s)) (s : State) : KeepsHeads s (resolvePending due how s) := by
  obtain ⟨headPort, agent, -⟩ := resolvePending_rest due resolves s
  exact .of_eq (by rw [headPort]) (by rw [agent])

theorem expirePosition_keepsHeads (s : State) : KeepsHeads s (expirePosition s) := by
  cases due : positionSilenceDue s with
  | false => rw [expirePosition_off due]; exact .refl s
  | true =>
    obtain ⟨headPort, agent, -⟩ := silencedFeed_rest s
    have silenced : KeepsHeads s (silencedFeed s) := .of_eq (by rw [headPort]) (by rw [agent])
    have lost (u : State) : KeepsHeads u (losePosition u) := by
      unfold losePosition
      split
      · split
        · exact .refl u
        · exact (endTube_keepsHeads _ _ _ u).trans (raise_keepsHeads _ _ _)
      · exact .refl u
    rw [expirePosition_due due]
    exact silenced.trans ((lost _).trans .of_eq)

theorem expireSettle_keepsHeads (c : Ctx) (s : State) : KeepsHeads s (expireSettle c s) := by
  unfold expireSettle
  split
  · exact .refl s
  split
  · exact .refl s
  split
  · exact (raise_keepsHeads _ _ s).trans ((resolvePending_keepsHeads _ extrapolate_downstream _).trans
      (.of_downstream (completeSettling_downstream c _)))
  · exact .refl s

theorem endRun_keepsHeads (r : CalRun) (o : CalOutcome) (k : Option Nat) (s : State) : KeepsHeads s (endRun r o k s) :=
  .of_eq (by rw [(endRun_rest r o k s).1]) (endRun_abides r o k s).active

theorem abortRun_keepsHeads (s : State) : KeepsHeads s (abortRun s) := by
  unfold abortRun
  split
  · exact .refl s
  · exact endRun_keepsHeads _ _ _ s

theorem expireRun_keepsHeads (s : State) : KeepsHeads s (expireRun s) := by
  unfold expireRun
  split
  · exact .refl s
  split
  · exact endRun_keepsHeads _ _ _ s
  · exact .refl s

theorem fireDueTimers_keepsHeads (s : State) : KeepsHeads s (fireDueTimers s) :=
  (KeepsHeads.foldl (fun x h => expireHead_keepsHeads h x) allHeads s).trans ((expirePosition_keepsHeads _).trans
    ((KeepsHeads.foldl (fun x c => expireSettle_keepsHeads c x) _ _).trans
      ((expireRun_keepsHeads _).trans (examineBoth_keepsHeads _))))

/-! ### Evaluations (R5, R8, R24, R25) -/

theorem startEvaluation_keepsHeads (t : Trace) (rest : List Trace) (s : State) :
    KeepsHeads s (startEvaluation t rest s) := by
  have withdrawn : KeepsHeads s (countIdleDiscard t.head (s.setTraceQueue rest)) :=
    (KeepsHeads.of_eq (t := s.setTraceQueue rest)).trans (modHead_keepsHeads _ _ _)
  simp only [startEvaluation]
  split
  · exact withdrawn
  split
  · exact .of_eq
  · exact withdrawn

theorem handOn_keepsHeads (tie : Tie) (r : Reading) (s : State) : KeepsHeads s (handOn tie r s) := by
  have decided (x : Reading) (u : State) : KeepsHeads u (decideReading x u) :=
    .of_downstream (decideReading_downstream (K := []) x u)
  cases tie with
  | ordinary =>
    obtain ⟨p, q, x, reached, h⟩ := resolveReading_reaches r s
    change KeepsHeads s (resolveReading r s)
    rw [h]
    exact (KeepsHeads.of_eq (t := s.setPose p)).trans ((KeepsHeads.of_downstream reached).trans .of_eq)
  | run =>
    change KeepsHeads s (runTakes r s)
    simp only [runTakes]
    split
    · exact .refl s
    next x _ =>
      have took : KeepsHeads s (s.setAgent { s.agent with run := some (x.take r) }) := .of_eq
      split
      · exact took.trans ((endRun_keepsHeads _ _ _ _).trans (decided _ _))
      · exact took.trans (decided _ _)
  | runEnded => exact .refl s

theorem completeEvaluation_keepsHeads (ev : Evaluation) (s : State) : KeepsHeads s (completeEvaluation ev s) := by
  have flawed (r : Reading) (u : State) : KeepsHeads u (raiseFlaw r u) := by
    unfold raiseFlaw
    split
    · exact raise_keepsHeads _ _ u
    · exact .refl u
  have fell (r : Reading) (ch : Option ChannelNo) (u : State) : KeepsHeads u (raiseTempFallback r ch u) := by
    unfold raiseTempFallback
    split
    · exact raise_keepsHeads _ _ u
    · exact .refl u
  have idle : KeepsHeads s (s.setEvaluator none) := .of_eq
  exact idle.trans ((handOn_keepsHeads ev.tie (evaluate ev) _).trans ((flawed _ _).trans ((fell _ _ _).trans
    (.of_downstream (decideMirror_downstream (K := []) _ _)))))

/-! ### The mill link (R147, R150, R154, R155) -/

theorem releaseHeld_keepsHeads (s : State) : KeepsHeads s (releaseHeld s) := by
  unfold releaseHeld
  split
  · exact .refl s
  split
  · exact .of_eq
  · exact .refl s

theorem startTransmission_keepsHeads (s : State) : KeepsHeads s (startTransmission s) := by
  have left (m : MillPort) : KeepsHeads s (s.setMill m) := .of_eq
  unfold startTransmission
  split
  · split
    · exact (left _).trans (releaseHeld_keepsHeads _)
    · exact left _
    · exact left _
    · exact (left _).trans (.of_downstream (runDrain_downstream (K := []) _))
    · exact left _
    · exact left _
    · exact .refl s
  · exact .refl s

theorem rejectMillFrame_keepsHeads (r : MillReject) (s : State) : KeepsHeads s (rejectMillFrame r s) := by
  have counted (f : MillCounters → MillCounters) : KeepsHeads s (modMillCounters f s) := .of_eq
  cases r <;> exact (counted _).trans (raise_keepsHeads _ _ _)

theorem queueRequest_keepsHeads (r : Request) (s : State) : KeepsHeads s (queueRequest r s) := by
  have dropped (f : MillCounters → MillCounters) : KeepsHeads s (modMillCounters f s) := .of_eq
  unfold queueRequest
  split
  · exact .of_eq
  · exact (dropped _).trans (raise_keepsHeads _ _ _)

theorem respond_keepsHeads (r : Request) (a : Response) (s : State) : KeepsHeads s (respond r a s) := by
  obtain ⟨q, p, h⟩ := respond_eq r a s
  rw [h]
  exact .of_eq

/-! ### READ, WRITE, EXCHANGE and CLEAR -/

theorem readWork_keepsHeads (r : Request) (s : State) : KeepsHeads s (readWork r s).state := by
  have copied (e : EntryName) : KeepsHeads s (afterRead e s) := by cases e <;> exact .of_eq
  unfold readWork
  split
  · exact .refl s
  · exact copied _

theorem storeEntry_keepsHeads (e : EntryName) (d : List Byte) (s : State) : KeepsHeads s (storeEntry e d s).1 := by
  have limited (x : Timing) : KeepsHeads s (s.setAgent { s.agent with timing := x }) := .of_eq
  unfold storeEntry
  cases e <;> dsimp only
  case timing => exact (limited _).trans (fireDueTimers_keepsHeads _)
  case event k => exact .of_downstream (storeEvent_downstream k _ _ s)
  all_goals exact .of_eq

theorem writeWork_keepsHeads (r : Request) (s : State) : KeepsHeads s (writeWork r s).state := by
  unfold writeWork
  split
  · exact .refl s
  · exact storeEntry_keepsHeads _ _ s

theorem exchangeWork_keepsHeads (r : Request) (s : State) : KeepsHeads s (exchangeWork r s).state := by
  unfold exchangeWork
  split
  · exact .refl s
  · exact storeEntry_keepsHeads _ _ s

theorem clearWork_keepsHeads (r : Request) (s : State) : KeepsHeads s (clearWork r s).state := by
  have cleared (e : EntryName) : KeepsHeads s (clearEntry e s) := by
    cases e with
    | headStatus h => exact modHead_keepsHeads h _ s
    | event k => exact .of_downstream (clearEvent_downstream k s)
    | _ => exact .of_eq
  unfold clearWork
  split
  · exact .refl s
  · exact cleared _

/-! ### A change of mode (R163) and RESTART (R164) -/

theorem modeWork_keepsHeads (r : Request) (s : State) : KeepsHeads s (modeWork r s).state := by
  have changed (m : Mode) : KeepsHeads s (changeMode m s) := by
    have left : KeepsHeads s (leaveCalibrate s) := by
      unfold leaveCalibrate
      split
      · exact abortRun_keepsHeads s
      · exact .refl s
    have ended (u : State) : KeepsHeads u (leaveMeasure m u) := by
      unfold leaveMeasure
      split
      · exact endTube_keepsHeads _ _ _ u
      · exact .refl u
    exact left.trans ((ended _).trans ((KeepsHeads.of_eq (t := State.setAgent _ _)).trans (examineBoth_keepsHeads _)))
  unfold modeWork
  split
  · exact .refl s
  · split
    · exact .refl s
    split
    · exact .refl s
    split
    · exact .refl s
    · exact changed _

theorem calibrateWork_keepsHeads (r : Request) (s : State) : KeepsHeads s (calibrateWork r s).state := by
  unfold calibrateWork
  split
  · exact .refl s
  split
  · exact .refl s
  split
  · exact .refl s
  split
  · exact .refl s
  · exact .of_eq

/-- R139, R164 step 6: RESTART makes every record anew from the active bank, which it keeps. -/
theorem restart_headLaw (s : State) : HeadLaw (restart s) := fun h => by
  have record : tableGet (restart s).headPort.heads h = HeadRecord.restart (headEnabled s h) :=
    Vector.getElem_ofFn (f := fun h => HeadRecord.restart (headEnabled s h)) h.isLt
  have bank : headEnabled (restart s) h = headEnabled s h := rfl
  rw [record, bank]
  exact restart_record_lawful _

end Sys2Proof.Machine
end

section
/-! An apply carried out (R131, R172): the intake records and the Management Agent that it leaves, and what it reports. -/

namespace Sys2Proof.Machine

variable {s t : State} {g h : HeadNo}

/-! ### The heads taken into the new bank (R131 step 4) -/

/-- The heads of a list taken into the bank of `t` one after another, each from what it was under the bank of `s`. -/
theorem tableGet_foldl_rebankHead {l : List HeadNo} (once : l.Nodup) :
    tableGet (l.foldl (fun x h => rebankHead s h x) t).headPort.heads g =
      if g ∈ l then rebank (headEnabled s g) (headEnabled t g) (tableGet t.headPort.heads g)
      else tableGet t.headPort.heads g := by
  induction l generalizing t with
  | nil => simp
  | cons h rest ih =>
    obtain ⟨new, once⟩ := List.nodup_cons.mp once
    have bank : headEnabled (rebankHead s h t) g = headEnabled t g := rfl
    rw [List.foldl_cons, ih once, bank]
    by_cases same : g = h
    · subst same
      simp [new, rebankHead, modHead]
    · have record : tableGet (rebankHead s h t).headPort.heads g = tableGet t.headPort.heads g :=
        tableGet_tableMod_other _ _ same
      simp [record, same]

theorem mem_allHeads : ∀ h : HeadNo, h ∈ allHeads := by decide

theorem allHeads_nodup : allHeads.Nodup := by decide

/-- R131 steps 1 to 4: the bank copied and every head taken into it. -/
def rebanked (s : State) : State := allHeads.foldl (fun x h => rebankHead s h x) (copyBank s)

/-- R172: every head whose state changed from `s` compared with its snapshot. -/
def reported (s x : State) : State := allHeads.foldl (fun x h => reportRebank s h x) x

theorem carryOutApply_eq (s : State) : carryOutApply s = abortDisabledRun (reported s (rebanked s)) := rfl

theorem rebanked_head (s : State) (h : HeadNo) : tableGet (rebanked s).headPort.heads h =
    rebank (headEnabled s h) (isYes (tableGet s.agent.staged.heads h).enabled) (tableGet s.headPort.heads h) :=
  (tableGet_foldl_rebankHead allHeads_nodup).trans (if_pos (mem_allHeads h))

/-- R131: what the heads do not touch. -/
theorem rebanked_rest (s : State) :
    (rebanked s).agent = (copyBank s).agent ∧ (rebanked s).events = s.events :=
  List.foldlRecOn (motive := fun x : State => x.agent = (copyBank s).agent ∧ x.events = s.events)
    allHeads _ ⟨rfl, rfl⟩ fun _ same _ _ => same

/-! ### The heads reported (R172) -/

theorem reportRebank_downstream (old : State) (h : HeadNo) (x : State) :
    Downstream evaluationKinds x (reportRebank old h x) := by
  unfold reportRebank
  split
  · exact .refl x
  · exact compareSnapshot_downstream h x

theorem reported_downstream (s x : State) : Downstream evaluationKinds x (reported s x) :=
  .foldl (fun x h => reportRebank_downstream s h x) allHeads x

/-- R120, R131 step 5: the run in progress stays exactly while its head is enabled. -/
theorem abortDisabledRun_agent (s : State) : (abortDisabledRun s).agent =
    { s.agent with run := s.agent.run.bind fun x => if headEnabled s x.head = true then some x else none } := by
  unfold abortDisabledRun
  split
  next idle => rw [idle, Option.bind_none, ← idle]
  next r run =>
    split
    next on => rw [run, Option.bind_some, if_pos on, ← run]
    next off => rw [abortRun_agent, run, Option.bind_some, if_neg off]

theorem abortDisabledRun_headPort (s : State) : (abortDisabledRun s).headPort = s.headPort := by
  unfold abortDisabledRun
  split
  · rfl
  split
  · rfl
  · unfold abortRun
    split
    · rfl
    · exact (endRun_rest ..).1

/-! ### The apply as a whole -/

theorem carryOutApply_head (s : State) (h : HeadNo) : tableGet (carryOutApply s).headPort.heads h =
    rebank (headEnabled s h) (isYes (tableGet s.agent.staged.heads h).enabled) (tableGet s.headPort.heads h) := by
  rw [carryOutApply_eq, abortDisabledRun_headPort, (reported_downstream s _).headPort, rebanked_head]

/-- R131: the agent's bank is the staged one, its generation the next, and a run goes on while its head is enabled. -/
theorem carryOutApply_agent (s : State) : (carryOutApply s).agent =
    { s.agent with
      active := some s.agent.staged, generation := s.agent.generation + 1, stagedModified := false, applyPending := false,
      run := s.agent.run.bind fun x =>
        if isYes (tableGet s.agent.staged.heads x.head).enabled = true then some x else none } := by
  have before : (reported s (rebanked s)).agent = (copyBank s).agent :=
    (reported_downstream s _).agent.trans (rebanked_rest s).1
  have bank (h : HeadNo) : headEnabled (reported s (rebanked s)) h = isYes (tableGet s.agent.staged.heads h).enabled := by
    rw [headEnabled_of_active (t := reported s (rebanked s)) (s := copyBank s) (by rw [before])]
    rfl
  rw [carryOutApply_eq, abortDisabledRun_agent]
  simp only [bank, before]
  rfl

theorem carryOutApply_headLaw (law : HeadLaw s) : HeadLaw (carryOutApply s) := fun h => by
  have bank : headEnabled (carryOutApply s) h = isYes (tableGet s.agent.staged.heads h).enabled := by
    rw [headEnabled, carryOutApply_agent]
  rw [carryOutApply_head, bank]
  exact rebank_lawful (law h) _

end Sys2Proof.Machine
end

section
/-! The law of the intake records command by command (R131, R139, R140). -/

namespace Sys2Proof.Machine

/-! ### A tube's start (R64, R132) and POSITION frames (R43 to R45, R57 to R59) -/

theorem pendingApply_headLaw {s : State} (law : HeadLaw s) : HeadLaw (pendingApply s) := by
  obtain ⟨-, -, h⟩ | ⟨-, -, h⟩ | ⟨-, -, x, -, h⟩ := pendingApply_cases s <;> rw [h]
  · exact law
  · exact carryOutApply_headLaw law
  · exact ((KeepsHeads.of_eq (t := s.setAgent { s.agent with applyPending := false })).trans
      (raise_keepsHeads _ _ _)).headLaw law

theorem startTube_headLaw (time : Time) (travel : Nat) {s : State} (law : HeadLaw s) : HeadLaw (startTube time travel s) := by
  have applied := pendingApply_headLaw law
  simp only [startTube]
  split
  · exact applied
  · exact (KeepsHeads.of_downstream ((truncate_downstream _ _).trans (takeTube_downstream _ _ time travel _))).headLaw applied

theorem advancePresence_headLaw (f : Sample) {s : State} (law : HeadLaw s) : HeadLaw (advancePresence f s) := by
  simp only [advancePresence]
  split
  · simp only [changePresence]
    split
    · exact law
    · split
      · exact startTube_headLaw _ _ law
      · exact law
    · exact (endTube_keepsHeads _ _ _ _).headLaw law
  · exact law

theorem takePosition_headLaw (f : PositionFrame) {s : State} (law : HeadLaw s) : HeadLaw (takePosition f s) := by
  have counted (g : PoseTracker → PoseTracker) : KeepsHeads s (modPose g s) := .of_eq
  unfold takePosition
  split
  · exact ((counted _).trans (raise_keepsHeads _ _ _)).headLaw law
  split
  · exact ((counted _).trans (raise_keepsHeads _ _ _)).headLaw law
  · have joined : HeadLaw (acceptSample (sampleOf f) s) := (counted _).headLaw law
    have tail (u : State) : KeepsHeads u (closeRingsByLead (sampleOf f) (resolveCovered (sampleOf f) u)) :=
      (resolvePending_keepsHeads _ interpolateNewest_downstream u).trans (.of_downstream (closeRingsByLead_downstream _ _))
    exact ((tail _).trans ((examineBoth_keepsHeads _).trans (.of_downstream (examineDrain_downstream (K := []) _)))).headLaw
      (advancePresence_headLaw _ joined)

/-! ### Requests (R155) -/

theorem applyWork_headLaw (r : Request) {s : State} (law : HeadLaw s) : HeadLaw (applyWork r s).state := by
  unfold applyWork
  split
  · exact law
  split
  · exact law
  split
  · exact law
  · exact (examineBoth_keepsHeads _).headLaw (carryOutApply_headLaw law)

/-- A request's work that keeps the law keeps it with its RESPONSE. -/
theorem takeOldest_headLaw (want : Request → Bool) {work : Request → State → Answer}
    (works : ∀ r {s}, HeadLaw s → HeadLaw (work r s).state) {s : State} (law : HeadLaw s) :
    HeadLaw (takeOldest want work s) := by
  obtain h | ⟨r, rest, -, -, -, h⟩ := takeOldest_cases want work s <;> rw [h]
  · exact law
  · exact (respond_keepsHeads _ _ _).headLaw (works r (s := s.setMill { s.mill with requestQ := rest }) law)

/-! ### Command by command -/

section
variable {s t : State}

theorem keepsHeads_of_next {u : State} (w : KeepsHeads s u)
    (h : Host.Outcome.next u = (.next t : Host.Outcome State Fault Refusal)) : KeepsHeads s t := by
  cases h; exact w

/-- One of two outcomes. -/
theorem keepsHeads_of_ite {c : Prop} [Decidable c] {u v : State} (yes : KeepsHeads s u) (no : KeepsHeads s v)
    (h : (if c then .next u else .next v) = (.next t : Host.Outcome State Fault Refusal)) : KeepsHeads s t := by
  split at h
  · exact keepsHeads_of_next yes h
  · exact keepsHeads_of_next no h

theorem execTraceFrame_keepsHeads {x : Trace} (h : execTraceFrame x s = .next t) : KeepsHeads s t := by
  have counted : KeepsHeads s (countHeadFrame s) := .of_eq
  unfold execTraceFrame at h
  split at h
  · exact keepsHeads_of_ite (counted.trans ((modHead_keepsHeads _ _ _).trans (checkSequence_keepsHeads x _)))
      (counted.trans (rejectHeadFrame_keepsHeads _ _)) h
  · exact keepsHeads_of_next (.refl s) h

theorem execRequestFrame_keepsHeads {r : Request} (h : execRequestFrame r s = .next t) : KeepsHeads s t := by
  have counted : KeepsHeads s (countMillFrame s) := .of_eq
  unfold execRequestFrame at h
  split at h
  · exact keepsHeads_of_ite (counted.trans (queueRequest_keepsHeads r _)) (counted.trans (rejectMillFrame_keepsHeads _ _)) h
  · exact keepsHeads_of_next (.refl s) h

theorem execTimeMarkSent_keepsHeads (h : execTimeMarkSent s = .next t) : KeepsHeads s t := by
  unfold execTimeMarkSent at h
  split at h
  · exact keepsHeads_of_next (.refl s) h
  · exact keepsHeads_of_next .of_eq h

theorem execTransmissionCompletion_keepsHeads (h : execTransmissionCompletion s = .next t) : KeepsHeads s t := by
  unfold execTransmissionCompletion at h
  split at h
  · exact keepsHeads_of_next (.refl s) h
  · exact keepsHeads_of_next .of_eq h

theorem execEvaluationStart_keepsHeads (h : execEvaluationStart s = .next t) : KeepsHeads s t := by
  unfold execEvaluationStart at h
  split at h
  · exact keepsHeads_of_next ((startEvaluation_keepsHeads _ _ s).trans (examineBoth_keepsHeads _)) h
  · exact keepsHeads_of_next (.refl s) h

theorem execEvaluationCompletion_keepsHeads (h : execEvaluationCompletion s = .next t) : KeepsHeads s t := by
  unfold execEvaluationCompletion at h
  split at h
  · exact keepsHeads_of_next (.refl s) h
  · exact keepsHeads_of_next ((completeEvaluation_keepsHeads _ s).trans (examineBoth_keepsHeads _)) h

theorem execMapFrameQueued_keepsHeads (h : execMapFrameQueued s = .next t) : KeepsHeads s t := by
  unfold execMapFrameQueued at h
  split at h
  · exact keepsHeads_of_next (.refl s) h
  split at h
  · exact keepsHeads_of_next (.refl s) h
  split at h
  · split at h
    next room =>
      exact keepsHeads_of_next (.of_downstream
        ((queueMapFrame_downstream (K := []) _ _ _ _ room).trans (markWaiting_downstream _))) h
    next => exact keepsHeads_of_next (.refl s) h
  · exact keepsHeads_of_next (.refl s) h

theorem execMapEndQueued_keepsHeads (h : execMapEndQueued s = .next t) : KeepsHeads s t := by
  unfold execMapEndQueued at h
  split at h
  · exact keepsHeads_of_next (.refl s) h
  split at h
  · exact keepsHeads_of_next (.refl s) h
  split at h
  · exact keepsHeads_of_next (.refl s) h
  split at h
  next room =>
    exact keepsHeads_of_next (.of_downstream
      ((queueMapEnd_downstream (K := []) _ _ room).trans (examineDrain_downstream _))) h
  next => exact keepsHeads_of_next (.refl s) h

theorem exec_headLaw {i : Instr} (h : exec i s = .next t) (law : HeadLaw s) : HeadLaw t := by
  have asked {want : Request → Bool} {work : Request → State → Answer} (works : ∀ r {u}, HeadLaw u → HeadLaw (work r u).state)
      (h : Host.Outcome.next (takeOldest want work s) = (.next t : Host.Outcome State Fault Refusal)) : HeadLaw t := by
    cases h; exact takeOldest_headLaw want works law
  have headCounted : KeepsHeads s (countHeadFrame s) := .of_eq
  have millCounted : KeepsHeads s (countMillFrame s) := .of_eq
  have linkUp : KeepsHeads s (s.setMill { s.mill with link := .up }) := .of_eq
  cases i with
  | powerOnReset => cases h; exact reset_headLaw
  | positionFrame f =>
    change execPositionFrame f s = .next t at h
    unfold execPositionFrame at h
    split at h <;> cases h
    · exact takePosition_headLaw f (headCounted.headLaw law)
    · exact law
  | headLinkUp => exact (keepsHeads_of_ite (.refl s) .of_eq h).headLaw law
  | headLinkDown cut => exact (keepsHeads_of_ite (.refl s) .of_eq h).headLaw law
  | traceFrame x => exact (execTraceFrame_keepsHeads h).headLaw law
  | temperatureFrame f => exact (keepsHeads_of_ite .of_eq (.refl s) h).headLaw law
  | headFrameRejected r =>
    exact (keepsHeads_of_ite (headCounted.trans (rejectHeadFrame_keepsHeads r _)) (.refl s) h).headLaw law
  | timeMark => exact (keepsHeads_of_ite .of_eq (.refl s) h).headLaw law
  | timeMarkSent => exact (execTimeMarkSent_keepsHeads h).headLaw law
  | headSilenceExpiry x =>
    exact (keepsHeads_of_ite ((expireHead_keepsHeads x s).trans (examineBoth_keepsHeads _)) (.refl s) h).headLaw law
  | tempRecordExpiry ch => exact (keepsHeads_of_next .of_eq h).headLaw law
  | evaluationStart => exact (execEvaluationStart_keepsHeads h).headLaw law
  | evaluationCompletion => exact (execEvaluationCompletion_keepsHeads h).headLaw law
  | positionSilenceExpiry =>
    exact (keepsHeads_of_ite ((expirePosition_keepsHeads s).trans (examineBoth_keepsHeads _)) (.refl s) h).headLaw law
  | settleLimitExpiry c =>
    exact (keepsHeads_of_ite ((expireSettle_keepsHeads c s).trans (examineBoth_keepsHeads _)) (.refl s) h).headLaw law
  | settleCompletion => exact (keepsHeads_of_next (examineBoth_keepsHeads s) h).headLaw law
  | calibrationTimeout => exact (keepsHeads_of_next (expireRun_keepsHeads s) h).headLaw law
  | drainBegin => exact (keepsHeads_of_next (.of_downstream (examineDrain_downstream (K := []) s)) h).headLaw law
  | mapFrameQueued => exact (execMapFrameQueued_keepsHeads h).headLaw law
  | mapEndQueued => exact (execMapEndQueued_keepsHeads h).headLaw law
  | millLinkUp => exact (keepsHeads_of_ite (.refl s) (linkUp.trans (startTransmission_keepsHeads _)) h).headLaw law
  | millLinkDown cut => exact (keepsHeads_of_ite (.refl s) .of_eq h).headLaw law
  | requestFrame r => exact (execRequestFrame_keepsHeads h).headLaw law
  | millFrameRejected r =>
    exact (keepsHeads_of_ite (millCounted.trans (rejectMillFrame_keepsHeads r _)) (.refl s) h).headLaw law
  | transmissionStart => exact (keepsHeads_of_next (startTransmission_keepsHeads s) h).headLaw law
  | transmissionCompletion => exact (execTransmissionCompletion_keepsHeads h).headLaw law
  | responseHeldRelease => exact (keepsHeads_of_next (releaseHeld_keepsHeads s) h).headLaw law
  | read => exact asked (work := readWork) (fun r u => (readWork_keepsHeads r u).headLaw) h
  | write => exact asked (work := writeWork) (fun r u => (writeWork_keepsHeads r u).headLaw) h
  | exchange => exact asked (work := exchangeWork) (fun r u => (exchangeWork_keepsHeads r u).headLaw) h
  | clear => exact asked (work := clearWork) (fun r u => (clearWork_keepsHeads r u).headLaw) h
  | apply => exact asked (work := applyWork) applyWork_headLaw h
  | mode => exact asked (work := modeWork) (fun r u => (modeWork_keepsHeads r u).headLaw) h
  | calibrate => exact asked (work := calibrateWork) (fun r u => (calibrateWork_keepsHeads r u).headLaw) h
  | abortCal => exact asked (work := abortWork) (fun _ u => (abortRun_keepsHeads u).headLaw) h
  | restart => exact asked (work := restartWork) (fun _ u _ => restart_headLaw u) h
  | status => exact asked (work := statusWork) (fun _ _ => id) h
  | undefinedOperation => exact asked (work := undefinedWork) (fun _ _ => id) h

end

/-- Settles O9: most commands keep each record lawful under the bank as it stands; an apply takes each head into its bank,
RESTART makes the records anew, and a step with none waiting moves part time alone. -/
theorem headRecordsStayLawful : Obligations.HeadRecordsStayLawful := by
  intro s t law h
  unfold step at h
  split at h
  · cases h; exact law
  · exact exec_headLaw h law

end Sys2Proof.Machine
end

section
/-! APPLY (R130, R131, R172): its four ways, and the HEAD_CHANGE occurrences of one that is carried out. -/

namespace Sys2Proof.Machine

/-! ### HEAD_CHANGE (R172) -/

section
variable {s x : State} {h : HeadNo}

theorem offerNotice_snapshots (n : Notice) (s : State) : (offerNotice n s).events.snapshots = s.events.snapshots := by
  obtain ⟨-, h⟩ | ⟨-, h⟩ := offerNotice_cases n s <;> rw [h]
  · rfl
  · rw [countOccurrence_snapshots, countDropped_events]

/-- R172: no occurrence moves a snapshot. -/
theorem raise_snapshots (k : EventKind) (d : Detail) (s : State) : (raise k d s).events.snapshots = s.events.snapshots := by
  obtain h | ⟨-, -, -, h⟩ := raise_cases k d s <;> rw [h]
  · exact countOccurrence_snapshots k d s
  · rw [offerNotice_snapshots, countOccurrence_snapshots]

/-- R172: in `x` the head's state is another than in `s` and differs from its snapshot. -/
def changeReported (s x : State) (h : HeadNo) : Bool :=
  decide (headStateOf x h ≠ headStateOf s h ∧ headStateOf x h ≠ snapshotOf x h)

theorem reportRebank_changed (changed : changeReported s x h = true) :
    reportRebank s h x = raise .headChange (.headStates h (snapshotOf x h) (headStateOf x h)) x := by
  obtain ⟨other, differs⟩ := of_decide_eq_true changed
  exact (if_neg other.symm).trans (if_neg differs)

theorem reportRebank_same (same : changeReported s x h = false) : reportRebank s h x = x := by
  unfold reportRebank compareSnapshot
  split
  · rfl
  split
  · rfl
  next other differs => exact absurd ⟨Ne.symm other, differs⟩ (of_decide_eq_false same)

theorem changeReported_congr {y : State} (headPort : y.headPort = x.headPort)
    (snapshots : y.events.snapshots = x.events.snapshots) : changeReported s y = changeReported s x := by
  funext h
  refine decide_eq_decide.mpr ?_
  simp only [headStateOf, snapshotOf, headPort, snapshots]

/-- R172: HEAD_CHANGE occurs once for each head of the list that is to be reported. -/
theorem occurrences_foldl_reportRebank (l : List HeadNo) :
    occurrences (l.foldl (fun y h => reportRebank s h y) x) .headChange =
      if (l.filter (changeReported s x)).length = 0 then occurrences x .headChange
      else min 65535 (occurrences x .headChange + (l.filter (changeReported s x)).length) := by
  induction l generalizing x with
  | nil => rfl
  | cons h rest ih =>
    rw [List.foldl_cons, ih]
    cases changed : changeReported s x h with
    | false => rw [reportRebank_same changed, List.filter_cons_of_neg (by simp [changed])]
    | true =>
      rw [reportRebank_changed changed, changeReported_congr (raise_headPort _ _ _) (raise_snapshots _ _ _),
        List.filter_cons_of_pos changed, occurrences_raise (by decide), if_pos rfl, List.length_cons,
        if_neg (Nat.succ_ne_zero _)]
      split <;> omega

/-- R121: a run's end raises CAL_DONE, SUMMARY_LOST and NOTICE_LOST at most. -/
theorem occurrences_abortDisabledRun (s : State) {k : EventKind} (done : k ≠ .calDone) (summary : k ≠ .summaryLost)
    (notice : k ≠ .noticeLost) : occurrences (abortDisabledRun s) k = occurrences s k := by
  unfold abortDisabledRun
  split
  · rfl
  split
  · rfl
  · unfold abortRun
    split
    · rfl
    · change occurrences (raise .calDone _ (offerSummary _ s)) k = _
      rw [occurrences_raise notice, if_neg done, occurrences_offerSummary _ _ summary notice]

/-- R172: the HEAD_CHANGE occurrences of an apply, by the states that it leaves the heads in. -/
theorem carryOutApply_headChanges (s : State) :
    let n := (allHeads.filter (fun h =>
      decide (headStateOf (carryOutApply s) h ≠ headStateOf s h ∧ headStateOf (carryOutApply s) h ≠ snapshotOf s h))).length
    occurrences (carryOutApply s) .headChange =
      if n = 0 then occurrences s .headChange else min 65535 (occurrences s .headChange + n) := by
  have events := (rebanked_rest s).2
  have headPort : (rebanked s).headPort = (carryOutApply s).headPort := by
    rw [carryOutApply_eq, abortDisabledRun_headPort, (reported_downstream s _).headPort]
  have changed : changeReported s (rebanked s) = fun h =>
      decide (headStateOf (carryOutApply s) h ≠ headStateOf s h ∧ headStateOf (carryOutApply s) h ≠ snapshotOf s h) := by
    funext h
    refine decide_eq_decide.mpr ?_
    simp only [headStateOf, snapshotOf, headPort, events]
  have before : occurrences (rebanked s) .headChange = occurrences s .headChange := by simp only [occurrences, events]
  have counted : occurrences (carryOutApply s) .headChange = occurrences (reported s (rebanked s)) .headChange :=
    occurrences_abortDisabledRun _ (by decide) (by decide) (by decide)
  rw [counted, reported, occurrences_foldl_reportRebank, changed, before]

end

/-! ### The four ways of an APPLY (R130) -/

/-- R75: with no context live, an apply that is carried out leaves no settle condition to examine. -/
theorem examineBoth_carryOutApply {s : State} (idle : tubeLive s = false) :
    examineBoth (carryOutApply s) = carryOutApply s := by
  refine examineBoth_of_quiet (idle_of_not_live ?_).2
  rw [← Bool.not_eq_true] at idle ⊢
  exact fun live => idle ((carryOutApply_abides s).live live)

section
variable {r : Request} {rest : List Request} {s : State} (ready : Ready r rest s)
  (named : operationOf r.operation = some .apply)
include ready named

theorem exec_apply {x : Answer} (work : applyWork r (dequeued rest s) = x) :
    exec .apply s = .next (answer r x.status x.data x.state) := by
  subst work
  exact congrArg _ (takeOldest_ready ready named applyWork)

theorem exec_apply_pending (live : tubeLive s = true) :
    exec .apply s =
      .next (answer r .pending .none ((dequeued rest s).setAgent { s.agent with applyPending := true })) :=
  exec_apply ready named (if_pos live)

theorem exec_apply_invalid (idle : tubeLive s = false) {f : Failure} (invalid : validate s.agent.staged = some f) :
    exec .apply s = .next (answer r f.code (.argument f.argument)
      ((dequeued rest s).setAgent { s.agent with applyPending := false })) := by
  refine exec_apply ready named (x := ⟨_, _, _⟩) ((if_neg (Bool.not_eq_true _ ▸ idle)).trans ?_)
  rw [show (dequeued rest s).agent.staged = s.agent.staged from rfl, invalid]
  rfl

theorem exec_apply_last (idle : tubeLive s = false) (valid : validate s.agent.staged = none)
    (last : s.agent.generation = 4294967295) : exec .apply s = .next (answer r .busy .none (dequeued rest s)) := by
  refine exec_apply ready named (x := refuse .busy (dequeued rest s)) ((if_neg (Bool.not_eq_true _ ▸ idle)).trans ?_)
  rw [show (dequeued rest s).agent.staged = s.agent.staged from rfl, valid]
  exact if_pos last

theorem exec_apply_carriedOut (idle : tubeLive s = false) (valid : validate s.agent.staged = none)
    (below : s.agent.generation < 4294967295) :
    exec .apply s =
      .next (answer r .ok (.generation (s.agent.generation + 1)) (carryOutApply (dequeued rest s))) := by
  rw [← examineBoth_carryOutApply (s := dequeued rest s) idle]
  refine exec_apply ready named (x := ⟨_, _, _⟩) ((if_neg (Bool.not_eq_true _ ▸ idle)).trans ?_)
  rw [show (dequeued rest s).agent.staged = s.agent.staged from rfl, valid]
  exact if_neg (Nat.ne_of_lt below)

end

/-- R131 step 4: the three ways of a head's record. -/
theorem rebank_cases (was now : Bool) (r : HeadRecord) :
    (now = false → rebank was now r = { r with state := .disabled }) ∧
    (now = true → was = true → rebank was now r = r) ∧
    (now = true → was = false → rebank was now r =
      { r with state := .unseen, expected := none, lastTimestamp := none, lastArrival := none }) := by
  refine ⟨?_, ?_, ?_⟩
  · rintro rfl; rfl
  · rintro rfl rfl; rfl
  · rintro rfl rfl; rfl

/-- Settles O52: each way by its equation; a carried-out apply by the agent, the records and the occurrences that it leaves. -/
theorem applyOutcomes : Obligations.ApplyOutcomes := by
  intro r rest s s0 ready named
  refine ⟨exec_apply_pending ready named, fun f idle invalid => exec_apply_invalid ready named idle invalid,
    exec_apply_last ready named, fun idle valid below room => ?_⟩
  have responseQ : (carryOutApply s0).mill.responseQ = s.mill.responseQ := (carryOutApply_work s0).responseQ
  let response : Response := { tag := r.tag, status := .ok, data := .generation (s.agent.generation + 1) }
  have answered : answer r .ok (.generation (s.agent.generation + 1)) (carryOutApply s0) =
      (carryOutApply s0).setMill
        { (carryOutApply s0).mill with responseQ := (carryOutApply s0).mill.responseQ ++ [response] } :=
    if_pos (by rw [responseQ]; exact room)
  refine ⟨_, (exec_apply_carriedOut ready named idle valid below).trans (congrArg _ answered), ?_⟩
  have agent := carryOutApply_agent s0
  refine ⟨congrArg Agent.active agent, (congrArg Agent.staged agent :), congrArg Agent.generation agent,
    congrArg Agent.stagedModified agent, congrArg Agent.applyPending agent, (congrArg Agent.mode agent :),
    (congrArg Agent.timing agent :), (congrArg Agent.calib agent :), congrArg (· ++ [response]) responseQ,
    carryOutApply_headChanges s0, congrArg Agent.run agent, fun h => ?_⟩
  obtain ⟨off, kept, joined⟩ := rebank_cases (headEnabled s0 h) (isYes (tableGet s0.agent.staged.heads h).enabled)
    (tableGet s0.headPort.heads h)
  rw [← carryOutApply_head s0 h] at off kept joined
  exact ⟨off, kept, joined⟩

end Sys2Proof.Machine
end

section
/-! WRITE and EXCHANGE of the staged tables, of CALIB and of OUTPUT (R127, R134, R135, R161). -/

namespace Sys2Proof.Machine

/-! ### The checks that a write passes (R158) -/

theorem checkRequest_ok {op : TableOp} {r : Request} {s : State} {e : EntryName} {p : Place}
    (ok : checkRequest op r s = .ok (e, p)) :
    ∃ t, opFailure op t r.selector = none ∧ entryAt t r.index.toNat = some e ∧ placeOf s t r.selector = .ok p := by
  unfold checkRequest at ok
  split at ok
  · cases ok
  next t _ =>
    split at ok
    · cases ok
    split at ok
    · cases ok
    next passed =>
      split at ok
      · cases ok
      next entry =>
        split at ok
        · cases ok
        next place =>
          split at ok
          · cases ok
            exact ⟨t, passed, entry, place⟩
          · cases ok

/-- R159: the entries of the recipe tables. -/
def EntryName.isRecipe : EntryName → Bool
  | .head _ | .gate _ | .velocity _ | .velocityCount | .mapSetup => true
  | .timing | .output _ | .calib _ | .headStatus _ | .tempChannel _ | .pose | .context | .directory _ | .mapPage _
  | .event _ | .fault | .portCounters => false

theorem entryAt_isRecipe {t : TableName} {i : Nat} {e : EntryName} (entry : entryAt t i = some e) :
    e.isRecipe = t.isRecipe := by
  unfold entryAt at entry
  cases t <;> simp only [Option.map_eq_some_iff, Option.ite_none_right_eq_some, Option.dite_none_right_eq_some,
    Option.some.injEq] at entry
  case velocity =>
    split at entry
    · cases entry; rfl
    · split at entry <;> cases entry; rfl
  case head | output | calib | headStatus | event => obtain ⟨_, -, rfl⟩ := entry; rfl
  case gate | tempChannel => obtain ⟨_, rfl⟩ := entry; rfl
  case mapSetup | timing | pose | context | directory | mapPage | fault | portCounters => obtain ⟨-, rfl⟩ := entry; rfl

/-- R127, R159: only the staged bank is written. -/
theorem opFailure_active {op : TableOp} (writes : op = .write ∨ op = .exchange) {t : TableName} {selector : Byte}
    (recipe : t.isRecipe = true) (passed : opFailure op t selector = none) : bankNameOf selector ≠ some .active := by
  intro active
  obtain rfl | rfl := writes <;> cases t <;> simp [TableName.isRecipe, opFailure, active] at recipe passed

/-- R127, R158: a write of a recipe table that passes its checks names the staged bank. -/
theorem checkRequest_staged {op : TableOp} (writes : op = .write ∨ op = .exchange) {r : Request} {s : State} {e : EntryName}
    {p : Place} (recipe : e.isRecipe = true) (ok : checkRequest op r s = .ok (e, p)) : p = .bank .staged s.agent.staged := by
  obtain ⟨t, passed, entry, place⟩ := checkRequest_ok ok
  rw [entryAt_isRecipe entry] at recipe
  have other := opFailure_active writes recipe passed
  unfold placeOf at place
  rw [if_pos recipe] at place
  split at place
  case h_1 active => exact absurd active other
  all_goals cases place; rfl

/-! ### The work of a write (R161) -/

section
variable {r : Request} {rest : List Request} {s : State} (ready : Ready r rest s)
include ready

theorem exec_write_error (named : operationOf r.operation = some .write) {st : Status}
    (error : checkRequest .write r (dequeued rest s) = .error st) :
    exec .write s = .next (answer r st .none (dequeued rest s)) := by
  have work : writeWork r (dequeued rest s) = refuse st (dequeued rest s) := by rw [writeWork, error]
  exact congrArg _ ((takeOldest_ready ready named writeWork).trans (by rw [work]; rfl))

theorem exec_exchange_error (named : operationOf r.operation = some .exchange) {st : Status}
    (error : checkRequest .exchange r (dequeued rest s) = .error st) :
    exec .exchange s = .next (answer r st .none (dequeued rest s)) := by
  have work : exchangeWork r (dequeued rest s) = refuse st (dequeued rest s) := by rw [exchangeWork, error]
  exact congrArg _ ((takeOldest_ready ready named exchangeWork).trans (by rw [work]; rfl))

/-- R161: what an entry's store does, by the entry as it is read before and after. -/
theorem stores_of {e : EntryName} {old stored : RespData} {clamped : Bool} {t : State}
    (store : storeEntry e r.data (dequeued rest s) = (t, clamped))
    (data : ∀ op p, op = .write ∨ op = .exchange → checkRequest op r (dequeued rest s) = .ok (e, p) →
      entryData (dequeued rest s) e p = old ∧ (clamped = true → entryData t e p = stored)) :
    Stores r rest s e old stored clamped t := by
  refine ⟨fun p named ok => ?_, fun p named ok => ?_⟩
  · obtain ⟨-, after⟩ := data .write p (.inl rfl) ok
    rw [exec_write_ok ready named ok store]
    cases clamped with
    | false => rfl
    | true => rw [after rfl]; rfl
  · obtain ⟨before, -⟩ := data .exchange p (.inr rfl) ok
    rw [exec_exchange_ok ready named ok store, before]
    rfl

/-- R127: a write of a staged table stores the entry as written. -/
theorem stores_staged {e : EntryName} (recipe : e.isRecipe = true) {old : RespData} {b : Bank}
    (store : storeEntry e r.data (dequeued rest s) =
      ((dequeued rest s).setAgent { s.agent with staged := b, stagedModified := true }, false))
    (data : entryData (dequeued rest s) e (.bank .staged s.agent.staged) = old) :
    Stores r rest s e old .none false ((dequeued rest s).setAgent { s.agent with staged := b, stagedModified := true }) :=
  stores_of ready store fun _ p writes ok => by
    obtain rfl : p = .bank .staged s.agent.staged := checkRequest_staged writes recipe ok
    exact ⟨data, fun no => nomatch no⟩

end

/-! ### OUTPUT (R134) -/

/-- R134: a byte is clamped into 2..255 from below alone. -/
theorem clamp_byte (n : Byte) : clamp 2 255 n.toNat = max 2 n.toNat := by
  have := n.isLt
  unfold clamp
  omega

theorem max_byte_changes (n : Byte) : (max 2 n.toNat != n.toNat) = decide (n.toNat < 2) := by
  rw [Bool.eq_iff_iff, bne_iff_ne, decide_eq_true_iff]
  omega

theorem storedOutput_eq (d : List Byte) :
    storedOutput d =
      ({ reading := (readingPolicyOf (byteAt d 0)).getD .off, readingN := max 2 (byteAt d 1).toNat,
         mirror := (mirrorPolicyOf (byteAt d 2)).getD .off, mirrorN := max 2 (byteAt d 3).toNat },
       (readingPolicyOf (byteAt d 0)).isNone || (mirrorPolicyOf (byteAt d 2)).isNone ||
         decide ((byteAt d 1).toNat < 2) || decide ((byteAt d 3).toNat < 2)) := by
  simp only [storedOutput, clamp_byte, max_byte_changes]

/-- R134: the OUTPUT entry as it is read after its store. -/
theorem entryData_storeOutput (h : HeadNo) (o : OutputEntry) (s : State) (p : Place) :
    entryData (storeOutput h o s) (.output h) p = .output o { reading := 0, mirror := 0 } := by
  have policy : outputOf (storeOutput h o s) h = o := tableGet_tableSet_same ..
  have counters : decimationOf (storeOutput h o s) h = { reading := 0, mirror := 0 } := decimationOf_modDecimation_same ..
  have data : entryData (storeOutput h o s) (.output h) p =
      .output (outputOf (storeOutput h o s) h) (decimationOf (storeOutput h o s) h) := by cases p <;> rfl
  rw [data, policy, counters]

/-- R135: the CALIB entry as it is read after its store. -/
theorem entryData_storeFactor (h : HeadNo) (k : Nat) (s : State) (p : Place) :
    entryData (storeFactor h k s) (.calib h) p = .calib k := by
  have factor : tableGet (storeFactor h k s).agent.calib h = k := tableGet_tableSet_same ..
  have data : entryData (storeFactor h k s) (.calib h) p = .calib (tableGet (storeFactor h k s).agent.calib h) := by
    cases p <;> rfl
  rw [data, factor]

/-- Settles O49: the staged tables by the bank that a write names, CALIB and OUTPUT by the entry as it is read before and
after. -/
theorem writeAndExchangeStoreTheEntry : Obligations.WriteAndExchangeStoreTheEntry := by
  intro r rest s s0 b staged ready
  refine ⟨fun _ named => exec_write_error ready named, fun _ named => exec_exchange_error ready named,
    fun h => stores_staged ready (e := .head h) rfl rfl rfl, fun i => stores_staged ready (e := .gate i) rfl rfl rfl,
    fun i => stores_staged ready (e := .velocity i) rfl rfl rfl, stores_staged ready (e := .velocityCount) rfl rfl rfl,
    stores_staged ready (e := .mapSetup) rfl rfl rfl, fun h => ?_, fun h => ?_⟩
  · refine stores_of ready rfl fun _ p _ _ => ⟨by cases p <;> rfl, fun _ => entryData_storeFactor h _ s0 p⟩
  · have store : storeEntry (.output h) r.data s0 = (storeOutput h (storedOutput r.data).1 s0, (storedOutput r.data).2) := rfl
    rw [storedOutput_eq] at store
    exact stores_of ready store fun _ p _ _ => ⟨by cases p <;> rfl, fun _ => entryData_storeOutput h _ s0 p⟩

end Sys2Proof.Machine
end

section
/-! Validation (R125, R126, R128, R129): the chain of an enabled head as a path from its start to END, and each table's checks
as a search for the first that fails. -/

namespace Sys2Proof.Machine

/-! ### The chain (R128 check 2) -/

section
variable (gates : Vector GateEntry 64)

/-- From `x` the path leads to END: each descriptor is the one named before it, and the last names END. -/
def LeadsToEnd : Nat → List (Fin 64) → Prop
  | x, [] => x = 255
  | x, i :: path => i.val = x ∧ LeadsToEnd (tableGet gates i).next.toNat path

variable {gates}

theorem leadsToEnd_cons {x : Nat} {i : Fin 64} {path : List (Fin 64)} :
    LeadsToEnd gates x (i :: path) ↔ i.val = x ∧ LeadsToEnd gates (tableGet gates i).next.toNat path := Iff.rfl

/-- The links of a path, taken apart at its first. -/
theorem links_cons_cons {next : Fin 64 → Nat} {i j : Fin 64} {path : List (Fin 64)} :
    (∀ (k : Nat) (a b : Fin 64), (i :: j :: path)[k]? = some a → (i :: j :: path)[k + 1]? = some b → next a = b.val) ↔
      next i = j.val ∧
        ∀ (k : Nat) (a b : Fin 64), (j :: path)[k]? = some a → (j :: path)[k + 1]? = some b → next a = b.val := by
  refine ⟨fun h => ⟨h 0 i j rfl rfl, fun k a b => h (k + 1) a b⟩, fun ⟨first, rest⟩ k a b ha hb => ?_⟩
  cases k with
  | zero => cases ha; cases hb; exact first
  | succ k => exact rest k a b ha hb

/-- R128 check 2 in the words of the rule. -/
theorem leadsToEnd_iff {x : Nat} {path : List (Fin 64)} : path ≠ [] ∧ LeadsToEnd gates x path ↔
    path.head?.map Fin.val = some x ∧
    (∀ (k : Nat) (i j : Fin 64), path[k]? = some i → path[k + 1]? = some j → (tableGet gates i).next.toNat = j.val) ∧
    path.getLast?.map (fun i => (tableGet gates i).next.toNat) = some 255 := by
  induction path generalizing x with
  | nil => simp
  | cons i rest ih =>
    cases rest with
    | nil => simp [LeadsToEnd]
    | cons j rest =>
      have ih := @ih (tableGet gates i).next.toNat
      simp only [ne_eq, List.cons_ne_nil, not_false_eq_true, true_and] at ih ⊢
      rw [leadsToEnd_cons, ih, links_cons_cons, List.getLast?_cons_cons]
      simp only [List.head?_cons, Option.map_some, Option.some.injEq]
      exact ⟨fun ⟨start, link, rest⟩ => ⟨start, ⟨link.symm, rest.1⟩, rest.2⟩,
        fun ⟨start, ⟨link, links⟩, last⟩ => ⟨start, link.symm, links, last⟩⟩

/-- R128 check 2: the walk answers the descriptors of the one path to END that it may take. -/
theorem walkToEnd_eq_some {seen : List Nat} {n x : Nat} {visited : List GateEntry} :
    walkToEnd gates seen n x = some visited ↔ ∃ path : List (Fin 64), (path ≠ [] ∧ LeadsToEnd gates x path) ∧
      path.length ≤ n ∧ path.Nodup ∧ (∀ i ∈ path, i.val ∉ seen) ∧ path.map (tableGet gates) = visited := by
  induction n generalizing seen x visited with
  | zero =>
    refine ⟨fun h => (nomatch h), fun ⟨path, ⟨nonempty, _⟩, short, _⟩ => ?_⟩
    exact absurd (List.length_eq_zero_iff.mp (Nat.le_zero.mp short)) nonempty
  | succ n ih =>
    constructor
    · intro h
      unfold walkToEnd at h
      split at h
      case isFalse => cases h
      case isTrue below =>
        let i : Fin 64 := ⟨x, below⟩
        split at h
        · cases h
        next unseen =>
          have unseen : i.val ∉ seen := by simpa using unseen
          dsimp only at h
          split at h
          next last =>
            cases h
            exact ⟨[i], ⟨by simp, rfl, last⟩, by simp, by simp, by simpa using unseen, rfl⟩
          next =>
            obtain ⟨rest, walked, rfl⟩ := Option.map_eq_some_iff.mp h
            obtain ⟨path, ⟨_, leads⟩, short, once, fresh, rfl⟩ := ih.mp walked
            refine ⟨i :: path, ⟨by simp, rfl, leads⟩, Nat.succ_le_succ short, ?_, ?_, rfl⟩
            · exact List.nodup_cons.mpr ⟨fun mem => fresh i mem List.mem_cons_self, once⟩
            · exact List.forall_mem_cons.mpr ⟨unseen, fun j mem => fun old => fresh j mem (List.mem_cons_of_mem _ old)⟩
    · rintro ⟨path, ⟨nonempty, leads⟩, short, once, fresh, rfl⟩
      cases path with
      | nil => exact absurd rfl nonempty
      | cons i rest =>
        obtain ⟨rfl, leads⟩ := leads
        obtain ⟨unseen, fresh⟩ := List.forall_mem_cons.mp fresh
        obtain ⟨new, once⟩ := List.nodup_cons.mp once
        have start : walkToEnd gates seen (n + 1) i.val = if (tableGet gates i).next.toNat = 255 then some [tableGet gates i]
            else (walkToEnd gates (i.val :: seen) n (tableGet gates i).next.toNat).map (fun l => tableGet gates i :: l) :=
          (dif_pos i.isLt).trans (if_neg (by simpa using unseen))
        rw [start]
        cases rest with
        | nil => exact if_pos leads
        | cons j rest =>
          have goesOn : (tableGet gates i).next.toNat ≠ 255 := by
            have link := leads.1
            have := j.isLt
            omega
          rw [if_neg goesOn, ih.mpr ⟨j :: rest, ⟨by simp, leads⟩, Nat.le_of_succ_le_succ short, once, ?_, rfl⟩]
          · rfl
          · intro k mem old
            obtain same | old := List.mem_cons.mp old
            · exact new (Fin.ext same ▸ mem)
            · exact fresh k mem old

end

/-! ### The enabled descriptors (R128 checks 3 to 6) -/

theorem headInRange_iff (e : HeadEntry) : headInRange e = true ↔
    e.enabled.toNat ≤ 1 ∧ e.chainStart.toNat ≤ 63 ∧ e.pairMode.toNat ≤ 1 ∧ 1 ≤ e.minSep.toNat ∧ e.minSep.toNat ≤ 2047 ∧
    e.weakPct.toNat ≤ 100 ∧ (e.channel.toNat ≤ 3 ∨ e.channel.toNat = 255) ∧ e.angleOffset.toNat ≤ 4095 ∧
    -20000 ≤ e.axialOffset.toInt ∧ e.axialOffset.toInt ≤ 20000 := by
  simp only [headInRange, Bool.and_eq_true, Bool.or_eq_true, decide_eq_true_eq, beq_iff_eq, and_assoc]

theorem gateInRange_iff (g : GateEntry) : gateInRange g = true ↔
    g.kind.toNat ≤ 3 ∧ g.placement.toNat ≤ 1 ∧ (g.placement.toNat = 0 → 0 ≤ g.offset.toInt ∧ g.offset.toInt ≤ 4095) ∧
    (g.placement.toNat = 1 → g.anchor.toNat ≤ 2 ∧ -2048 ≤ g.offset.toInt ∧ g.offset.toInt ≤ 4095) ∧
    4 ≤ g.width.toNat ∧ g.width.toNat ≤ 2048 ∧ 1 ≤ g.threshold.toNat ∧ g.threshold.toNat ≤ 2047 := by
  by_cases fixed : g.placement.toNat = 0
  · simp [gateInRange, fixed, and_assoc]
  · have follow : g.placement.toNat ≤ 1 ↔ g.placement.toNat = 1 := by omega
    simp only [gateInRange, fixed, if_false, follow, Bool.and_eq_true, decide_eq_true_eq, and_assoc, false_implies, true_and]
    exact and_congr_right fun _ => and_congr_right fun one => by simp [one, and_assoc]

theorem echoOrderOk_iff (enabled : List GateEntry) : echoOrderOk enabled = true ↔
    (enabled.map (fun g => g.kind.toNat)).filter (fun k => decide (k < 3)) = [0, 1] ∨
    (enabled.map (fun g => g.kind.toNat)).filter (fun k => decide (k < 3)) = [0, 1, 2] := by
  simp only [echoOrderOk, Bool.or_eq_true, beq_iff_eq, Nat.lt_succ_iff]

/-- R128 check 5: an anchor's kind comes before, among `earlier` or in the list itself. -/
theorem anchorsOk_iff (earlier : List Nat) (l : List GateEntry) : anchorsOk earlier l = true ↔
    ∀ (k : Nat) (g : GateEntry), l[k]? = some g → g.placement.toNat = 1 →
      g.anchor.toNat ∈ earlier ∨ ∃ (m : Nat) (a : GateEntry), m < k ∧ l[m]? = some a ∧ a.kind = g.anchor := by
  induction l generalizing earlier with
  | nil => simp [anchorsOk]
  | cons g rest ih =>
    have first : ((g.placement.toNat != 1 || earlier.contains g.anchor.toNat) = true) ↔
        (g.placement.toNat = 1 → g.anchor.toNat ∈ earlier) := by
      simp [Decidable.imp_iff_not_or]
    rw [anchorsOk, Bool.and_eq_true, first, ih]
    constructor
    · rintro ⟨here, later⟩ k x hx follows
      cases k with
      | zero => cases hx; exact .inl (here follows)
      | succ k =>
        obtain mem | ⟨m, a, below, ha, kind⟩ := later k x hx follows
        · obtain same | mem := List.mem_cons.mp mem
          · exact .inr ⟨0, g, Nat.succ_pos k, rfl, BitVec.eq_of_toNat_eq same.symm⟩
          · exact .inl mem
        · exact .inr ⟨m + 1, a, Nat.succ_lt_succ below, ha, kind⟩
    · intro h
      refine ⟨fun follows => ?_, fun k x hx follows => ?_⟩
      · obtain mem | ⟨m, _, below, _⟩ := h 0 g rfl follows
        · exact mem
        · exact absurd below (Nat.not_lt_zero m)
      · obtain mem | ⟨m, a, below, ha, kind⟩ := h (k + 1) x hx follows
        · exact .inl (List.mem_cons_of_mem _ mem)
        · cases m with
          | zero => cases ha; exact .inl (kind ▸ List.mem_cons_self)
          | succ m => exact .inr ⟨m, a, Nat.lt_of_succ_lt_succ below, ha, kind⟩

theorem pairModeOk_iff (e : HeadEntry) (enabled : List GateEntry) : pairModeOk e enabled = true ↔
    (e.pairMode.toNat = 1 → ∃ g ∈ enabled, g.kind.toNat = 2) := by
  simp [pairModeOk, Decidable.imp_iff_not_or]

/-- R128 checks 1 to 6, with the walk as a path. -/
theorem chainOk_iff (b : Bank) (e : HeadEntry) : chainOk b e = true ↔ headInRange e = true ∧ ∃ path : List (Fin 64),
    (path ≠ [] ∧ LeadsToEnd b.gates e.chainStart.toNat path) ∧ path.length ≤ 8 ∧ path.Nodup ∧
    (let enabled := (path.map (tableGet b.gates)).filter (fun g => isYes g.enabled)
     enabled.all gateInRange = true ∧ echoOrderOk enabled = true ∧ anchorsOk [] enabled = true ∧
      pairModeOk e enabled = true) := by
  unfold chainOk
  rw [Bool.and_eq_true]
  refine and_congr_right fun _ => ?_
  split
  next none =>
    refine ⟨fun h => (nomatch h), fun ⟨path, leads, short, once, _⟩ => ?_⟩
    rw [walkToEnd_eq_some.mpr ⟨path, leads, short, once, by simp, rfl⟩] at none
    cases none
  next visited walked =>
    simp only [Bool.and_eq_true, and_assoc]
    constructor
    · intro passed
      obtain ⟨path, leads, short, once, -, rfl⟩ := walkToEnd_eq_some.mp walked
      exact ⟨path, leads.1, leads.2, short, once, passed⟩
    · rintro ⟨path, nonempty, leads, short, once, passed⟩
      rw [walkToEnd_eq_some.mpr ⟨path, ⟨nonempty, leads⟩, short, once, by simp, rfl⟩] at walked
      cases walked
      exact passed

theorem chainOk_iff_chainPasses (b : Bank) (e : HeadEntry) : chainOk b e = true ↔ ChainPasses b e := by
  rw [chainOk_iff, ChainPasses, headInRange_iff]
  refine and_congr_right fun _ => exists_congr fun path => ?_
  dsimp only
  rw [leadsToEnd_iff, echoOrderOk_iff, anchorsOk_iff, pairModeOk_iff, List.all_eq_true]
  simp only [gateInRange_iff, List.not_mem_nil, false_or]
  exact ⟨fun ⟨⟨start, links, last⟩, short, once, checks⟩ => ⟨start, short, once, links, last, checks⟩,
    fun ⟨start, short, once, links, last, checks⟩ => ⟨⟨start, links, last⟩, short, once, checks⟩⟩

/-! ### The first that fails -/

/-- In an ascending list the search finds the one that passes with none below it. -/
theorem find?_eq_some_of_least {α : Type} [LinearOrder α] {l : List α} (ascends : l.Pairwise (· < ·)) {p : α → Bool} {a : α}
    (mem : a ∈ l) (passes : p a = true) (least : ∀ b, b < a → b ∈ l → p b = false) : l.find? p = some a := by
  induction l with
  | nil => cases mem
  | cons x rest ih =>
    obtain ⟨above, ascends⟩ := List.pairwise_cons.mp ascends
    obtain rfl | mem := List.mem_cons.mp mem
    · exact List.find?_cons_of_pos passes
    · rw [List.find?_cons_of_neg (by rw [least x (above a mem) List.mem_cons_self]; decide)]
      exact ih ascends mem fun b below hb => least b below (List.mem_cons_of_mem x hb)

/-! ### HEAD and GATE (R128) -/

section
variable {b : Bank}

theorem mem_enabledHeads {h : HeadNo} : h ∈ enabledHeads b ↔ isYes (tableGet b.heads h).enabled = true := by
  rw [enabledHeads, List.mem_filter]
  exact and_iff_right (mem_allHeads h)

theorem headFailure_eq_none : headFailure b = none ↔ (∃ h, isYes (tableGet b.heads h).enabled = true) ∧
    ∀ h, isYes (tableGet b.heads h).enabled = true → chainOk b (tableGet b.heads h) = true := by
  have nonempty : (∃ h, isYes (tableGet b.heads h).enabled = true) ↔ enabledHeads b ≠ [] := by
    simp only [ne_eq, List.eq_nil_iff_forall_not_mem, mem_enabledHeads, not_forall, not_not]
  rw [headFailure, nonempty]
  split
  next none => simp [none]
  next some => simp [some, mem_enabledHeads]

theorem headFailure_noHead (none : ∀ h, ¬isYes (tableGet b.heads h).enabled = true) :
    headFailure b = some { code := .noHead, argument := 255 } :=
  if_pos (List.eq_nil_iff_forall_not_mem.mpr fun h => mt mem_enabledHeads.mp (none h))

theorem headFailure_chain {h : HeadNo} (on : isYes (tableGet b.heads h).enabled = true)
    (fails : chainOk b (tableGet b.heads h) = false)
    (least : ∀ g, g < h → isYes (tableGet b.heads g).enabled = true → chainOk b (tableGet b.heads g) = true) :
    headFailure b = some { code := .chainInvalid, argument := h.val } := by
  have ascends : (enabledHeads b).Pairwise (· < ·) := List.Pairwise.filter _ (by decide)
  have mem := mem_enabledHeads.mpr on
  rw [headFailure, if_neg (List.ne_nil_of_mem mem), find?_eq_some_of_least ascends mem (by simp [fails])
    fun g below hg => by simp [least g below (mem_enabledHeads.mp hg)]]
  rfl

/-! ### VELOCITY (R126, R129) -/

/-- R129: the entry before entry `i`, which the first has not. -/
def entryBefore (l : List VelocityEntry) (i : Nat) : Option VelocityEntry := if i = 0 then none else l[i - 1]?

/-- R129: an entry passes its checks behind the entry before it. -/
def velocityFits (prev : Option VelocityEntry) (e : VelocityEntry) : Bool :=
  e.temperature.toNat ≤ 1600 && (3000 ≤ e.velocity.toNat && e.velocity.toNat ≤ 7000) &&
    (match prev with | none => true | some p => p.temperature.toNat < e.temperature.toNat)

/-- R129: entry `i` of a table passes its checks. -/
def velocityEntryOk (l : List VelocityEntry) (i : Nat) : Bool := l[i]?.all (velocityFits (entryBefore l i))

theorem velocityEntryOk_iff {l : List VelocityEntry} {i : Nat} : velocityEntryOk l i = true ↔ ∀ e, l[i]? = some e →
    e.temperature.toNat ≤ 1600 ∧ 3000 ≤ e.velocity.toNat ∧ e.velocity.toNat ≤ 7000 ∧
    ∀ d, 0 < i → l[i - 1]? = some d → d.temperature.toNat < e.temperature.toNat := by
  rw [velocityEntryOk, Option.all_eq_true]
  refine forall_congr' fun e => imp_congr_right fun _ => ?_
  cases i with
  | zero => simp [entryBefore, velocityFits]
  | succ i => cases h : l[i]? <;> simp [entryBefore, velocityFits, h, and_assoc]

theorem velocityFault_cons (i : Nat) (prev : Option VelocityEntry) (e : VelocityEntry) (rest : List VelocityEntry) :
    velocityFault i prev (e :: rest) =
      if velocityFits prev e = true then velocityFault (i + 1) (some e) rest else some i := rfl

/-- R129: the search through the table from entry `i` on. -/
theorem velocityFault_eq_find? {l : List VelocityEntry} {n i : Nat} (within : i + n ≤ l.length) :
    velocityFault i (entryBefore l i) ((l.drop i).take n) = (List.range' i n).find? (fun j => !velocityEntryOk l j) := by
  induction n generalizing i with
  | zero => simp [velocityFault]
  | succ n ih =>
    have below : i < l.length := by omega
    have before : entryBefore l (i + 1) = some l[i] := List.getElem?_eq_getElem below
    have judged : velocityEntryOk l i = velocityFits (entryBefore l i) l[i] := by
      rw [velocityEntryOk, List.getElem?_eq_getElem below, Option.all_some]
    rw [List.drop_eq_getElem_cons below, List.take_succ_cons, List.range'_succ, List.find?_cons, velocityFault_cons, ← judged,
      ← before, ih (by omega)]
    cases velocityEntryOk l i <;> rfl

theorem velocityFailure_eq (enough : 2 ≤ b.velocityCount.toNat) (fits : b.velocityCount.toNat ≤ 16) : velocityFailure b =
    ((List.range' 0 b.velocityCount.toNat).find? (fun j => !velocityEntryOk b.velocity.toList j)).map
      (fun i => { code := .velocityInvalid, argument := i }) := by
  rw [← velocityFault_eq_find? (by simpa using fits)]
  exact if_neg (by omega)

theorem velocityFailure_count (wrong : b.velocityCount.toNat < 2 ∨ 16 < b.velocityCount.toNat) :
    velocityFailure b = some { code := .velocityInvalid, argument := 16 } := if_pos wrong

theorem velocityFailure_eq_none : velocityFailure b = none ↔ 2 ≤ b.velocityCount.toNat ∧ b.velocityCount.toNat ≤ 16 ∧
    ∀ i, i < b.velocityCount.toNat → velocityEntryOk b.velocity.toList i = true := by
  by_cases wrong : b.velocityCount.toNat < 2 ∨ 16 < b.velocityCount.toNat
  · rw [velocityFailure_count wrong]
    exact ⟨fun h => (nomatch h), fun ⟨enough, fits, _⟩ => absurd wrong (by omega)⟩
  · have enough : 2 ≤ b.velocityCount.toNat := by omega
    have fits : b.velocityCount.toNat ≤ 16 := by omega
    simp [velocityFailure_eq enough fits, enough, fits]

theorem velocityFailure_entry {i : Nat} (enough : 2 ≤ b.velocityCount.toNat) (fits : b.velocityCount.toNat ≤ 16)
    (below : i < b.velocityCount.toNat) (fails : velocityEntryOk b.velocity.toList i = false)
    (least : ∀ j, j < i → velocityEntryOk b.velocity.toList j = true) :
    velocityFailure b = some { code := .velocityInvalid, argument := i } := by
  have mem : i ∈ List.range' 0 b.velocityCount.toNat := List.mem_range'_1.mpr ⟨Nat.zero_le i, by omega⟩
  rw [velocityFailure_eq enough fits, find?_eq_some_of_least List.pairwise_lt_range' mem (by simp [fails])
    fun j lower _ => by simp [least j lower]]
  rfl

/-! ### MAP_SETUP (R126, R129) -/

theorem mapChecks_eq (m : MapSetup) : mapChecks m = (List.range' 1 11).map (fun k => (k, mapFieldOk m k)) := by
  simp [mapChecks, mapFieldOk, List.range'_succ]

theorem mapFailure_eq (b : Bank) : mapFailure b = ((List.range' 1 11).find? (fun k => !mapFieldOk b.map k)).map
    (fun k => { code := .mapInvalid, argument := k }) := by
  rw [mapFailure, mapChecks_eq, List.find?_map, Option.map_map]
  rfl

/-- R126: MAP_SETUP has eleven fields. -/
theorem mapField_of_fails {m : MapSetup} {k : Nat} (fails : mapFieldOk m k = false) : k ∈ List.range' 1 11 := by
  rw [List.mem_range'_1]
  by_contra beyond
  unfold mapFieldOk at fails
  split at fails
  case h_12 => cases fails
  all_goals omega

theorem mapFailure_eq_none : mapFailure b = none ↔ ∀ k, mapFieldOk b.map k = true := by
  rw [mapFailure_eq, Option.map_eq_none_iff, List.find?_eq_none]
  simp only [Bool.not_eq_true', Bool.not_eq_false]
  refine ⟨fun h k => ?_, fun h k _ => h k⟩
  by_contra fails
  rw [Bool.not_eq_true] at fails
  exact Bool.false_ne_true (fails.symm.trans (h k (mapField_of_fails fails)))

theorem mapFailure_field {k : Nat} (fails : mapFieldOk b.map k = false) (least : ∀ j, j < k → mapFieldOk b.map j = true) :
    mapFailure b = some { code := .mapInvalid, argument := k } := by
  rw [mapFailure_eq, find?_eq_some_of_least List.pairwise_lt_range' (mapField_of_fails fails) (by simp [fails])
    fun j lower _ => by simp [least j lower]]
  rfl

/-! ### The order of the tables (R128, R129) -/

theorem validate_eq_none : validate b = none ↔ headFailure b = none ∧ velocityFailure b = none ∧ mapFailure b = none := by
  simp only [validate, Option.or_eq_none_iff]

theorem validate_head {f : Failure} (head : headFailure b = some f) : validate b = some f := by
  rw [validate, head]
  rfl

theorem validate_velocity {f : Failure} (head : headFailure b = none) (velocity : velocityFailure b = some f) :
    validate b = some f := by
  rw [validate, head, velocity]
  rfl

theorem validate_map (head : headFailure b = none) (velocity : velocityFailure b = none) : validate b = mapFailure b := by
  rw [validate, head, velocity]
  rfl

end

/-- Settles O53: a chain by its path, each table by the search for its first failure, the tables in their order. -/
theorem validationReportsTheFirstFailure : Obligations.ValidationReportsTheFirstFailure := by
  intro b on heads count entryOk velocity
  have entry (i : Nat) : velocityEntryOk b.velocity.toList i = true ↔ entryOk i := velocityEntryOk_iff
  have headsPass (pass : heads) : headFailure b = none := headFailure_eq_none.mpr pass
  have velocityPasses : velocityFailure b = none ↔ velocity := by simp only [velocityFailure_eq_none, entry]; rfl
  refine ⟨chainOk_iff_chainPasses b, ?_, fun none => validate_head (headFailure_noHead none),
    fun h enabled fails least => validate_head (headFailure_chain enabled fails least),
    fun pass wrong => validate_velocity (headsPass pass) (velocityFailure_count wrong), ?_, ?_⟩
  · rw [validate_eq_none, headFailure_eq_none, velocityPasses, mapFailure_eq_none]
  · intro i pass enough fits below fails least
    exact validate_velocity (headsPass pass) (velocityFailure_entry enough fits below
      (Bool.eq_false_iff.mpr (mt (entry i).mp fails)) fun j lower => (entry j).mpr (least j lower))
  · intro k pass velocityPass fails least
    rw [validate_map (headsPass pass) (velocityPasses.mpr velocityPass), mapFailure_field fails least]

end Sys2Proof.Machine
end

section
/-! What nearly every operation leaves alone: part time (R144), the model's queue of commands (log 2), and the snapshots of the
heads' states (R172). -/

namespace Sys2Proof.Machine

-- One declaration at a time: with more threads the text would pass the check's memory limit.
set_option Elab.async false

variable {K : List EventKind}

/-! ### The relation -/

/-- From `s` to `t` part time, the queue of commands and the snapshots stand. -/
structure Steady (s t : State) : Prop where
  partTime : t.headPort.partTime = s.headPort.partTime
  pending : t.pending = s.pending
  snapshots : t.events.snapshots = s.events.snapshots

namespace Steady

variable {s t u : State}

theorem trans (a : Steady s t) (b : Steady t u) : Steady s u where
  partTime := b.partTime.trans a.partTime
  pending := b.pending.trans a.pending
  snapshots := b.snapshots.trans a.snapshots

/-- A change of other fields. -/
theorem of_eq (partTime : t.headPort.partTime = s.headPort.partTime := by rfl) (pending : t.pending = s.pending := by rfl)
    (snapshots : t.events.snapshots = s.events.snapshots := by rfl) : Steady s t :=
  ⟨partTime, pending, snapshots⟩

theorem refl (s : State) : Steady s s := of_eq

theorem foldl {α : Type} {f : State → α → State} (step : ∀ s x, Steady s (f s x)) (l : List α) (s : State) :
    Steady s (l.foldl f s) := by
  induction l generalizing s with
  | nil => exact refl s
  | cons x rest ih => exact (step s x).trans (ih _)

end Steady

/-! ### Occurrences and offers -/

theorem raise_steady (k : EventKind) (d : Detail) (s : State) : Steady s (raise k d s) :=
  .of_eq (by rw [raise_headPort]) (raise_pending k d s) (raise_snapshots k d s)

theorem offerSummary_steady (f : SummaryFrame) (s : State) : Steady s (offerSummary f s) := by
  obtain ⟨-, h⟩ | ⟨-, h⟩ := offerSummary_cases f s <;> rw [h]
  · exact .of_eq
  · exact (Steady.of_eq (t := countDropped summaryClass s)).trans (raise_steady _ _ _)

theorem decideReading_steady (r : Reading) (s : State) : Steady s (decideReading r s) :=
  .of_eq (by rw [decideReading_headPort]) (decideReading_pending r s) (by rw [decideReading_events])

theorem decideMirror_steady (m : MirrorFrame) (s : State) : Steady s (decideMirror m s) :=
  .of_eq (by rw [decideMirror_headPort]) (decideMirror_pending m s) (by rw [decideMirror_events])

theorem compareSnapshot_steady (h : HeadNo) (s : State) : Steady s (compareSnapshot h s) := by
  unfold compareSnapshot
  split
  · exact .refl s
  · exact raise_steady _ _ s

/-! ### Readings placed and counted (R70 to R73, R87 to R92) -/

theorem modTube_steady (c : Ctx) (f : Tube → Tube) (s : State) : Steady s (modTube c f s) := by
  unfold modTube
  split <;> exact .of_eq

theorem updateCell_steady (c : Ctx) (page bin sector : Nat) (r : Reading) (s : State) :
    Steady s (updateCell c page bin sector r s) := by
  unfold updateCell
  split <;> exact .of_eq

theorem reclaimPage_steady (c : Ctx) (segment : Nat) (lost : Nat × DirEntry) (s : State) :
    Steady s (reclaimPage c segment lost s) := by
  have moved (f g : Tube → Tube) (x : State → WallMap) :
      Steady s (modTube c g ((modTube (otherCtx c) f s).setWall (x (modTube (otherCtx c) f s)))) :=
    (modTube_steady _ f s).trans ((Steady.of_eq (t := State.setWall _ _)).trans (modTube_steady c g _))
  simp only [reclaimPage]
  split
  · exact (moved _ _ fun u => { u.wall with pool := clearPage u.wall.pool lost.2.page }).trans (raise_steady _ _ _)
  · exact moved _ _ fun u => { u.wall with pool := clearPage u.wall.pool lost.2.page }

theorem placeValid_steady (c : Ctx) (t : Tube) (bin sector : Nat) (r : Reading) (s : State) :
    Steady s (placeValid c t bin sector r s).2 := by
  have allocated (segment page : Nat) (rest : List Nat) : Steady s (allocatePage c segment page rest s) :=
    (Steady.of_eq (t := State.setWall _ _)).trans (modTube_steady c _ _)
  simp only [placeValid]
  split
  · exact .refl s
  split
  · exact updateCell_steady c _ bin sector r s
  split
  · exact (allocated _ _ _).trans (updateCell_steady c _ bin sector r _)
  split
  · exact (reclaimPage_steady c _ _ s).trans (updateCell_steady c _ bin sector r _)
  · exact raise_steady _ _ s

theorem countAndOffer_steady (c : Ctx) (r : Reading) (p : Placement) (s : State) : Steady s (countAndOffer c r p s) :=
  (modTube_steady c _ s).trans (decideReading_steady _ _)

theorem assignLive_steady (c : Ctx) (t : Tube) (r : Reading) (p : Pose) (s : State) : Steady s (assignLive c t r p s) := by
  simp only [assignLive]
  split
  · exact countAndOffer_steady c _ _ s
  split
  · exact countAndOffer_steady c _ _ s
  split
  · exact countAndOffer_steady c _ _ s
  · exact (placeValid_steady c t _ _ _ s).trans (countAndOffer_steady c _ _ _)

theorem assignPosed_steady (r : Reading) (p : Pose) (s : State) : Steady s (assignPosed r p s) := by
  unfold assignPosed
  split
  · exact decideReading_steady _ s
  · exact (raise_steady _ _ s).trans (decideReading_steady _ _)
  · split
    · exact .refl s
    · exact assignLive_steady _ _ r p s

theorem assignUnposed_steady (r : Reading) (p : Placement) (s : State) : Steady s (assignUnposed r p s) := by
  unfold assignUnposed
  split
  · split
    · exact .refl s
    · exact countAndOffer_steady _ _ p s
  all_goals exact decideReading_steady _ s

theorem extrapolate_steady (r : Reading) (s : State) : Steady s (extrapolate r s) := by
  unfold extrapolate
  split
  · exact assignUnposed_steady r _ s
  · split
    · exact assignPosed_steady _ _ s
    · exact assignUnposed_steady r _ s

theorem interpolateNewest_steady (r : Reading) (s : State) : Steady s (interpolateNewest r s) := by
  unfold interpolateNewest
  split
  · exact assignUnposed_steady r _ s
  · exact assignPosed_steady r _ s

theorem resolvePending_steady (due : Reading → Bool) {how : Reading → State → State} (each : ∀ r s, Steady s (how r s))
    (s : State) : Steady s (resolvePending due how s) :=
  (Steady.of_eq (t := modPose _ s)).trans (.foldl (fun s r => each r s) _ _)

theorem joinPending_steady (r : Reading) (s : State) : Steady s (joinPending r s) := by
  unfold joinPending
  split
  · split
    · exact (Steady.of_eq (t := modPose _ s)).trans ((extrapolate_steady _ _).trans .of_eq)
    · exact .of_eq
  · exact .of_eq

theorem resolveReading_steady (r : Reading) (s : State) : Steady s (resolveReading r s) := by
  unfold resolveReading
  split
  · split
    · exact assignUnposed_steady r _ s
    split
    · split
      · exact assignPosed_steady r _ s
      · exact assignUnposed_steady r _ s
    split
    · exact joinPending_steady r s
    · exact extrapolate_steady r s
  · exact assignUnposed_steady r _ s

/-! ### The Drain Engine (R78, R95 to R99) -/

theorem takeContext_steady (s : State) : Steady s (takeContext s) := by
  unfold takeContext
  split
  · exact (modTube_steady _ _ s).trans .of_eq
  · exact .refl s

theorem drainOne_steady (s : State) : Steady s (drainOne s) := by
  unfold drainOne
  split
  · exact .refl s
  split
  · split
    · exact .refl s
    split <;> exact .of_eq
  · exact .of_eq

theorem drainOn_steady (n : Nat) (s : State) : Steady s (drainOn n s) := by
  induction n generalizing s with
  | zero => exact .refl s
  | succ n ih =>
    unfold drainOn
    split
    · exact (drainOne_steady s).trans ((takeContext_steady _).trans (ih _))
    · exact .refl s

theorem runDrain_steady (s : State) : Steady s (runDrain s) := drainOn_steady _ s

theorem examineDrain_steady (s : State) : Steady s (examineDrain s) := (takeContext_steady s).trans (runDrain_steady _)

/-! ### Rings, settling, tube end and truncation (R65, R67, R77, R101 to R105) -/

theorem closeRing_steady (c : Ctx) (bin : Nat) (closeTime : Time) (s : State) : Steady s (closeRing c bin closeTime s) := by
  unfold closeRing
  split
  · exact .refl s
  · exact (offerSummary_steady _ s).trans (modTube_steady c _ _)

theorem closeByLead_steady (c : Ctx) (x : Int) (closeTime : Time) (n : Nat) (s : State) :
    Steady s (closeByLead c x closeTime n s) := by
  induction n generalizing s with
  | zero => exact .refl s
  | succ n ih =>
    unfold closeByLead
    split
    · exact .refl s
    split
    · exact (closeRing_steady c _ closeTime s).trans (ih _)
    · exact .refl s

theorem closeRingsByLead_steady (f : Sample) (s : State) : Steady s (closeRingsByLead f s) := by
  unfold closeRingsByLead
  split
  · exact .refl s
  split
  · exact .refl s
  split
  · exact .refl s
  · exact closeByLead_steady _ _ _ _ s

theorem closeUpTo_steady (c : Ctx) (closeTime : Time) (n : Nat) (s : State) : Steady s (closeUpTo c closeTime n s) := by
  induction n generalizing s with
  | zero => exact .refl s
  | succ n ih =>
    unfold closeUpTo
    split
    · exact .refl s
    split
    · exact (closeRing_steady c _ closeTime s).trans (ih _)
    · exact .refl s

theorem closeRemaining_steady (c : Ctx) (s : State) : Steady s (closeRemaining c s) := by
  unfold closeRemaining
  split
  · exact .refl s
  split
  · exact closeUpTo_steady c _ _ s
  · exact .refl s

theorem offerTube_steady (c : Ctx) (s : State) : Steady s (offerTube c s) := by
  unfold offerTube
  split
  · exact .refl s
  split
  · exact .refl s
  · exact offerSummary_steady _ s

theorem completeSettling_steady (c : Ctx) (s : State) : Steady s (completeSettling c s) :=
  (closeRemaining_steady c s).trans ((offerTube_steady c _).trans
    ((modTube_steady c _ _).trans (examineDrain_steady _)))

theorem examineSettle_steady (c : Ctx) (s : State) : Steady s (examineSettle c s) := by
  unfold examineSettle
  split
  · exact .refl s
  split
  · split
    · exact completeSettling_steady c s
    · exact .refl s
  · exact .refl s

theorem examineBoth_steady (s : State) : Steady s (examineBoth s) := .foldl (fun s c => examineSettle_steady c s) _ s

theorem endTube_steady (time : Time) (travel : Nat) (reason : CloseReason) (s : State) :
    Steady s (endTube time travel reason s) := by
  unfold endTube
  split
  · exact .refl s
  · exact modTube_steady _ _ s

theorem truncate_steady (c : Ctx) (s : State) : Steady s (truncate c s) := by
  have summarised : Steady s (truncateSummary c s) := by
    unfold truncateSummary
    split
    · exact (modTube_steady c _ s).trans (offerTube_steady c _)
    · exact .refl s
  have stopped (u : State) : Steady u (stopDrain c u) := by
    unfold stopDrain
    split
    · exact .refl u
    split <;> exact .of_eq
  unfold truncate
  split
  · exact .refl s
  · exact summarised.trans ((stopped _).trans ((Steady.of_eq (t := putTube c none _)).trans (raise_steady _ _ _)))

/-! ### The calibration run (R114 to R121) and applies (R131, R132) -/

theorem endRun_steady (r : CalRun) (o : CalOutcome) (k : Option Nat) (s : State) : Steady s (endRun r o k s) := by
  obtain ⟨calib, written⟩ := writeFactor_eq r o k s
  unfold endRun
  rw [written]
  exact (Steady.of_eq (t := s.setAgent { s.agent with calib := calib })).trans
    ((offerSummary_steady _ _).trans ((raise_steady _ _ _).trans .of_eq))

theorem abortRun_steady (s : State) : Steady s (abortRun s) := by
  unfold abortRun
  split
  · exact .refl s
  · exact endRun_steady _ _ _ s

theorem expireRun_steady (s : State) : Steady s (expireRun s) := by
  unfold expireRun
  split
  · exact .refl s
  split
  · exact endRun_steady _ _ _ s
  · exact .refl s

theorem runTakes_steady (r : Reading) (s : State) : Steady s (runTakes r s) := by
  simp only [runTakes]
  split
  · exact .refl s
  next x _ =>
    have took : Steady s (s.setAgent { s.agent with run := some (x.take r) }) := .of_eq
    split
    · exact took.trans ((endRun_steady _ _ _ _).trans (decideReading_steady _ _))
    · exact took.trans (decideReading_steady _ _)

theorem carryOutApply_steady (s : State) : Steady s (carryOutApply s) := by
  have banked : Steady s (rebanked s) :=
    (Steady.of_eq (t := copyBank s)).trans (.foldl (fun _ _ => .of_eq) _ _)
  have compared (h : HeadNo) (u : State) : Steady u (reportRebank s h u) := by
    unfold reportRebank
    split
    · exact .refl u
    · exact compareSnapshot_steady h u
  have aborted (u : State) : Steady u (abortDisabledRun u) := by
    unfold abortDisabledRun
    split
    · exact .refl u
    split
    · exact .refl u
    · exact abortRun_steady u
  exact banked.trans ((Steady.foldl (fun u h => compared h u) allHeads _).trans (aborted _))

theorem startTube_steady (time : Time) (travel : Nat) (s : State) : Steady s (startTube time travel s) := by
  have applied : Steady s (pendingApply s) := by
    obtain ⟨-, -, h⟩ | ⟨-, -, h⟩ | ⟨-, -, x, -, h⟩ := pendingApply_cases s <;> rw [h]
    · exact .refl s
    · exact carryOutApply_steady s
    · exact (Steady.of_eq (t := State.setAgent _ _)).trans (raise_steady _ _ _)
  simp only [startTube]
  split
  · exact applied
  · exact applied.trans ((truncate_steady _ _).trans .of_eq)

end Sys2Proof.Machine
end

section
/-! Part time, the queue of commands and the snapshots, command by command (R144, R172; log 2, log 28). -/

namespace Sys2Proof.Machine

-- One declaration at a time: with more threads the text would pass the check's memory limit.
set_option Elab.async false

/-! ### POSITION frames (R43 to R45, R57 to R59) -/

theorem advancePresence_steady (f : Sample) (s : State) : Steady s (advancePresence f s) := by
  have moved (g : PoseTracker → PoseTracker) (u : State) : Steady u (modPose g u) := .of_eq
  have changed (u : State) : Steady u (changePresence u) := by
    simp only [changePresence]
    split
    · exact moved _ u
    · split
      · exact (moved _ u).trans (startTube_steady _ _ _)
      · exact moved _ u
    · exact (moved _ u).trans (endTube_steady _ _ _ _)
  simp only [advancePresence]
  split
  · exact (moved _ s).trans (changed _)
  · exact moved _ s

theorem takePosition_steady (f : PositionFrame) (s : State) : Steady s (takePosition f s) := by
  have counted (g : PoseTracker → PoseTracker) : Steady s (modPose g s) := .of_eq
  unfold takePosition
  split
  · exact (counted _).trans (raise_steady _ _ _)
  split
  · exact (counted _).trans (raise_steady _ _ _)
  · have joined : Steady s (acceptSample (sampleOf f) s) := counted _
    exact joined.trans ((advancePresence_steady _ _).trans ((resolvePending_steady _ interpolateNewest_steady _).trans
      ((closeRingsByLead_steady _ _).trans ((examineBoth_steady _).trans (examineDrain_steady _)))))

/-! ### TRACE frames and rejected frames (R138, R142, R143, R154) -/

theorem rejectHeadFrame_steady (r : HeadReject) (s : State) : Steady s (rejectHeadFrame r s) := by
  have counted (f : HeadCounters → HeadCounters) : Steady s (modHeadCounters f s) := .of_eq
  cases r with
  | traceFields h => exact (Steady.of_eq (t := countTrace h _)).trans (raise_steady _ _ _)
  | frameCheck | kind | source | length => exact (counted _).trans (raise_steady _ _ _)

theorem rejectMillFrame_steady (r : MillReject) (s : State) : Steady s (rejectMillFrame r s) := by
  have counted (f : MillCounters → MillCounters) : Steady s (modMillCounters f s) := .of_eq
  cases r <;> exact (counted _).trans (raise_steady _ _ _)

theorem checkSequence_steady (t : Trace) (s : State) : Steady s (checkSequence t s) := by
  have changed (f : HeadRecord → HeadRecord) (u : State) : Steady u (modHead t.head f u) := .of_eq
  have admitted (u : State) : Steady u (admitTrace t u) := by
    unfold admitTrace
    split
    · split
      · exact .of_eq
      · exact (changed _ u).trans (raise_steady _ _ _)
    · exact changed _ u
  have counted (g : Nat) : Steady s (countGap t.head g s) := by
    unfold countGap
    split
    · exact .refl s
    · exact (changed _ s).trans (raise_steady _ _ _)
  have accepted (g : Nat) : Steady s (acceptTrace t g s) := by
    simp only [acceptTrace]
    split
    · exact (counted g).trans ((changed _ _).trans ((admitted _).trans (examineBoth_steady _)))
    · exact (counted g).trans ((changed _ _).trans ((compareSnapshot_steady _ _).trans
        ((admitted _).trans (examineBoth_steady _))))
  have judged (g : Nat) : Steady s (if g < 32768 then acceptTrace t g s
      else raise .duplicate (.headSequence t.head t.sequence)
        (modHead t.head (fun r => { r with duplicates := satInc cap32 r.duplicates }) s)) := by
    split
    · exact accepted g
    · exact (changed _ s).trans (raise_steady _ _ _)
  simp only [checkSequence]
  split
  · exact changed _ s
  · exact accepted 0
  all_goals exact judged _

/-! ### Expiries (R46, R76, R119, R141) -/

theorem loseHead_steady (h : HeadNo) (s : State) : Steady s (loseHead h s) := by
  unfold loseHead
  split
  · exact .refl s
  split
  · exact .refl s
  · exact (modTube_steady _ _ s).trans (raise_steady _ _ _)

theorem allHeadsLost_steady (s : State) : Steady s (allHeadsLost s) := by
  unfold allHeadsLost
  split
  · exact .refl s
  split
  · exact .refl s
  split
  · exact raise_steady _ _ s
  · exact .refl s

theorem expireHead_steady (h : HeadNo) (s : State) : Steady s (expireHead h s) := by
  unfold expireHead
  split
  · exact (Steady.of_eq (t := modHead h _ s)).trans ((loseHead_steady h _).trans
      ((allHeadsLost_steady _).trans (compareSnapshot_steady h _)))
  · exact .refl s

theorem expirePosition_steady (s : State) : Steady s (expirePosition s) := by
  have lost (u : State) : Steady u (losePosition u) := by
    unfold losePosition
    split
    · split
      · exact .refl u
      · exact (endTube_steady _ _ _ u).trans (raise_steady _ _ _)
    · exact .refl u
  simp only [expirePosition]
  split
  · exact (Steady.of_eq (t := modPose _ s)).trans ((resolvePending_steady _ extrapolate_steady _).trans
      ((lost _).trans .of_eq))
  · exact .refl s

theorem expireSettle_steady (c : Ctx) (s : State) : Steady s (expireSettle c s) := by
  unfold expireSettle
  split
  · exact .refl s
  split
  · exact .refl s
  split
  · exact (raise_steady _ _ s).trans ((resolvePending_steady _ extrapolate_steady _).trans (completeSettling_steady c _))
  · exact .refl s

theorem fireDueTimers_steady (s : State) : Steady s (fireDueTimers s) :=
  (Steady.foldl (fun x h => expireHead_steady h x) allHeads s).trans ((expirePosition_steady _).trans
    ((Steady.foldl (fun x c => expireSettle_steady c x) _ _).trans
      ((expireRun_steady _).trans (examineBoth_steady _))))

/-! ### Evaluations (R5, R8, R24, R25) -/

theorem startEvaluation_steady (t : Trace) (rest : List Trace) (s : State) : Steady s (startEvaluation t rest s) := by
  simp only [startEvaluation]
  split
  · exact .of_eq
  · split <;> exact .of_eq

theorem completeEvaluation_steady (ev : Evaluation) (s : State) : Steady s (completeEvaluation ev s) := by
  have handed (r : Reading) (u : State) : Steady u (handOn ev.tie r u) := by
    unfold handOn
    split
    · exact resolveReading_steady r u
    · exact runTakes_steady r u
    · exact .refl u
  have flawed (r : Reading) (u : State) : Steady u (raiseFlaw r u) := by
    unfold raiseFlaw
    split
    · exact raise_steady _ _ u
    · exact .refl u
  have fell (r : Reading) (ch : Option ChannelNo) (u : State) : Steady u (raiseTempFallback r ch u) := by
    unfold raiseTempFallback
    split
    · exact raise_steady _ _ u
    · exact .refl u
  exact (Steady.of_eq (t := s.setEvaluator none)).trans ((handed _ _).trans ((flawed _ _).trans ((fell _ _ _).trans
    (decideMirror_steady _ _))))

/-! ### The mill link (R147, R150, R154, R155) -/

theorem releaseHeld_steady (s : State) : Steady s (releaseHeld s) := by
  unfold releaseHeld
  split
  · exact .refl s
  split <;> exact .of_eq

theorem startTransmission_steady (s : State) : Steady s (startTransmission s) := by
  have left (m : MillPort) : Steady s (s.setMill m) := .of_eq
  unfold startTransmission
  split
  · split
    · exact (left _).trans (releaseHeld_steady _)
    · exact left _
    · exact left _
    · exact (left _).trans (runDrain_steady _)
    · exact left _
    · exact left _
    · exact .refl s
  · exact .refl s

theorem queueRequest_steady (r : Request) (s : State) : Steady s (queueRequest r s) := by
  unfold queueRequest
  split
  · exact .of_eq
  · exact (Steady.of_eq (t := modMillCounters _ s)).trans (raise_steady _ _ _)

/-! ### The work of requests -/

theorem storeEvent_steady (k : EventKind) (severity : Severity) (report : Bool) (s : State) :
    Steady s (storeEvent k severity report s) := by
  simp only [storeEvent]
  split
  · exact .of_eq (by rw [offerNotice_headPort]; rfl) (by rw [offerNotice_pending]; rfl) (by rw [offerNotice_snapshots]; rfl)
  · exact .of_eq

theorem storeEntry_steady (e : EntryName) (d : List Byte) (s : State) : Steady s (storeEntry e d s).1 := by
  have limited (x : Timing) : Steady s (s.setAgent { s.agent with timing := x }) := .of_eq
  unfold storeEntry
  cases e <;> dsimp only
  case timing => exact (limited _).trans (fireDueTimers_steady _)
  case event k => exact storeEvent_steady k _ _ s
  all_goals exact .of_eq

theorem writeWork_steady (r : Request) (s : State) : Steady s (writeWork r s).state := by
  unfold writeWork
  split
  · exact .refl s
  · exact storeEntry_steady _ _ s

theorem exchangeWork_steady (r : Request) (s : State) : Steady s (exchangeWork r s).state := by
  unfold exchangeWork
  split
  · exact .refl s
  · exact storeEntry_steady _ _ s

theorem clearWork_steady (r : Request) (s : State) : Steady s (clearWork r s).state := by
  have reraised (u : State) : Steady u (reraiseHeadChange u) := by
    unfold reraiseHeadChange
    split
    · exact .refl u
    · exact compareSnapshot_steady _ u
  have cleared (e : EntryName) : Steady s (clearEntry e s) := by
    cases e with
    | event k =>
      change Steady s (clearEvent k s)
      simp only [clearEvent]
      split
      · exact (Steady.of_eq (t := s.setEvents _)).trans (reraised _)
      · exact .of_eq
    | _ => exact .of_eq
  unfold clearWork
  split
  · exact .refl s
  · exact cleared _

theorem applyWork_steady (r : Request) (s : State) : Steady s (applyWork r s).state := by
  unfold applyWork
  split
  · exact .of_eq
  split
  · exact .of_eq
  split
  · exact .refl s
  · exact (carryOutApply_steady s).trans (examineBoth_steady _)

theorem modeWork_steady (r : Request) (s : State) : Steady s (modeWork r s).state := by
  have left : Steady s (leaveCalibrate s) := by
    unfold leaveCalibrate
    split
    · exact abortRun_steady s
    · exact .refl s
  have ended (m : Mode) (u : State) : Steady u (leaveMeasure m u) := by
    unfold leaveMeasure
    split
    · exact endTube_steady _ _ _ u
    · exact .refl u
  have changed (m : Mode) : Steady s (changeMode m s) :=
    left.trans ((ended m _).trans ((Steady.of_eq (t := State.setAgent _ _)).trans (examineBoth_steady _)))
  unfold modeWork
  split
  · exact .refl s
  split
  · exact .refl s
  split
  · exact .refl s
  split
  · exact .refl s
  · exact changed _

theorem calibrateWork_steady (r : Request) (s : State) : Steady s (calibrateWork r s).state := by
  unfold calibrateWork
  split
  · exact .refl s
  split
  · exact .refl s
  split
  · exact .refl s
  split
  · exact .refl s
  · exact .of_eq

theorem respond_steady (r : Request) (a : Response) (s : State) : Steady s (respond r a s) := by
  obtain ⟨q, p, h⟩ := respond_eq r a s
  rw [h]
  exact .of_eq

/-! ### Command by command -/

section
variable {s t : State}

theorem steady_of_next {u : State} (w : Steady s u) (h : Host.Outcome.next u = (.next t : Host.Outcome State Fault Refusal)) :
    Steady s t := by
  cases h; exact w

/-- One of two outcomes. -/
theorem steady_of_ite {c : Prop} [Decidable c] {u v : State} (yes : Steady s u) (no : Steady s v)
    (h : (if c then .next u else .next v) = (.next t : Host.Outcome State Fault Refusal)) : Steady s t := by
  split at h
  · exact steady_of_next yes h
  · exact steady_of_next no h

theorem execTraceFrame_steady {x : Trace} (h : execTraceFrame x s = .next t) : Steady s t := by
  have counted : Steady s (countHeadFrame s) := .of_eq
  unfold execTraceFrame at h
  split at h
  · exact steady_of_ite ((Steady.of_eq (t := countTrace x.head (countHeadFrame s))).trans (checkSequence_steady x _))
      (counted.trans (rejectHeadFrame_steady _ _)) h
  · exact steady_of_next (.refl s) h

theorem execRequestFrame_steady {r : Request} (h : execRequestFrame r s = .next t) : Steady s t := by
  have counted : Steady s (countMillFrame s) := .of_eq
  unfold execRequestFrame at h
  split at h
  · exact steady_of_ite (counted.trans (queueRequest_steady r _)) (counted.trans (rejectMillFrame_steady _ _)) h
  · exact steady_of_next (.refl s) h

theorem execTimeMarkSent_steady (h : execTimeMarkSent s = .next t) : Steady s t := by
  unfold execTimeMarkSent at h
  split at h <;> exact steady_of_next .of_eq h

theorem execTransmissionCompletion_steady (h : execTransmissionCompletion s = .next t) : Steady s t := by
  unfold execTransmissionCompletion at h
  split at h <;> exact steady_of_next .of_eq h

theorem execEvaluationStart_steady (h : execEvaluationStart s = .next t) : Steady s t := by
  unfold execEvaluationStart at h
  split at h
  · exact steady_of_next ((startEvaluation_steady _ _ s).trans (examineBoth_steady _)) h
  · exact steady_of_next (.refl s) h

theorem execEvaluationCompletion_steady (h : execEvaluationCompletion s = .next t) : Steady s t := by
  unfold execEvaluationCompletion at h
  split at h
  · exact steady_of_next (.refl s) h
  · exact steady_of_next ((completeEvaluation_steady _ s).trans (examineBoth_steady _)) h

theorem execMapFrameQueued_steady (h : execMapFrameQueued s = .next t) : Steady s t := by
  have marked (u : State) : Steady u (markWaiting u) := by
    unfold markWaiting
    split <;> exact .of_eq
  unfold execMapFrameQueued at h
  split at h
  · exact steady_of_next (.refl s) h
  split at h
  · exact steady_of_next (.refl s) h
  split at h
  · exact steady_of_ite ((Steady.of_eq (t := queueMapFrame _ _ _ _ s)).trans (marked _)) (.refl s) h
  · exact steady_of_next (.refl s) h

theorem execMapEndQueued_steady (h : execMapEndQueued s = .next t) : Steady s t := by
  unfold execMapEndQueued at h
  split at h
  · exact steady_of_next (.refl s) h
  split at h
  · exact steady_of_next (.refl s) h
  split at h
  · exact steady_of_next (.refl s) h
  · exact steady_of_ite ((Steady.of_eq (t := queueMapEnd _ _ s)).trans (examineDrain_steady _)) (.refl s) h

/-- A request's work that is steady is steady with its RESPONSE. -/
theorem takeOldest_steady {work : Request → State → Answer} (works : ∀ r s, Steady s (work r s).state)
    (want : Request → Bool) (s : State) : Steady s (takeOldest want work s) := by
  obtain h | ⟨r, rest, -, -, -, h⟩ := takeOldest_cases want work s <;> rw [h]
  · exact .refl s
  · exact (Steady.of_eq (t := s.setMill _)).trans ((works r _).trans (respond_steady _ _ _))

theorem exec_steady {i : Instr} (h : exec i s = .next t) (read : i ≠ .read) (restart : i ≠ .restart)
    (reset : i ≠ .powerOnReset) : Steady s t := by
  have asked {want : Request → Bool} {work : Request → State → Answer} (works : ∀ r s, Steady s (work r s).state)
      (h : Host.Outcome.next (takeOldest want work s) = (.next t : Host.Outcome State Fault Refusal)) : Steady s t :=
    steady_of_next (takeOldest_steady works want s) h
  have headCounted : Steady s (countHeadFrame s) := .of_eq
  have millCounted : Steady s (countMillFrame s) := .of_eq
  have linkUp : Steady s (s.setMill { s.mill with link := .up }) := .of_eq
  cases i with
  | powerOnReset => exact absurd rfl reset
  | read => exact absurd rfl read
  | restart => exact absurd rfl restart
  | headLinkUp => exact steady_of_ite (.refl s) .of_eq h
  | headLinkDown cut => exact steady_of_ite (.refl s) .of_eq h
  | traceFrame x => exact execTraceFrame_steady h
  | positionFrame f => exact steady_of_ite (headCounted.trans (takePosition_steady f _)) (.refl s) h
  | temperatureFrame f => exact steady_of_ite .of_eq (.refl s) h
  | headFrameRejected r => exact steady_of_ite (headCounted.trans (rejectHeadFrame_steady r _)) (.refl s) h
  | timeMark => exact steady_of_ite .of_eq (.refl s) h
  | timeMarkSent => exact execTimeMarkSent_steady h
  | headSilenceExpiry x => exact steady_of_ite ((expireHead_steady x s).trans (examineBoth_steady _)) (.refl s) h
  | tempRecordExpiry ch => exact steady_of_next .of_eq h
  | evaluationStart => exact execEvaluationStart_steady h
  | evaluationCompletion => exact execEvaluationCompletion_steady h
  | positionSilenceExpiry => exact steady_of_ite ((expirePosition_steady s).trans (examineBoth_steady _)) (.refl s) h
  | settleLimitExpiry c => exact steady_of_ite ((expireSettle_steady c s).trans (examineBoth_steady _)) (.refl s) h
  | settleCompletion => exact steady_of_next (examineBoth_steady s) h
  | calibrationTimeout => exact steady_of_next (expireRun_steady s) h
  | drainBegin => exact steady_of_next (examineDrain_steady s) h
  | mapFrameQueued => exact execMapFrameQueued_steady h
  | mapEndQueued => exact execMapEndQueued_steady h
  | millLinkUp => exact steady_of_ite (.refl s) (linkUp.trans (startTransmission_steady _)) h
  | millLinkDown cut => exact steady_of_ite (.refl s) .of_eq h
  | requestFrame r => exact execRequestFrame_steady h
  | millFrameRejected r => exact steady_of_ite (millCounted.trans (rejectMillFrame_steady r _)) (.refl s) h
  | transmissionStart => exact steady_of_next (startTransmission_steady s) h
  | transmissionCompletion => exact execTransmissionCompletion_steady h
  | responseHeldRelease => exact steady_of_next (releaseHeld_steady s) h
  | write => exact asked writeWork_steady h
  | exchange => exact asked exchangeWork_steady h
  | clear => exact asked clearWork_steady h
  | apply => exact asked applyWork_steady h
  | mode => exact asked modeWork_steady h
  | calibrate => exact asked calibrateWork_steady h
  | abortCal => exact asked (work := abortWork) (fun _ u => abortRun_steady u) h
  | status => exact asked (work := statusWork) (fun _ u => .refl u) h
  | undefinedOperation => exact asked (work := undefinedWork) (fun _ u => .refl u) h

/-- READ and RESTART move snapshots, and neither part time nor the queue of commands. -/
theorem takeOldest_clock {want : Request → Bool} {work : Request → State → Answer}
    (works : ∀ r u, (work r u).state.headPort.partTime = u.headPort.partTime ∧ (work r u).state.pending = u.pending)
    (s : State) : (takeOldest want work s).headPort.partTime = s.headPort.partTime ∧
      (takeOldest want work s).pending = s.pending := by
  obtain h | ⟨r, rest, -, -, -, h⟩ := takeOldest_cases want work s <;> rw [h]
  · exact ⟨rfl, rfl⟩
  · obtain ⟨partTime, pending⟩ := works r (dequeued rest s)
    exact ⟨(respond_steady _ _ _).partTime.trans partTime, (respond_steady _ _ _).pending.trans pending⟩

theorem readWork_clock (r : Request) (s : State) :
    (readWork r s).state.headPort.partTime = s.headPort.partTime ∧ (readWork r s).state.pending = s.pending := by
  have copied (e : EntryName) : (afterRead e s).headPort = s.headPort ∧ (afterRead e s).pending = s.pending := by
    cases e <;> exact ⟨rfl, rfl⟩
  unfold readWork
  split
  · exact ⟨rfl, rfl⟩
  · exact ⟨by rw [(copied _).1], (copied _).2⟩

end

/-- Settles O2: READ and RESTART, which move snapshots, are looked at on their own; every other command is steady. -/
theorem commandsKeepPartTimeAndTheQueue : Obligations.CommandsKeepPartTimeAndTheQueue := by
  intro c s t h
  have moved {want : Request → Bool} {work : Request → State → Answer}
      (works : ∀ r u, (work r u).state.headPort.partTime = u.headPort.partTime ∧ (work r u).state.pending = u.pending)
      (h : Host.Outcome.next (takeOldest want work s) = (.next t : Host.Outcome State Fault Refusal)) :
      t.headPort.partTime = s.headPort.partTime ∧ t.pending = s.pending := by
    cases h; exact takeOldest_clock works s
  by_cases reset : c = .powerOnReset
  · subst reset; cases h
    exact ⟨fun other => absurd rfl other, rfl⟩
  refine (?_ : t.headPort.partTime = s.headPort.partTime ∧ t.pending = s.pending).imp_left fun same _ => same
  by_cases read : c = .read
  · subst read; exact moved readWork_clock h
  by_cases restart : c = .restart
  · subst restart; exact moved (work := restartWork) (fun _ _ => ⟨rfl, rfl⟩) h
  have steady := exec_steady h read restart reset
  exact ⟨steady.partTime, steady.pending⟩

end Sys2Proof.Machine
end

section
/-! A head's silence timer expires (R141, R172): the head becomes SILENT and joins the ACTIVE context's heads-lost set, the events
that follow occur, and the end of the step leaves the ACTIVE tube and the counts of those events alone. -/

namespace Sys2Proof.Machine

-- One declaration at a time: with more threads the text would pass the check's memory limit.
set_option Elab.async false

/-! ### HEAD_CHANGE (R172) -/

/-- R172: the comparison of a head whose state is `new`. -/
theorem compareSnapshot_eq {h : HeadNo} {new : HeadState} {s : State} (state : headStateOf s h = new) :
    compareSnapshot h s = withHeadChange h new s := by
  subst state
  unfold compareSnapshot withHeadChange
  simp only [eq_comm (a := headStateOf s h)]

/-- R172: HEAD_CHANGE occurs exactly where the states differ. -/
theorem occurrences_withHeadChange {j : EventKind} (hj : j ≠ .noticeLost) (h : HeadNo) (new : HeadState) (s : State) :
    occurrences (withHeadChange h new s) j =
      if j = .headChange ∧ snapshotOf s h ≠ new then min 65535 (occurrences s .headChange + 1) else occurrences s j := by
  unfold withHeadChange
  split
  next same => rw [if_neg fun differs => differs.2 same]
  next differs => simp only [occurrences_raise hj, and_iff_left differs]

/-! ### What the end of a step leaves of an ACTIVE tube -/

/-- From `s` to `t` the tube of context `c` stands but for its worst condition seen, and no kind but SUMMARY_LOST and NOTICE_LOST
occurs. -/
structure Aside (c : Ctx) (s t : State) : Prop where
  tube : ∀ {x}, tubeAt s c = some x → ∃ worst, tubeAt t c = some { x with worstSeen := worst }
  counts : ∀ k, k ≠ .summaryLost → k ≠ .noticeLost → occurrences t k = occurrences s k

namespace Aside

variable {c d : Ctx} {s t u : State}

theorem trans (a : Aside c s t) (b : Aside c t u) : Aside c s u where
  tube hx := by
    obtain ⟨_, hy⟩ := a.tube hx
    obtain ⟨worst, hz⟩ := b.tube hy
    exact ⟨worst, hz⟩
  counts k summary notice := (b.counts k summary notice).trans (a.counts k summary notice)

/-- The context and the records stand. -/
theorem of_eq (tube : tubeAt t c = tubeAt s c := by rfl) (events : t.events = s.events := by rfl) : Aside c s t where
  tube {x} hx := ⟨x.worstSeen, tube.trans hx⟩
  counts k _ _ := by simp only [occurrences, events]

theorem refl (c : Ctx) (s : State) : Aside c s s := of_eq

theorem putTube (other : d ≠ c) (x : Option Tube) (s : State) : Aside c s (putTube d x s) := by
  obtain rfl : c = otherCtx d := (Ctx.eq_or_other d c).resolve_left fun same => other same.symm
  exact of_eq (tubeAt_putTube_other ..)

theorem modTube (other : d ≠ c) (f : Tube → Tube) (s : State) : Aside c s (modTube d f s) := by
  unfold Machine.modTube
  split
  · exact refl c s
  · exact putTube other _ s

theorem offerSummary (f : SummaryFrame) (s : State) : Aside c s (offerSummary f s) where
  tube := offerSummary_tube f
  counts _ := occurrences_offerSummary f s

end Aside

section
variable {c d : Ctx} (other : d ≠ c)
include other

theorem closeUpTo_aside (closeTime : Time) (n : Nat) (s : State) : Aside c s (closeUpTo d closeTime n s) := by
  induction n generalizing s with
  | zero => exact .refl c s
  | succ n ih =>
    have closed (bin : Nat) : Aside c s (closeRing d bin closeTime s) := by
      unfold closeRing
      split
      · exact .refl c s
      · exact (Aside.offerSummary _ s).trans (.modTube other _ _)
    unfold closeUpTo
    split
    · exact .refl c s
    split
    · exact (closed _).trans (ih _)
    · exact .refl c s

theorem closeRemaining_aside (s : State) : Aside c s (closeRemaining d s) := by
  unfold closeRemaining
  split
  · exact .refl c s
  split
  · exact closeUpTo_aside other _ _ s
  · exact .refl c s

end

section
variable {c : Ctx} {s : State} (live : Live c s)
include live

/-- R78: the engine takes a CLOSED_WAIT context. -/
theorem takeContext_aside : Aside c s (takeContext s) := by
  unfold takeContext
  split
  next d _ waits =>
    have other : d ≠ c := by
      rintro rfl
      obtain ⟨x, hx, stage⟩ := oldestWaiting_stage waits
      obtain ⟨y, hy, either⟩ := live.tube
      obtain rfl : x = y := Option.some.inj (hx.symm.trans hy)
      rw [stage] at either
      obtain active | settling := either <;> contradiction
    exact (Aside.modTube other _ s).trans .of_eq
  next => exact .refl c s

theorem drainOne_aside : Aside c s (drainOne s) := by
  have finished (d : Drain) (other : d.ctx ≠ c) (t : Tube) : Aside c s (queueMapEnd d t s) := by
    obtain rfl : c = otherCtx d.ctx := (Ctx.eq_or_other d.ctx c).resolve_left fun same => other same.symm
    refine .of_eq ?_
    unfold queueMapEnd
    cases d.ctx <;> rfl
  unfold drainOne
  split
  · exact .refl c s
  next d busy =>
    have other : d.ctx ≠ c := live.drain d busy
    split
    · split
      · exact .refl c s
      split
      · exact (Aside.putTube other _ s).trans .of_eq
      · exact finished d other _
    · exact .of_eq

theorem drainOn_aside (n : Nat) : Aside c s (drainOn n s) := by
  induction n generalizing s with
  | zero => exact .refl c s
  | succ n ih =>
    have first := drainOne_spares live
    have second := takeContext_spares (first.live live)
    unfold drainOn
    split
    · exact (drainOne_aside live).trans ((takeContext_aside (first.live live)).trans
        (ih (second.live (first.live live))))
    · exact .refl c s

theorem examineDrain_aside : Aside c s (examineDrain s) :=
  (takeContext_aside live).trans (drainOn_aside ((takeContext_spares live).live live) _)

/-- R75: the other context examined. -/
theorem examineSettle_aside {d : Ctx} (other : d ≠ c) : Aside c s (examineSettle d s) := by
  have offered (u : State) : Aside c u (offerTube d u) := by
    unfold offerTube
    split
    · exact .refl c u
    split
    · exact .refl c u
    · exact .offerSummary _ u
  have spared := ((offerClosing_reports d s).spares c).trans
    (modTube_spares other (fun t => { t with stage := .closedWait, settleEntry := none }) _)
  unfold examineSettle
  split
  · exact .refl c s
  split
  · split
    · exact (closeRemaining_aside other s).trans ((offered _).trans ((Aside.modTube other _ _).trans
        (examineDrain_aside (spared.live live))))
    · exact .refl c s
  · exact .refl c s

/-- R75: the end of a step, seen from an ACTIVE tube. -/
theorem examineBoth_aside {x : Tube} (tube : tubeAt s c = some x) (active : x.stage = .active) :
    Aside c s (examineBoth s) := by
  have still (u : State) (spared : Spares c s u) : settledOk u c = true := by
    obtain ⟨y, hy, stands, -⟩ := spared.tube tube
    exact settledOk_of_active hy (stands.stage.trans active)
  have examined (d : Ctx) (u : State) (spared : Spares c s u) : Aside c u (examineSettle d u) := by
    by_cases same : d = c
    · rw [same, examineSettle_of_settledOk (still u spared)]
      exact .refl c u
    · exact examineSettle_aside (spared.live live) same
  obtain ⟨d, both⟩ := examineBoth_eq s
  rw [both]
  exact (examined d s (.refl c s)).trans
    (examined _ _ (examineSettle_spares d live (still s (.refl c s))))

end

/-! ### The events of an expiry (R141) -/

section
variable {s : State} {c : Ctx} {x : Tube} (active : activeCtx s = some c) (tube : tubeAt s c = some x)
include active tube

theorem loseHead_some (h : HeadNo) : loseHead h s =
    raise .headLost (.headTube h x.id) (putTube c (some { x with headsLost := tableSet x.headsLost h true }) s) := by
  rw [loseHead, active]
  simp only [tube, modTube_some tube]

theorem allHeadsLost_some : allHeadsLost s =
    if ∀ g, headEnabled s g = true → headStateOf s g = .silent then raise .allHeadsLost (.tube x.id) s else s := by
  have all : allHeads.all (fun g => !headEnabled s g || headStateOf s g == .silent) = true ↔
      ∀ g, headEnabled s g = true → headStateOf s g = .silent := by
    simp only [List.all_eq_true, mem_allHeads, true_imp_iff, Bool.or_eq_true, Bool.not_eq_true', beq_iff_eq]
    exact forall_congr' fun g => by cases headEnabled s g <;> simp
  rw [allHeadsLost, active]
  simp only [tube, all]

theorem loseHead_tube (h : HeadNo) : ∃ worst, tubeAt (loseHead h s) c =
    some { x with headsLost := tableSet x.headsLost h true, worstSeen := worst } := by
  rw [loseHead_some active tube]
  obtain ⟨worst, marked⟩ := (raise_noticeOnly .headLost (.headTube h x.id) _).tube
    (tubeAt_putTube_same c (some { x with headsLost := tableSet x.headsLost h true }) s)
  exact ⟨worst, marked⟩

theorem occurrences_loseHead (h : HeadNo) {j : EventKind} (hj : j ≠ .noticeLost) : occurrences (loseHead h s) j =
    if j = .headLost then min 65535 (occurrences s .headLost + 1) else occurrences s j := by
  rw [loseHead_some active tube, occurrences_raise hj]
  rfl

theorem occurrences_allHeadsLost {j : EventKind} (hj : j ≠ .noticeLost) : occurrences (allHeadsLost s) j =
    if j = .allHeadsLost ∧ ∀ g, headEnabled s g = true → headStateOf s g = .silent
      then min 65535 (occurrences s .allHeadsLost + 1) else occurrences s j := by
  rw [allHeadsLost_some active tube]
  split
  next on => simp only [occurrences_raise hj, and_iff_left on]
  next off => rw [if_neg fun both => off both.2]

end

theorem allHeadsLost_noticeOnly (s : State) : NoticeOnly s (allHeadsLost s) := by
  unfold allHeadsLost
  split
  · exact .refl s
  split
  · exact .refl s
  split
  · exact raise_noticeOnly _ _ s
  · exact .refl s

theorem withHeadChange_noticeOnly (h : HeadNo) (new : HeadState) (s : State) : NoticeOnly s (withHeadChange h new s) := by
  unfold withHeadChange
  split
  · exact .refl s
  · exact raise_noticeOnly _ _ s

/-- R141: the expiry of head `h` is the three events in their order, seen with the head SILENT. -/
theorem expireHead_eq {s : State} {h : HeadNo} (due : headSilenceDue s h = true) :
    expireHead h s = withHeadChange h .silent (allHeadsLost (loseHead h (silencedHead h s))) := by
  refine (expireHead_due due).trans (compareSnapshot_eq ?_)
  rw [headStateOf, (allHeadsLost_downstream _).headPort, (loseHead_downstream h _).headPort]
  exact congrArg HeadRecord.state (tableGet_tableMod_same ..)

/-- R141: what the expiry of head `h` makes of the ACTIVE tube and of the counts. -/
structure HeadExpired (h : HeadNo) (c : Ctx) (x : Tube) (s t : State) : Prop where
  tube : ∃ worst, tubeAt t c = some { x with headsLost := tableSet x.headsLost h true, worstSeen := worst }
  lost : occurrences t .headLost = min 65535 (occurrences s .headLost + 1)
  changed : occurrences t .headChange =
    if snapshotOf s h = .silent then occurrences s .headChange else min 65535 (occurrences s .headChange + 1)
  allLost : occurrences t .allHeadsLost =
    if ∀ g, headEnabled s g = true → headStateOf (silencedHead h s) g = .silent
      then min 65535 (occurrences s .allHeadsLost + 1) else occurrences s .allHeadsLost

theorem expireHead_expired {s : State} {c : Ctx} {x : Tube} {h : HeadNo} (active : activeCtx s = some c)
    (tube : tubeAt s c = some x) (due : headSilenceDue s h = true) : HeadExpired h c x s (expireHead h s) := by
  let silenced := silencedHead h s
  obtain ⟨_, marked⟩ := loseHead_tube (s := silenced) active tube h
  have lost {j : EventKind} := occurrences_loseHead (s := silenced) active tube h (j := j)
  have still : activeCtx (loseHead h silenced) = some c := (loseHead_standing h silenced).activeCtx.trans active
  have all {j : EventKind} := occurrences_allHeadsLost still marked (j := j)
  have changed {j : EventKind} (hj : j ≠ .noticeLost) :=
    occurrences_withHeadChange hj h .silent (allHeadsLost (loseHead h silenced))
  have snapshots := ((loseHead_steady h silenced).trans (allHeadsLost_steady _)).snapshots
  have same := loseHead_downstream h silenced
  simp only [headEnabled_of_active (congrArg Agent.active same.agent), headStateOf, same.headPort] at all
  simp only [snapshotOf, snapshots] at changed
  rw [expireHead_eq due]
  refine ⟨?_, ?_, ?_, ?_⟩
  · exact ((allHeadsLost_noticeOnly _).trans (withHeadChange_noticeOnly h .silent _)).tube marked
  · rw [changed (by decide), if_neg (by simp), all (by decide), if_neg (by simp), lost (by decide), if_pos rfl]
    rfl
  · have before : occurrences (allHeadsLost (loseHead h silenced)) .headChange = occurrences s .headChange := by
      rw [all (by decide), if_neg (by simp), lost (by decide), if_neg (by simp)]
      rfl
    rw [changed (by decide), before]
    simp only [true_and, ne_eq, ite_not]
    rfl
  · have before : occurrences (loseHead h silenced) .allHeadsLost = occurrences s .allHeadsLost := by
      rw [lost (by decide), if_neg (by simp)]
      rfl
    rw [changed (by decide), if_neg (by simp), all (by decide), before]
    simp only [true_and]
    rfl

theorem exec_headSilenceExpiry {s : State} {h : HeadNo} (due : headSilenceDue s h = true) :
    exec (.headSilenceExpiry h) s = .next (examineBoth (expireHead h s)) := if_pos due

theorem headSilenceDue_of {s : State} {h : HeadNo} {t : Time} (active : headStateOf s h = .active)
    (last : (tableGet s.headPort.heads h).lastArrival = some t)
    (late : s.agent.timing.headSilence * 1000 ≤ (s.headPort.partTime - t).toNat) : headSilenceDue s h = true := by
  change (tableGet s.headPort.heads h).state = .active at active
  simp only [headSilenceDue, active, last]
  exact decide_eq_true late

/-- Settles O38: every command but three is steady; an expiry by its three events, and what its step's end leaves of them. -/
theorem headSilenceExpires : Obligations.HeadSilenceExpires := by
  refine ⟨fun i s t h read restart reset => (exec_steady h read restart reset).snapshots, fun h s t active last late => ?_⟩
  have due := headSilenceDue_of (h := h) active last late
  rw [exec_headSilenceExpiry due]
  have expired := expireHead_downstream due
  have ended := examineBoth_downstream (expireHead h s)
  refine ⟨⟨_, rfl, ended.headPort.trans expired.headPort⟩, fun idle => ?_, fun c x pages running tube => ?_⟩
  · obtain ⟨none, quiet⟩ := idle_of_not_live idle
    have lost : loseHead h (silencedHead h s) = silencedHead h s := by
      rw [loseHead, show activeCtx (silencedHead h s) = .none from none]
    have all : allHeadsLost (silencedHead h s) = silencedHead h s := by
      rw [allHeadsLost, show activeCtx (silencedHead h s) = .none from none]
    rw [expireHead_eq due, lost, all,
      examineBoth_of_quiet ((withHeadChange_noticeOnly h .silent (silencedHead h s)).quiet quiet)]
    rfl
  · obtain ⟨-, -, -, drain⟩ := pages
    obtain ⟨z, hz, stage⟩ := activeCtx_some running
    obtain rfl : x = z := Option.some.inj (tube.symm.trans hz)
    have after := expireHead_expired running tube due
    obtain ⟨worst, marked⟩ := after.tube
    have away : ∀ g, (expireHead h s).drain = some g → g.ctx ≠ c := by
      rw [(expireHead_standing h s).drain]
      exact drain_away drain tube (by simp [stage])
    have aside := examineBoth_aside ⟨⟨_, marked, .inl stage⟩, away⟩ marked stage
    obtain ⟨worst', kept⟩ := aside.tube marked
    refine ⟨_, _, rfl, ?_, kept, stage, rfl, ?_, ?_, fun all => ?_, fun g on other => ?_⟩
    · rw [headStateOf, ended.headPort, expired.headPort]
      exact congrArg HeadRecord.state (tableGet_tableMod_same ..)
    · exact (aside.counts .headLost (by decide) (by decide)).trans after.lost
    · exact (aside.counts .headChange (by decide) (by decide)).trans after.changed
    · exact (aside.counts .allHeadsLost (by decide) (by decide)).trans (after.allLost.trans (if_pos all))
    · exact (aside.counts .allHeadsLost (by decide) (by decide)).trans
        (after.allLost.trans (if_neg fun all => other (all g on)))

end Sys2Proof.Machine
end

section
/-! Received bytes (R138, R154, R176 to R180): the tests of each link in their order, each with its reject, the fields of a frame
that passes, and the lengths that a request's codes require. -/

namespace Sys2Proof.Machine

-- One declaration at a time: with more threads the text would pass the check's memory limit.
set_option Elab.async false

/-! ### Fields at their offsets (R177, R178) -/

theorem byteAt_drop (l : List Byte) (k i : Nat) : byteAt (l.drop k) i = byteAt l (k + i) := by
  simp [byteAt, List.getD]

theorem wordAt_drop (l : List Byte) (k i : Nat) : wordAt (l.drop k) i = wordAt l (k + i) := by
  simp only [wordAt, byteAt_drop, Nat.add_assoc]

theorem wordsOf_length (l : List Byte) : (wordsOf l).length = l.length / 2 := by
  induction l using wordsOf.induct with
  | case1 x y rest ih => simp only [wordsOf, List.length_cons, ih]; omega
  | case2 l short =>
    match l, short with
    | [], _ => rfl
    | [_], _ => simp [wordsOf]
    | x :: y :: rest, short => exact absurd rfl (short x y rest)

theorem wordsOf_getElem? (l : List Byte) {i : Nat} (inside : 2 * i + 1 < l.length) :
    (wordsOf l)[i]? = some (wordAt l (2 * i)) := by
  induction l using wordsOf.induct generalizing i with
  | case1 x y rest ih =>
    cases i with
    | zero => rfl
    | succ i => exact ih (by simp only [List.length_cons] at inside; omega)
  | case2 l short =>
    match l, short with
    | [], _ => simp at inside
    | [_], _ => simp at inside
    | x :: y :: rest, short => exact absurd rfl (short x y rest)

/-- R10: the interval codes in their order. -/
theorem intervalOf_eq (code : Byte) : intervalOf code = [Interval.ns10, .ns20, .ns40][code.toNat]? := by
  obtain beyond | within := Nat.lt_or_ge 2 code.toNat
  · rw [List.getElem?_eq_none beyond]
    unfold intervalOf
    split
    case h_4 => rfl
    all_goals omega
  · unfold intervalOf
    interval_cases code.toNat <;> rfl

theorem intervalOf_eq_none {code : Byte} : intervalOf code = none ↔ 2 < code.toNat := by
  rw [intervalOf_eq, List.getElem?_eq_none_iff]
  rfl

theorem intervalOf_code {code : Byte} {i : Interval} (h : intervalOf code = some i) : Interval.code i = code.toNat := by
  have within : code.toNat ≤ 2 := Nat.not_lt.mp fun beyond => by
    rw [intervalOf_eq_none.mpr beyond] at h
    cases h
  rw [intervalOf_eq] at h
  interval_cases code.toNat <;> cases h <;> rfl

/-! ### The envelope's tests (R138, R154, R176) -/

/-- R176: a frame of a size that a port takes, with its frame check. -/
def Passes (bytes : List Byte) : Prop := 6 ≤ bytes.length ∧ bytes.length ≤ 4151 ∧ checkOk bytes = true

theorem rejected_iff {bytes : List Byte} : (!sizeOk bytes || !checkOk bytes) = true ↔ ¬Passes bytes := by
  simp only [Passes, sizeOk, Bool.or_eq_true, Bool.not_eq_true', ← Bool.not_eq_true, Bool.and_eq_true, decide_eq_true_eq,
    ← not_and_or, and_assoc]

theorem lengthOk_iff {bytes : List Byte} {n : Nat} :
    lengthOk bytes n = true ↔ (wordAt bytes 2).toNat = n ∧ (payloadOf bytes).length = n := by
  simp [lengthOk]

section
variable {bytes : List Byte}

theorem headLinkCommand_frameCheck (bad : ¬Passes bytes) : headLinkCommand bytes = .headFrameRejected .frameCheck :=
  if_pos (rejected_iff.mpr bad)

theorem millLinkCommand_frameCheck (bad : ¬Passes bytes) : millLinkCommand bytes = .millFrameRejected .frameCheck :=
  if_pos (rejected_iff.mpr bad)

section
variable (good : Passes bytes)
include good

/-! ### Kind and source on the head link (R138 tests 2 and 3) -/

theorem headLinkCommand_kind (other : (byteAt bytes 0).toNat ∉ [1, 2, 3]) :
    headLinkCommand bytes = .headFrameRejected (.kind (byteAt bytes 1)) := by
  refine (if_neg fun bad => rejected_iff.mp bad good).trans ?_
  split <;> simp_all

theorem headLinkCommand_trace (kind : (byteAt bytes 0).toNat = 1) {h : HeadNo} (source : (byteAt bytes 1).toNat = h.val) :
    headLinkCommand bytes = traceCommand h bytes := by
  refine (if_neg fun bad => rejected_iff.mp bad good).trans ?_
  simp only [kind, source, Fin.is_lt, dif_pos]

theorem headLinkCommand_position (kind : (byteAt bytes 0).toNat = 2) (source : (byteAt bytes 1).toNat = 0x10) :
    headLinkCommand bytes = positionCommand bytes := by
  refine (if_neg fun bad => rejected_iff.mp bad good).trans ?_
  simp only [kind, source, if_true]

theorem headLinkCommand_temperature (kind : (byteAt bytes 0).toNat = 3) {ch : ChannelNo}
    (source : (byteAt bytes 1).toNat = 0x20 + ch.val) : headLinkCommand bytes = temperatureCommand ch bytes := by
  refine (if_neg fun bad => rejected_iff.mp bad good).trans ?_
  simp only [kind, source, Nat.add_sub_cancel_left, Fin.is_lt, Nat.le_add_right, and_self, dif_pos]

theorem headLinkCommand_source
    (wrong : ((byteAt bytes 0).toNat = 1 ∧ 7 < (byteAt bytes 1).toNat) ∨
      ((byteAt bytes 0).toNat = 2 ∧ (byteAt bytes 1).toNat ≠ 0x10) ∨
      ((byteAt bytes 0).toNat = 3 ∧ (byteAt bytes 1).toNat ∉ [0x20, 0x21, 0x22, 0x23])) :
    headLinkCommand bytes = .headFrameRejected (.source (byteAt bytes 1)) := by
  refine (if_neg fun bad => rejected_iff.mp bad good).trans ?_
  obtain ⟨kind, source⟩ | ⟨kind, source⟩ | ⟨kind, source⟩ := wrong <;> simp only [kind]
  · exact dif_neg (by omega)
  · exact if_neg source
  · refine dif_neg ?_
    simp only [List.mem_cons, List.not_mem_nil, or_false, not_or] at source
    omega

/-! ### The mill link (R154 tests 2 and 3) -/

theorem millLinkCommand_kind (other : (byteAt bytes 0).toNat ≠ 0x10) :
    millLinkCommand bytes = .millFrameRejected (.kind (byteAt bytes 1)) :=
  (if_neg fun bad => rejected_iff.mp bad good).trans (if_pos other)

theorem millLinkCommand_source (kind : (byteAt bytes 0).toNat = 0x10) (other : (byteAt bytes 1).toNat ≠ 0x40) :
    millLinkCommand bytes = .millFrameRejected (.source (byteAt bytes 1)) :=
  (if_neg fun bad => rejected_iff.mp bad good).trans ((if_neg (not_not.mpr kind)).trans (if_pos other))

theorem millLinkCommand_request (kind : (byteAt bytes 0).toNat = 0x10) (source : (byteAt bytes 1).toNat = 0x40) :
    millLinkCommand bytes = requestCommand bytes :=
  (if_neg fun bad => rejected_iff.mp bad good).trans ((if_neg (not_not.mpr kind)).trans (if_neg (not_not.mpr source)))

end

/-! ### TRACE frames (R138 tests 4 and 5, R178) -/

/-- R138 test 4 of a TRACE frame. -/
theorem traceCommand_length (h : HeadNo)
    (wrong : (payloadOf bytes).length < 11 ∨ (wordAt bytes 2).toNat ≠ (payloadOf bytes).length ∨
      (payloadOf bytes).length ≠ 11 + 2 * (wordAt (payloadOf bytes) 9).toNat) :
    traceCommand h bytes = .headFrameRejected (.length (byteAt bytes 1)) := by
  refine if_pos ?_
  rw [Bool.or_eq_true, decide_eq_true_eq, Bool.not_eq_true', ← Bool.not_eq_true, lengthOk_iff]
  omega

section
variable (long : 11 ≤ (payloadOf bytes).length) (declared : (wordAt bytes 2).toNat = (payloadOf bytes).length)
  (whole : (payloadOf bytes).length = 11 + 2 * (wordAt (payloadOf bytes) 9).toNat)
include long declared whole

/-- R178: a sample of two bytes each from offset 11. -/
theorem payload_samples : (wordsOf ((payloadOf bytes).drop 11)).length = (wordAt (payloadOf bytes) 9).toNat := by
  rw [wordsOf_length, List.length_drop]
  omega

theorem trace_length_passes : ¬(decide ((payloadOf bytes).length < 11) ||
    !lengthOk bytes (11 + 2 * (wordAt (payloadOf bytes) 9).toNat)) = true := by
  rw [Bool.or_eq_true, decide_eq_true_eq, Bool.not_eq_true', ← Bool.not_eq_true, lengthOk_iff]
  omega

/-- R138 test 5. -/
theorem traceCommand_fields {h : HeadNo}
    (wrong : (byteAt (payloadOf bytes) 0).toNat ≠ h.val ∨ 2 < (byteAt (payloadOf bytes) 1).toNat ∨
      (wordAt (payloadOf bytes) 9).toNat < 64 ∨ 2048 < (wordAt (payloadOf bytes) 9).toNat) :
    traceCommand h bytes = .headFrameRejected (.traceFields h) := by
  have samples := payload_samples long declared whole
  simp only [traceCommand, if_neg (trace_length_passes long declared whole)]
  cases interval : intervalOf (byteAt (payloadOf bytes) 1) with
  | none => rfl
  | some i =>
    refine if_neg ?_
    have code : ¬2 < (byteAt (payloadOf bytes) 1).toNat := fun beyond => by
      rw [intervalOf_eq_none.mpr beyond] at interval
      cases interval
    simp only [sampleCountOk, samples, Bool.and_eq_true, beq_iff_eq, decide_eq_true_eq]
    omega

/-- R178: a TRACE frame that passes, field by field. -/
theorem traceCommand_passes {h : HeadNo} (head : (byteAt (payloadOf bytes) 0).toNat = h.val)
    (code : (byteAt (payloadOf bytes) 1).toNat ≤ 2) (enough : 64 ≤ (wordAt (payloadOf bytes) 9).toNat)
    (fits : (wordAt (payloadOf bytes) 9).toNat ≤ 2048) :
    ∃ t, traceCommand h bytes = .traceFrame t ∧ t.head = h ∧
      Interval.code t.interval = (byteAt (payloadOf bytes) 1).toNat ∧ t.sequence = wordAt (payloadOf bytes) 2 ∧
      t.timestamp = longAt (payloadOf bytes) 4 ∧ t.energy = byteAt (payloadOf bytes) 8 ∧
      t.samples.length = (wordAt (payloadOf bytes) 9).toNat ∧
      ∀ i, i < (wordAt (payloadOf bytes) 9).toNat → t.samples[i]? = some (wordAt (payloadOf bytes) (11 + 2 * i)) := by
  have samples := payload_samples long declared whole
  simp only [traceCommand, if_neg (trace_length_passes long declared whole)]
  cases interval : intervalOf (byteAt (payloadOf bytes) 1) with
  | none => exact absurd (intervalOf_eq_none.mp interval) (Nat.not_lt.mpr code)
  | some i =>
    refine ⟨_, if_pos ?_, rfl, intervalOf_code interval, rfl, rfl, rfl, samples, fun j inside => ?_⟩
    · simp only [sampleCountOk, samples, Bool.and_eq_true, beq_iff_eq, decide_eq_true_eq]
      exact ⟨head, enough, fits⟩
    · rw [wordsOf_getElem? _ (by rw [List.length_drop]; omega), wordAt_drop]

end

/-! ### POSITION, TEMPERATURE and REQUEST frames (R138, R154 test 4, R178, R179) -/

theorem positionCommand_length (wrong : (wordAt bytes 2).toNat ≠ 13 ∨ (payloadOf bytes).length ≠ 13) :
    positionCommand bytes = .headFrameRejected (.length (byteAt bytes 1)) :=
  if_neg fun ok => (not_and_or.mpr wrong) (lengthOk_iff.mp ok)

theorem positionCommand_passes (declared : (wordAt bytes 2).toNat = 13) (size : (payloadOf bytes).length = 13) :
    positionCommand bytes = .positionFrame
      { sequence := wordAt (payloadOf bytes) 0, timestamp := longAt (payloadOf bytes) 2, angle := wordAt (payloadOf bytes) 6,
        travel := longAt (payloadOf bytes) 8, present := (byteAt (payloadOf bytes) 12).getLsbD 0 } :=
  if_pos (lengthOk_iff.mpr ⟨declared, size⟩)

theorem temperatureCommand_length (ch : ChannelNo) (wrong : (wordAt bytes 2).toNat ≠ 7 ∨ (payloadOf bytes).length ≠ 7) :
    temperatureCommand ch bytes = .headFrameRejected (.length (byteAt bytes 1)) :=
  if_neg fun ok => (not_and_or.mpr wrong) (lengthOk_iff.mp ok)

theorem temperatureCommand_passes (ch : ChannelNo) (declared : (wordAt bytes 2).toNat = 7)
    (size : (payloadOf bytes).length = 7) : temperatureCommand ch bytes = .temperatureFrame
      { channel := ch, timestamp := longAt (payloadOf bytes) 0, ok := decide (byteAt (payloadOf bytes) 4 = 0),
        temperature := wordAt (payloadOf bytes) 5 } :=
  if_pos (lengthOk_iff.mpr ⟨declared, size⟩)

/-- R154 test 4, R180: what a REQUEST's length must be. -/
theorem request_length_iff :
    (decide ((payloadOf bytes).length < 6) ||
        !lengthOk bytes ((requestRequired (payloadOf bytes)).getD (payloadOf bytes).length)) = true ↔
      (payloadOf bytes).length < 6 ∨ (wordAt bytes 2).toNat ≠ (payloadOf bytes).length ∨
        ∃ k, requiredData (byteAt (payloadOf bytes) 1) (byteAt (payloadOf bytes) 2) = some k ∧
          (payloadOf bytes).length ≠ 6 + k := by
  rw [Bool.or_eq_true, decide_eq_true_eq, Bool.not_eq_true', ← Bool.not_eq_true, lengthOk_iff, requestRequired]
  refine or_congr_right ?_
  cases requiredData (byteAt (payloadOf bytes) 1) (byteAt (payloadOf bytes) 2) with
  | none => simp
  | some k =>
    simp only [Option.map_some, Option.getD_some, Option.some.injEq, exists_eq_left']
    omega

theorem requestCommand_length
    (wrong : (payloadOf bytes).length < 6 ∨ (wordAt bytes 2).toNat ≠ (payloadOf bytes).length ∨
      ∃ k, requiredData (byteAt (payloadOf bytes) 1) (byteAt (payloadOf bytes) 2) = some k ∧
        (payloadOf bytes).length ≠ 6 + k) : requestCommand bytes = .millFrameRejected .length :=
  if_pos (request_length_iff.mpr wrong)

theorem requestCommand_passes (long : 6 ≤ (payloadOf bytes).length)
    (declared : (wordAt bytes 2).toNat = (payloadOf bytes).length)
    (required : ∀ k, requiredData (byteAt (payloadOf bytes) 1) (byteAt (payloadOf bytes) 2) = some k →
      (payloadOf bytes).length = 6 + k) : requestCommand bytes = .requestFrame
      { tag := byteAt (payloadOf bytes) 0, operation := byteAt (payloadOf bytes) 1, table := byteAt (payloadOf bytes) 2,
        selector := byteAt (payloadOf bytes) 3, index := wordAt (payloadOf bytes) 4, data := (payloadOf bytes).drop 6 } := by
  refine if_neg fun wrong => ?_
  obtain short | other | ⟨k, some, differs⟩ := request_length_iff.mp wrong
  · omega
  · exact other declared
  · exact differs (required k some)

/-! ### Every command read is well-formed -/

theorem traceCommand_wellFormed {h : HeadNo} (source : (byteAt bytes 1).toNat = h.val) :
    (traceCommand h bytes).wellFormed = true := by
  simp only [traceCommand]
  split
  · simp [Instr.wellFormed, headLinkSource, source]
  split
  · split
    next passes => exact (Bool.and_eq_true_iff.mp passes).2
    next => rfl
  · rfl

theorem headLinkCommand_wellFormed (bytes : List Byte) : (headLinkCommand bytes).wellFormed = true := by
  simp only [headLinkCommand]
  split
  · rfl
  split
  · split
    · exact traceCommand_wellFormed rfl
    · rfl
  · split
    next source =>
      unfold positionCommand
      split
      · rfl
      · simp [Instr.wellFormed, headLinkSource, source]
    next => rfl
  · split
    next channel =>
      unfold temperatureCommand
      split
      · rfl
      · simp only [Instr.wellFormed, headLinkSource, Bool.or_eq_true, Bool.and_eq_true, decide_eq_true_eq]
        omega
    next => rfl
  · rfl

theorem millLinkCommand_wellFormed (bytes : List Byte) : (millLinkCommand bytes).wellFormed = true := by
  by_cases good : Passes bytes
  case neg => rw [millLinkCommand_frameCheck good]; rfl
  by_cases kind : (byteAt bytes 0).toNat = 0x10
  case neg => rw [millLinkCommand_kind good kind]; rfl
  by_cases source : (byteAt bytes 1).toNat = 0x40
  case neg =>
    rw [millLinkCommand_source good kind source]
    refine bne_iff_ne.mpr fun same => source ?_
    rw [same]
    rfl
  rw [millLinkCommand_request good kind source]
  unfold requestCommand
  dsimp only
  split
  next => rfl
  next wrong =>
    obtain ⟨-, fits, -⟩ := good
    rw [request_length_iff] at wrong
    simp only [not_or, not_exists, not_and, not_not, not_lt] at wrong
    obtain ⟨long, -, required⟩ := wrong
    have size : (payloadOf bytes).length ≤ 4145 := by
      rw [payloadOf, List.length_take]
      omega
    simp only [Instr.wellFormed, requestLengthOk, Bool.and_eq_true, decide_eq_true_eq, List.length_drop, maxPayload]
    refine ⟨?_, by omega⟩
    split
    next => rfl
    next k needs => rw [beq_iff_eq, required k needs, Nat.add_sub_cancel_left]

end

/-! ### The lengths that R180 requires -/

/-- R177: the tables in code order. -/
def tableCodes : List TableName :=
  [.head, .gate, .velocity, .mapSetup, .timing, .output, .calib, .headStatus, .tempChannel, .pose, .context, .directory,
    .mapPage, .event, .fault, .portCounters]

theorem tableOf_eq (code : Byte) : tableOf code = tableCodes[code.toNat]? := by
  obtain beyond | within := Nat.lt_or_ge 15 code.toNat
  · rw [tableOf_none beyond]
    exact (List.getElem?_eq_none beyond).symm
  · unfold tableOf
    interval_cases code.toNat <;> rfl

section
variable {operation table : Byte}

/-- READ and CLEAR carry no entry data. -/
theorem requiredData_plain (op : operation.toNat ∈ [0, 3]) :
    requiredData operation table = if table.toNat < 16 then some 0 else none := by
  have isSome : (tableOf table).isSome = decide (table.toNat < 16) := by
    rw [tableOf_eq, Bool.eq_iff_iff, decide_eq_true_eq, isSome_getElem?]
    rfl
  simp only [List.mem_cons, List.not_mem_nil, or_false] at op
  obtain op | op := op <;>
  · rw [requiredData, operationOf_eq, op]
    simp only [List.getElem?_cons_zero, List.getElem?_cons_succ, isSome, decide_eq_true_eq]

/-- The operations that name no table have their own lengths. -/
theorem requiredData_other {n : Nat} (op : (operation.toNat, n) ∈ [(4, 0), (5, 1), (6, 8), (7, 0), (8, 0), (9, 0)]) :
    requiredData operation table = some n := by
  simp only [List.mem_cons, Prod.mk.injEq, List.not_mem_nil, or_false] at op
  obtain ⟨op, rfl⟩ | ⟨op, rfl⟩ | ⟨op, rfl⟩ | ⟨op, rfl⟩ | ⟨op, rfl⟩ | ⟨op, rfl⟩ := op <;>
  · rw [requiredData, operationOf_eq, op]
    rfl

/-- WRITE and EXCHANGE carry an entry of their table. -/
theorem requiredData_stores (op : operation.toNat ∈ [1, 2]) :
    requiredData operation table = (tableOf table).bind entryBytes := by
  simp only [List.mem_cons, List.not_mem_nil, or_false] at op
  obtain op | op := op <;> rw [requiredData, operationOf_eq, op] <;> rfl

theorem entryBytes_some : ∀ x ∈ [(0, 12), (1, 11), (2, 4), (3, 19), (4, 10), (5, 6), (6, 4), (13, 13)],
    table.toNat = x.1 → (tableOf table).bind entryBytes = some x.2 := fun x mem code => by
  rw [tableOf_eq, code]
  exact (by decide : ∀ x ∈ [(0, 12), (1, 11), (2, 4), (3, 19), (4, 10), (5, 6), (6, 4), (13, 13)],
    tableCodes[x.1]?.bind entryBytes = some x.2) x mem

theorem entryBytes_none (mem : table.toNat ∈ [7, 8, 9, 10, 11, 12, 14, 15]) : (tableOf table).bind entryBytes = none := by
  rw [tableOf_eq]
  exact (by decide : ∀ k ∈ [7, 8, 9, 10, 11, 12, 14, 15], tableCodes[k]?.bind entryBytes = none) table.toNat mem

/-- R158: an undefined table code leaves the length of the four operations that name a table open. -/
theorem requiredData_undefinedTable (uses : operation.toNat < 4) (beyond : 16 ≤ table.toNat) :
    requiredData operation table = none := by
  by_cases plain : operation.toNat ∈ [0, 3]
  · rw [requiredData_plain plain, if_neg (by omega)]
  · rw [requiredData_stores, tableOf_none (by omega)]
    · rfl
    · simp only [List.mem_cons, List.not_mem_nil, or_false] at plain ⊢
      omega

end

/-- Settles O15: the tests one after another, each frame stopped by the first that it fails. -/
theorem receivedBytesGiveWellFormedCommands : Obligations.ReceivedBytesGiveWellFormedCommands := by
  refine ⟨fun bytes => ⟨headLinkCommand_wellFormed bytes, millLinkCommand_wellFormed bytes,
    fun bad => ⟨headLinkCommand_frameCheck bad, millLinkCommand_frameCheck bad⟩, fun good =>
      ⟨headLinkCommand_kind good, headLinkCommand_source good, fun h kind source => ?_, fun kind source => ?_,
        fun ch kind source => ?_, millLinkCommand_kind good, millLinkCommand_source good, fun kind source => ?_⟩⟩,
    fun operation table => ⟨fun plain within => (requiredData_plain plain).trans (if_pos within), fun other => ?_,
      fun mode => requiredData_other (by simp [mode]), fun calibrate => requiredData_other (by simp [calibrate]),
      fun writes => ?_, requiredData_undefinedTable, fun beyond => ?_⟩⟩
  · rw [headLinkCommand_trace good kind source]
    exact ⟨traceCommand_length h, fun long declared whole =>
      ⟨traceCommand_fields long declared whole, traceCommand_passes long declared whole⟩⟩
  · rw [headLinkCommand_position good kind source]
    exact ⟨positionCommand_length, positionCommand_passes⟩
  · rw [headLinkCommand_temperature good kind source]
    exact ⟨temperatureCommand_length ch, temperatureCommand_passes ch⟩
  · rw [millLinkCommand_request good kind source]
    exact ⟨requestCommand_length, requestCommand_passes⟩
  · refine requiredData_other ?_
    simp only [List.mem_cons, List.not_mem_nil, or_false] at other
    obtain op | op | op | op := other <;> simp [op]
  · rw [requiredData_stores writes]
    exact ⟨entryBytes_some, entryBytes_none⟩
  · rw [requiredData, operationOf_none (by omega)]

end Sys2Proof.Machine
end

section
/-! Frames taken in on the head link (R138, R142, R143, R172): a trace against its head's intake record, and the frames that fail a
test on either link (R154). -/

namespace Sys2Proof.Machine

-- One declaration at a time: with more threads the text would pass the check's memory limit.
set_option Elab.async false

/-! ### One frame received, one record replaced (R137, R139) -/

/-- One more frame received on the head link, and the intake record of head `h` replaced. -/
def takenIn (h : HeadNo) (x : HeadRecord) (s : State) : State :=
  s.setHeadPort { received s with heads := tableSet s.headPort.heads h x }

/-- The intake record of head `h` with one more trace received. -/
def traceReceived (h : HeadNo) (s : State) : HeadRecord :=
  { tableGet s.headPort.heads h with received := min 4294967295 ((tableGet s.headPort.heads h).received + 1) }

theorem countTrace_eq (h : HeadNo) (s : State) : countTrace h (countHeadFrame s) = takenIn h (traceReceived h s) s := rfl

section
variable (h : HeadNo) (x : HeadRecord) (s : State)

@[simp] theorem takenIn_head : tableGet (takenIn h x s).headPort.heads h = x := tableGet_tableSet_same ..

theorem takenIn_headPort {u : State} (same : u.headPort = s.headPort) :
    (takenIn h x u).headPort = (takenIn h x s).headPort := by
  simp only [takenIn, received, same, State.setHeadPort_headPort]

@[simp] theorem modHead_takenIn (f : HeadRecord → HeadRecord) : modHead h f (takenIn h x s) = takenIn h (f x) s := by
  have replaced : tableMod (tableSet s.headPort.heads h x) h f = tableSet s.headPort.heads h (f x) := by
    rw [tableMod, tableGet_tableSet_same, tableSet, tableSet, Vector.set_set]
    rfl
  exact congrArg (fun heads => s.setHeadPort { received s with heads := heads }) replaced

end

/-! ### Occurrences and the Head Port -/

section
variable (k : EventKind) (d : Detail)

/-- R173: a capture reads nothing of the Head Port but part time. -/
theorem captureFailed_setHeadPort {s : State} {p : HeadPort} (now : p.partTime = s.headPort.partTime) :
    captureFailed k d (s.setHeadPort p) = (captureFailed k d s).setHeadPort p := by
  obtain ⟨link, partTime, counters, lastMark, markInFlight, heads, channels⟩ := p
  subst now
  simp only [captureFailed, State.setHeadPort_events]
  split <;> rfl

/-- R167, R171: the part of an occurrence before the capture: the record and the contexts' worst condition seen. -/
def recorded (k : EventKind) (s : State) : State :=
  noteWorst (s.setEvents { s.events with records := tableMod s.events.records k.index (EventRecord.occur s.now) })

theorem countOccurrence_eq (s : State) : countOccurrence k d s =
    if (tableGet s.events.records k.index).severity = .failed then captureFailed k d (recorded k s) else recorded k s := rfl

theorem recorded_setHeadPort {s : State} {p : HeadPort} (now : p.partTime = s.headPort.partTime) :
    recorded k (s.setHeadPort p) = (recorded k s).setHeadPort p := by
  obtain ⟨link, partTime, counters, lastMark, markInFlight, heads, channels⟩ := p
  subst now
  rfl

/-- An occurrence reads nothing of the Head Port but part time. -/
theorem countOccurrence_setHeadPort {s : State} {p : HeadPort} (now : p.partTime = s.headPort.partTime) :
    countOccurrence k d (s.setHeadPort p) = (countOccurrence k d s).setHeadPort p := by
  simp only [countOccurrence_eq, recorded_setHeadPort k now, State.setHeadPort_events]
  split
  · exact captureFailed_setHeadPort k d (s := recorded k s) now
  · rfl

/-- R149: an offered NOTICE takes nothing of the Head Port but part time. -/
theorem offerNotice_setHeadPort (n : Notice) {s : State} {p : HeadPort} (now : p.partTime = s.headPort.partTime) :
    offerNotice n (s.setHeadPort p) = (offerNotice n s).setHeadPort p := by
  by_cases room : s.mill.noticeQ.length < noticeCap
  · have joins : offerNotice n s = s.setMill { s.mill with noticeQ := s.mill.noticeQ ++ [n] } := if_pos room
    rw [joins]
    exact if_pos room
  · have drops : offerNotice n s = countOccurrence .noticeLost (.kind n.kind) (countDropped noticeClass s) := if_neg room
    rw [drops]
    exact (if_neg room).trans
      (countOccurrence_setHeadPort .noticeLost (.kind n.kind) (s := countDropped noticeClass s) now)

/-- R167: with its NOTICE, an occurrence reads nothing of the Head Port but part time. -/
theorem raise_setHeadPort {s : State} {p : HeadPort} (now : p.partTime = s.headPort.partTime) :
    raise k d (s.setHeadPort p) = (raise k d s).setHeadPort p := by
  have counted := countOccurrence_setHeadPort k d now
  have same : (countOccurrence k d s).headPort = s.headPort := countOccurrence_headPort k d s
  simp only [raise, counted, State.setHeadPort_events]
  split
  · exact offerNotice_setHeadPort _ (now.trans (congrArg HeadPort.partTime same).symm)
  · rfl

theorem raise_takenIn (h : HeadNo) (x : HeadRecord) (s : State) :
    raise k d (takenIn h x s) = takenIn h x (raise k d s) :=
  (raise_setHeadPort k d (p := { received s with heads := tableSet s.headPort.heads h x }) rfl).trans
    (by simp only [takenIn, received, raise_headPort])

end

/-! ### Admission (R143) -/

theorem admits_iff (s : State) (h : HeadNo) : admits s h = true ↔ Admitting h s := by
  have tied : (tiedRun s h).isSome = true ↔ s.agent.run.map CalRun.head = some h := by
    unfold tiedRun
    cases s.agent.run with
    | none => simp
    | some x => by_cases same : x.head = h <;> simp [same]
  unfold admits
  split
  next mode => simp [Admitting, mode]
  next mode => simp [Admitting, mode, tied]
  next mode => simp [Admitting, mode]

theorem admitTrace_joins {t : Trace} {s : State} (admitting : Admitting t.head s) (room : s.traceQueue.length < 48) :
    admitTrace t s = s.setTraceQueue (s.traceQueue ++ [t]) :=
  (if_pos ((admits_iff s t.head).mpr admitting)).trans (if_pos room)

theorem admitTrace_full {t : Trace} {s : State} (admitting : Admitting t.head s) (full : s.traceQueue.length = 48) :
    admitTrace t s = raise .queueOverflow (.headSequence t.head t.sequence)
      (modHead t.head (fun r => { r with queueDrops := satInc cap32 r.queueDrops }) s) :=
  (if_pos ((admits_iff s t.head).mpr admitting)).trans (if_neg (by rw [full]; decide))

theorem admitTrace_idle {t : Trace} {s : State} (idle : ¬Admitting t.head s) :
    admitTrace t s = countIdleDiscard t.head s :=
  if_neg fun admits => idle ((admits_iff s t.head).mp admits)

/-! ### The sequence check (R142) -/

theorem exec_traceFrame {t : Trace} {s : State} (up : s.headPort.link = .up) (samples : sampleCountOk t = true) :
    exec (.traceFrame t) s = .next (checkSequence t (countTrace t.head (countHeadFrame s))) :=
  (if_pos up).trans (if_pos samples)

section
variable {t : Trace} {s : State} {x : HeadRecord}

theorem checkSequence_disabled (state : x.state = .disabled) :
    checkSequence t (takenIn t.head x s) = countIdleDiscard t.head (takenIn t.head x s) := by
  simp only [checkSequence, takenIn_head, state]

theorem checkSequence_unseen (state : x.state = .unseen) :
    checkSequence t (takenIn t.head x s) = acceptTrace t 0 (takenIn t.head x s) := by
  simp only [checkSequence, takenIn_head, state]

theorem checkSequence_expects {e : Seq} (state : x.state = .active ∨ x.state = .silent) (expected : x.expected = some e) :
    checkSequence t (takenIn t.head x s) =
      if (t.sequence - e).toNat < 32768 then acceptTrace t (t.sequence - e).toNat (takenIn t.head x s)
      else raise .duplicate (.headSequence t.head t.sequence)
        (modHead t.head (fun r => { r with duplicates := satInc cap32 r.duplicates }) (takenIn t.head x s)) := by
  obtain state | state := state <;> simp only [checkSequence, takenIn_head, state, sequenceGap, expected]

/-- R142: the expected sequence. -/
theorem checkSequence_expected (state : x.state = .active ∨ x.state = .silent) (expected : x.expected = some t.sequence) :
    checkSequence t (takenIn t.head x s) = acceptTrace t 0 (takenIn t.head x s) := by
  simp [checkSequence_expects state expected]

end

/-! ### Acceptance (R142, R143, R172) -/

/-- A trace of head `h` joins the Trace Queue, and the step settles no context. -/
structure Joining (h : HeadNo) (s : State) : Prop where
  admitting : Admitting h s
  room : s.traceQueue.length < 48
  quiet : Quiet s

/-- Events change nothing of it. -/
theorem Joining.of_noticeOnly {h : HeadNo} {s u : State} (joins : Joining h s) (notice : NoticeOnly s u)
    (agent : u.agent = s.agent) (queue : u.traceQueue = s.traceQueue) : Joining h u where
  admitting := by
    have admitting := joins.admitting
    simp only [Admitting, headEnabled] at admitting ⊢
    rwa [agent]
  room := queue ▸ joins.room
  quiet := notice.quiet joins.quiet

theorem withHeadChange_agent (h : HeadNo) (new : HeadState) (s : State) : (withHeadChange h new s).agent = s.agent := by
  unfold withHeadChange; split <;> simp

theorem withHeadChange_traceQueue (h : HeadNo) (new : HeadState) (s : State) :
    (withHeadChange h new s).traceQueue = s.traceQueue := by
  unfold withHeadChange; split <;> simp

theorem examineBoth_admitTrace {t : Trace} {s : State} (joins : Joining t.head s) :
    examineBoth (admitTrace t s) = s.setTraceQueue (s.traceQueue ++ [t]) := by
  rw [admitTrace_joins joins.admitting joins.room]
  exact examineBoth_of_quiet joins.quiet

section
variable (t : Trace) (x : HeadRecord) (s : State)

/-- R142: a trace of an ACTIVE head with no gap. -/
theorem acceptTrace_active (active : x.state = .active) :
    acceptTrace t 0 (takenIn t.head x s) = examineBoth (admitTrace t (takenIn t.head (x.accept s.now t) s)) := by
  have state : headStateOf (takenIn t.head x s) t.head = .active := (congrArg _ (takenIn_head ..)).trans active
  refine (congrArg (fun u => examineBoth (admitTrace t u)) (if_pos state)).trans ?_
  exact congrArg (fun u => examineBoth (admitTrace t u)) (modHead_takenIn t.head x s (HeadRecord.accept s.now t))

/-- R142, R172: a trace that makes its head ACTIVE. -/
theorem acceptTrace_activates (other : x.state ≠ .active) :
    acceptTrace t 0 (takenIn t.head x s) =
      examineBoth (admitTrace t (withHeadChange t.head .active (takenIn t.head (x.accept s.now t) s))) := by
  have state : headStateOf (takenIn t.head x s) t.head ≠ .active := fun same =>
    other ((congrArg _ (takenIn_head ..)).symm.trans same)
  have accepted : modHead t.head (HeadRecord.accept s.now t) (takenIn t.head x s) = takenIn t.head (x.accept s.now t) s :=
    modHead_takenIn ..
  have now : headStateOf (takenIn t.head (x.accept s.now t) s) t.head = .active := congrArg _ (takenIn_head ..)
  rw [← compareSnapshot_eq now, ← accepted]
  exact congrArg (fun u => examineBoth (admitTrace t u)) (if_neg state)

/-- R142: a trace of an ACTIVE head that skips `g` numbers. -/
theorem acceptTrace_gap {g : Nat} (gap : g ≠ 0) (active : x.state = .active) :
    acceptTrace t g (takenIn t.head x s) =
      examineBoth (admitTrace t (takenIn t.head ({ x with gaps := satAdd cap32 x.gaps g }.accept s.now t)
        (raise .seqGap (.headMissed t.head g) s))) := by
  have state : headStateOf (takenIn t.head x s) t.head = .active := (congrArg _ (takenIn_head ..)).trans active
  have counted : countGap t.head g (takenIn t.head x s) =
      takenIn t.head { x with gaps := satAdd cap32 x.gaps g } (raise .seqGap (.headMissed t.head g) s) := by
    rw [countGap, if_neg gap, modHead_takenIn, raise_takenIn]
  refine (congrArg (fun u => examineBoth (admitTrace t u)) ((if_pos state).trans (congrArg _ counted))).trans ?_
  exact congrArg (fun u => examineBoth (admitTrace t u)) (modHead_takenIn ..)

end

/-- Settles O31: each accepted trace's record by the equations of `acceptTrace`, and admission by `examineBoth_admitTrace`. -/
theorem acceptedTraceJoinsTheQueue : Obligations.AcceptedTraceJoinsTheQueue := by
  unfold Obligations.AcceptedTraceJoinsTheQueue
  intro t s r renewed up samples admitting room quiet
  have joins : Joining t.head s := ⟨admitting, room, quiet⟩
  rw [exec_traceFrame up samples, countTrace_eq]
  refine ⟨fun active expected => ?_, fun e active expected positive forward => ?_, fun awakes => ?_⟩
  · rw [checkSequence_expected (x := traceReceived t.head s) (.inl active) expected,
      acceptTrace_active t (traceReceived t.head s) s active,
      examineBoth_admitTrace (s := takenIn ..) ⟨admitting, room, quiet⟩]
    rfl
  · have noticed : Joining t.head (raise .seqGap (.headMissed t.head (t.sequence - e).toNat) s) :=
      joins.of_noticeOnly (raise_noticeOnly ..) (raise_agent ..) (raise_traceQueue ..)
    obtain ⟨admitted, free, settled⟩ := noticed
    rw [checkSequence_expects (x := traceReceived t.head s) (.inl active) expected, if_pos forward,
      acceptTrace_gap t (traceReceived t.head s) s (Nat.ne_of_gt positive) active,
      examineBoth_admitTrace (s := takenIn ..) ⟨admitted, free, settled⟩]
    have port := takenIn_headPort t.head ({ traceReceived t.head s with
      gaps := satAdd cap32 (traceReceived t.head s).gaps (t.sequence - e).toNat }.accept s.now t)
      s (raise_headPort .seqGap (.headMissed t.head (t.sequence - e).toNat) s)
    exact ⟨_, rfl, congrArg (· ++ [t]) (raise_traceQueue ..), port, rfl, rfl, rfl, raise_evaluator .., raise_pose ..,
      raise_wall .., raise_drain .., raise_agent ..⟩
  · have activated (r' : HeadRecord) (other : r'.state ≠ .active) :
        acceptTrace t 0 (takenIn t.head r' s) =
          (withHeadChange t.head .active (takenIn t.head (r'.accept s.now t) s)).setTraceQueue (s.traceQueue ++ [t]) := by
      have taken : Joining t.head (takenIn t.head (r'.accept s.now t) s) := ⟨admitting, room, quiet⟩
      rw [acceptTrace_activates t r' s other, examineBoth_admitTrace (taken.of_noticeOnly (withHeadChange_noticeOnly ..)
        (withHeadChange_agent ..) (withHeadChange_traceQueue ..)), withHeadChange_traceQueue]
      rfl
    obtain unseen | ⟨silent, expected⟩ := awakes
    · rw [checkSequence_unseen (x := traceReceived t.head s) unseen]
      exact congrArg _ (activated _ fun active => absurd (unseen.symm.trans active) (by decide))
    · rw [checkSequence_expected (x := traceReceived t.head s) (.inr silent) expected]
      exact congrArg _ (activated _ fun active => absurd (silent.symm.trans active) (by decide))

/-! ### Traces that do not join (R139, R142, R143) -/

theorem countIdleDiscard_takenIn (h : HeadNo) (x : HeadRecord) (s : State) :
    countIdleDiscard h (takenIn h x s) = takenIn h { x with idleDiscards := min 4294967295 (x.idleDiscards + 1) } s :=
  modHead_takenIn ..

/-- Settles O32: the branches of the sequence check and of admission, each as one replaced record. -/
theorem traceThatIsNotAdmitted : Obligations.TraceThatIsNotAdmitted := by
  unfold Obligations.TraceThatIsNotAdmitted
  intro t s r counted renewed put up samples
  rw [exec_traceFrame up samples, countTrace_eq]
  have accepted (active : r.state = .active) (expected : r.expected = some t.sequence) :
      checkSequence t (takenIn t.head (traceReceived t.head s) s) =
        examineBoth (admitTrace t (takenIn t.head ((traceReceived t.head s).accept s.now t) s)) :=
    (checkSequence_expected (x := traceReceived t.head s) (.inl active) expected).trans
      (acceptTrace_active t (traceReceived t.head s) s active)
  refine ⟨fun e known expected backward => ?_, fun disabled => ?_, fun active expected idle quiet => ?_,
    fun active expected admitting full quiet => ?_⟩
  · rw [checkSequence_expects (x := traceReceived t.head s) known expected, if_neg (by omega), modHead_takenIn]
    rfl
  · rw [checkSequence_disabled (x := traceReceived t.head s) disabled, countIdleDiscard_takenIn]
    rfl
  · rw [accepted active expected, admitTrace_idle (s := takenIn ..) idle, countIdleDiscard_takenIn]
    exact congrArg _ (examineBoth_of_quiet quiet)
  · rw [accepted active expected, admitTrace_full (s := takenIn ..) admitting full, modHead_takenIn,
      examineBoth_of_quiet ((raise_noticeOnly _ _ (takenIn ..)).quiet quiet)]
    rfl

/-! ### Rejected frames (R138, R154) -/

/-- Settles O33: on a link that is UP each test's discard, as the model counts and raises it. -/
theorem rejectedFramesAreCounted : Obligations.RejectedFramesAreCounted := by
  unfold Obligations.RejectedFramesAreCounted
  intro s k m bad badMill
  refine ⟨fun up => ?_, fun up => ?_⟩
  · have rejected (r : HeadReject) : exec (.headFrameRejected r) s = .next (rejectHeadFrame r (countHeadFrame s)) := if_pos up
    exact ⟨rejected _, fun src => ⟨rejected _, rejected _, rejected _⟩, fun h => rejected _⟩
  · have rejected (r : MillReject) : exec (.millFrameRejected r) s = .next (rejectMillFrame r (countMillFrame s)) := if_pos up
    exact ⟨rejected _, fun src => ⟨rejected _, rejected _⟩, rejected _⟩

end Sys2Proof.Machine
end

section
/-! The links' coming and going with their time marks (R136, R145, R147), and the steps in which nothing is due: an idle
microsecond (log 2) and each command whose condition does not hold (log 1, log 5, log 17). -/

namespace Sys2Proof.Machine

-- One declaration at a time: with more threads the text would pass the check's memory limit.
set_option Elab.async false

/-! ### Time marks (R145) -/

theorem markDue_of_last {s : State} {m : Time} (last : s.headPort.lastMark = some m) :
    markDue s = (s.headPort.link == .up && s.headPort.markInFlight == none &&
      decide (1000 ≤ (s.headPort.partTime - m).toNat)) := by
  rw [markDue, last]
  rfl

theorem exec_timeMark_due {s : State} {m : Time} (up : s.headPort.link = .up) (free : s.headPort.markInFlight = none)
    (last : s.headPort.lastMark = some m) (due : 1000 ≤ (s.headPort.partTime - m).toNat) :
    exec .timeMark s = .next (startMark s) :=
  if_pos (by rw [markDue_of_last last, up, free, decide_eq_true due]; rfl)

theorem exec_timeMark_off {s : State} (off : markDue s = false) : exec .timeMark s = .next s :=
  if_neg (by simp [off])

theorem exec_timeMarkSent {s : State} {m : Time} (sending : s.headPort.markInFlight = some m) :
    exec .timeMarkSent s =
      .next (s.setHeadPort { s.headPort with
        markInFlight := none,
        counters := { s.headPort.counters with marksSent := min 4294967295 (s.headPort.counters.marksSent + 1) } }) := by
  change execTimeMarkSent s = _
  rw [execTimeMarkSent, sending]
  rfl

theorem exec_timeMarkSent_none {s : State} (idle : s.headPort.markInFlight = none) : exec .timeMarkSent s = .next s := by
  change execTimeMarkSent s = _
  rw [execTimeMarkSent, idle]

/-! ### Link states (R136, R147) -/

theorem LinkState.ne_up {l : LinkState} (down : l = .down) : l ≠ .up := by rw [down]; decide

theorem LinkState.ne_down {l : LinkState} (up : l = .up) : l ≠ .down := by rw [up]; decide

/-- R149: with every class queue empty no transmission starts. -/
theorem startTransmission_empty {s : State} (responses : s.mill.responseQ = []) (notices : s.mill.noticeQ = [])
    (summaries : s.mill.summaryQ = []) (maps : s.mill.mapQ = []) (readings : s.mill.readingQ = [])
    (mirrors : s.mill.mirrorQ = []) : startTransmission s = s := by
  rw [startTransmission, responses, notices, summaries, maps, readings, mirrors]
  exact ite_self _

theorem exec_millLinkUp {s : State} (down : s.mill.link = .down) :
    exec .millLinkUp s = .next (startTransmission (s.setMill { s.mill with link := .up })) :=
  if_neg (LinkState.ne_up down)

theorem exec_millLinkDown (cut : Bool) {s : State} (up : s.mill.link = .up) :
    exec (.millLinkDown cut) s =
      .next (s.setMill { s.mill with
        link := .down, transmitter := none, counters := s.mill.counters.linkDown cut s.mill.transmitter }) :=
  if_neg (LinkState.ne_down up)

/-- Settles O30: each change of link, with the mark or the transmission it starts or ends. -/
theorem linksComeAndGo : Obligations.LinksComeAndGo := by
  unfold Obligations.LinksComeAndGo
  refine ⟨fun s => ?_, fun s => ?_⟩ <;> dsimp only
  · exact ⟨fun down => if_neg (LinkState.ne_up down), fun cut up => if_neg (LinkState.ne_down up),
      fun m => exec_timeMark_due, fun m => exec_timeMarkSent⟩
  · refine ⟨fun down idle responses notices summaries maps readings mirrors => ?_, fun down idle => exec_millLinkUp down,
      fun cut up idle => ?_, fun cut f up sending => ?_⟩
    · exact (exec_millLinkUp down).trans (congrArg _ (startTransmission_empty (s := s.setMill { s.mill with link := .up })
        responses notices summaries maps readings mirrors))
    · rw [exec_millLinkDown cut up, idle]
      rfl
    · rw [exec_millLinkDown cut up, sending]
      rfl

/-! ### An idle step (R144) -/

theorem tick_eq (s : State) : tick s = s.setHeadPort { s.headPort with
    partTime := BitVec.ofNat 32 ((s.headPort.partTime.toNat + 1) % 4294967296) } := by
  have wraps : s.headPort.partTime + 1 = BitVec.ofNat 32 ((s.headPort.partTime.toNat + 1) % 4294967296) :=
    BitVec.eq_of_toNat_eq (by simp)
  rw [tick, wraps]

/-! ### Commands not due (logs 1, 5 and 17) -/

theorem tableSet_tableGet {α : Type} {n : Nat} (v : Vector α n) (i : Fin n) : tableSet v i (tableGet v i) = v :=
  Vector.set_getElem_self ..

/-- R28: a channel whose record does not expire keeps the whole state. -/
theorem exec_tempRecordExpiry_off {ch : ChannelNo} {s : State}
    (off : (tableGet s.headPort.channels ch).expire s.now = tableGet s.headPort.channels ch) :
    exec (.tempRecordExpiry ch) s = .next s := by
  rw [exec_tempRecordExpiry, off, tableSet_tableGet]
  rfl

theorem ChannelRecord.expire_none {now : Time} {r : ChannelRecord} (none : r.held = none) : r.expire now = r := by
  rw [ChannelRecord.expire, none]

theorem ChannelRecord.expire_young {now : Time} {r : ChannelRecord} {x : HeldTemperature} (held : r.held = some x)
    (young : (now - x.arrival).toNat < 2147483648) : r.expire now = r := by
  rw [ChannelRecord.expire, held]
  exact if_neg (by simpa [age] using young)

theorem exec_evaluationStart_empty {s : State} (empty : s.traceQueue = []) : exec .evaluationStart s = .next s := by
  change execEvaluationStart s = _
  rw [execEvaluationStart, empty]
  cases s.evaluator <;> rfl

/-! ### Request rows (R155) -/

/-- The rows of the operations, each with its operation. -/
def operationRows : List (Operation × Instr) :=
  [(.read, .read), (.write, .write), (.exchange, .exchange), (.clear, .clear), (.apply, .apply), (.mode, .mode),
    (.calibrate, .calibrate), (.abortCal, .abortCal), (.restart, .restart), (.status, .status)]

theorem exec_operationRow {x : Operation × Instr} (row : x ∈ operationRows) :
    ∃ work, ∀ s, exec x.2 s = .next (takeOldest (names x.1) work s) := by
  fin_cases row <;> exact ⟨_, fun _ => rfl⟩

/-- No row takes a request from an empty queue. -/
theorem exec_of_emptyQueue {s : State} (empty : s.mill.requestQ = []) :
    ∀ i ∈ operationRows.map Prod.snd ++ [Instr.undefinedOperation], exec i s = .next s := by
  intro i listed
  obtain operation | undefined := List.mem_append.mp listed
  · obtain ⟨x, row, rfl⟩ := List.mem_map.mp operation
    obtain ⟨work, taken⟩ := exec_operationRow row
    rw [taken, takeOldest_empty empty]
  · obtain rfl := List.mem_singleton.mp undefined
    exact congrArg _ (takeOldest_empty empty)

theorem isUndefined_defined {r : Request} {op : Operation} (named : operationOf r.operation = some op)
    (table : op ∈ [Operation.read, .write, .exchange, .clear] → (tableOf r.table).isSome = true) :
    isUndefined r = false := by
  rw [isUndefined, named]
  cases op with
  | read | write | exchange | clear => simpa using table (by decide)
  | apply | mode | calibrate | abortCal | restart | status => rfl

/-- Settles O60: each condition that does not hold, by the branch of its command that leaves the state as it is. -/
theorem idleStepsAndCommandsNotDue : Obligations.IdleStepsAndCommandsNotDue := by
  unfold Obligations.IdleStepsAndCommandsNotDue
  intro s
  refine ⟨fun empty => ?_, fun up => if_pos up, fun down => ?_, fun up => if_pos up, fun down => ?_,
    fun h off => if_neg (by simp [off]), fun off => if_neg (by simp [off]), fun c off => if_neg (by simp [off]),
    fun idle => ?_, fun x run young => ?_, fun m last young => ?_, fun m sending => ?_, exec_timeMarkSent_none,
    fun ch held => exec_tempRecordExpiry_off (ChannelRecord.expire_none held),
    fun ch x held young => exec_tempRecordExpiry_off (ChannelRecord.expire_young held young),
    fun idle => ?_, exec_evaluationStart_empty, fun idle => ⟨?_, ?_⟩, fun idle => ?_,
    fun idle => congrArg _ (releaseHeld_idle idle), fun empty => exec_of_emptyQueue empty, fun r rest queue => ⟨fun x row other => ?_, fun op named table => ?_⟩⟩
  · rw [← tick_eq, step, empty]
  · have off := LinkState.ne_up down
    exact ⟨fun _ => if_pos down, fun _ => if_neg off, fun _ => if_neg off, fun _ => if_neg off, fun _ => if_neg off,
      exec_timeMark_off (by simp [markDue, down])⟩
  · have off := LinkState.ne_up down
    exact ⟨fun _ => if_pos down, fun _ => if_neg off, fun _ => if_neg off,
      congrArg _ (if_neg fun ready => off ready.1)⟩
  · exact congrArg _ (expireRun_off (by rw [calibrationDue, idle]))
  · exact congrArg _ (expireRun_off (by rw [calibrationDue, run]; exact decide_eq_false (Nat.not_le.mpr young)))
  · exact exec_timeMark_off (by rw [markDue_of_last last, decide_eq_false (Nat.not_le.mpr young), Bool.and_false])
  · exact exec_timeMark_off (by simp [markDue, sending])
  · change execEvaluationCompletion s = _
    rw [execEvaluationCompletion, idle]
  · change execMapFrameQueued s = _
    rw [execMapFrameQueued, idle]
  · change execMapEndQueued s = _
    rw [execMapEndQueued, idle]
  · change execTransmissionCompletion s = _
    rw [execTransmissionCompletion, idle]
  · obtain ⟨work, taken⟩ := exec_operationRow row
    rw [taken, takeOldest_unwanted queue (by simpa [names] using other)]
  · exact congrArg _ (takeOldest_unwanted queue (isUndefined_defined named table))

end Sys2Proof.Machine
end
